-- ==== Sys2Proof/Word.lean ====
section
/-! DEFINITION. The one word type of the part: a byte of the link, of a sector or of a record. -/

namespace Sys2Proof

/-- A byte of a frame, of a sector or of a record image (R194). -/
abbrev Byte := BitVec 8

end Sys2Proof
end

