-- ==== Sys2Proof/Syntax.lean ====
section
/-! DEFINITION. The commands and events of the F312, one constructor for each row of
spec/opcode_table.json. An operand is what the pins carry at that step: a byte of the link, a servo
sample, the levels read at a reset. A row whose work is described by state already held in the part
(the queue entry, a pending request, a running timer) has no operand. -/

namespace Sys2Proof

/-- The receive errors that RECEIVE_ERROR stands for (R190): the gap expiry and the turn of DIR are
rows of their own. -/
inductive RecvError
  | evenParity
  | badKind
  | badLength
  deriving DecidableEq, Repr

/-- What the read/write channel has delivered on the read-data line by a sector end (R112): the
identification found (cylinder, head, sector), whether the data check was correct, and the bytes. -/
structure ReadSignal where
  ident   : Option (Nat × Nat × Nat)
  checkOk : Bool
  data    : List Byte
  deriving DecidableEq, Repr

/-- The input levels that a hard reset reads (R23, R73, R159): SEATED, the notch sensors (true: sensed),
WPROT (true: protected), PARK and SUPWARN (true: high). `rst`: RST stays asserted after the row
(R193). -/
structure Levels where
  seated  : Bool
  notchA  : Bool
  notchB  : Bool
  wprot   : Bool
  park    : Bool
  supwarn : Bool
  rst     : Bool
  deriving DecidableEq, Repr

/-- One constructor per row of the table of operations and events. -/
inductive Instr
  /-- COMMAND_FRAME (R174): the body of a command frame received whole: code, tag, parameters. -/
  | commandFrame (body : List Byte)
  /-- DATA_FRAME (R120): the body of a data frame received whole. -/
  | dataFrame (body : List Byte)
  /-- RECEIVE_ERROR (R190). -/
  | receiveError (e : RecvError)
  /-- BYTE_GAP_EXPIRY (R190). -/
  | byteGapExpiry
  /-- DISCARD_QUIET_EXPIRY (R190). -/
  | discardQuietExpiry
  /-- BUS_GRANT (R192): DIR turns high. -/
  | busGrant
  /-- DIR_LOW_DURING_SEND (R192). -/
  | dirLowDuringSend
  /-- FRAME_SENT (R192). -/
  | frameSent
  /-- KIND_BYTE_TAKES_PLACE (R191). -/
  | kindByteTakesPlace
  /-- REPLY_TAKES_PLACE (R177). -/
  | replyTakesPlace
  /-- HARD_RESET (R23, R193), with the levels read: RST is asserted, or released, or the supply has
  returned. -/
  | hardReset (levels : Levels)
  /-- SPIN_UP (R84): the queue head takes the slot. -/
  | spinUp
  /-- SPIN_DOWN (R167). -/
  | spinDown
  /-- SEEK (R70). -/
  | seek
  /-- READ (R115). -/
  | read
  /-- WRITE (R120). -/
  | write
  /-- VERIFY (R119). -/
  | verify
  /-- REASSIGN (R102). -/
  | reassign
  /-- FORMAT (R132). -/
  | format
  /-- REST (R161). -/
  | rest
  /-- EJECT (R11). -/
  | eject
  /-- READ_TABLE (R107). -/
  | readTable
  /-- SET_PARAMETER (R170). -/
  | setParameter
  /-- SAVE_SETTINGS (R171). -/
  | saveSettings
  /-- SAVE_SETTINGS_READ_BACK (R171), with the sixteen bytes read back. -/
  | saveSettingsReadBack (area : List Byte)
  /-- LOAD_DEFAULTS (R172). -/
  | loadDefaults
  /-- SENSE (R180): a SENSE frame with this tag. -/
  | sense (tag : Byte)
  /-- CLEAR_ATTENTION (R182): a frame with this tag naming these causes. -/
  | clearAttention (tag : Byte) (causes : BitVec 16)
  /-- ABORT (R179). -/
  | abort (tag : Byte)
  /-- HOLD (R8). -/
  | hold (tag : Byte)
  /-- RELEASE (R8). -/
  | release (tag : Byte)
  /-- RESET (R183). -/
  | reset (tag : Byte)
  /-- CANCELLED_COMMAND_TAKES_SLOT (R176). -/
  | cancelledCommandTakesSlot
  /-- AUTO_START (R6). -/
  | autoStart
  /-- BUTTON_EJECT (R10). -/
  | buttonEject
  /-- TIMED_WAKE (R165). -/
  | timedWake
  /-- SOFT_RESET_PARK (R184). -/
  | softResetPark
  /-- INSERTION (R2): SEATED rises, with the notch sensors (true: sensed) and WPROT (true:
  protected). -/
  | insertion (notchA notchB wprot : Bool)
  /-- SEATED_FALLING (R4). -/
  | seatedFalling
  /-- EJECT_BUTTON_PRESS (R9). -/
  | ejectButtonPress
  /-- RELEASE_WINDOW_EXPIRY (R20). -/
  | releaseWindowExpiry
  /-- INDEX_ARRIVAL (R27), with what the channel has read of sector 15 if it was reading it. -/
  | indexArrival (sig : ReadSignal)
  /-- KICK_TIMER_EXPIRY (R29). -/
  | kickTimerExpiry
  /-- ACCEL_GAP_SATURATION (R30). -/
  | accelGapSaturation
  /-- SPIN_UP_TIMER_EXPIRY (R31). -/
  | spinUpTimerExpiry
  /-- INDEX_LOSS (R34). -/
  | indexLoss
  /-- STOP_TIMER_EXPIRY (R38). -/
  | stopTimerExpiry
  /-- BRAKE_TIMER_EXPIRY (R38). -/
  | brakeTimerExpiry
  /-- MARK_STROBE (R50): the decoded cylinder, PE in 1/256 track, whether the strobe is that of
  sample 0 (it comes together with the index, R111), the level of PARK at the strobe, and what the
  channel has read if a sector being read ends here. -/
  | markStrobe (cylinder : Nat) (pe : Int) (withIndex : Bool) (park : Bool) (sig : ReadSignal)
  /-- MISSING_SAMPLE_DECLARATION (R43). -/
  | missingSampleDeclaration
  /-- SERVO_LOSS (R63): the eighth consecutive declaration. -/
  | servoLoss
  /-- SEEK_TIMEOUT (R60). -/
  | seekTimeout
  /-- LOAD_TIMER_EXPIRY (R53), with the level of PARK then. -/
  | loadTimerExpiry (park : Bool)
  /-- RETRACT_TIMER_EXPIRY (R65). -/
  | retractTimerExpiry
  /-- EMERGENCY_TIMER_EXPIRY (R67). -/
  | emergencyTimerExpiry
  /-- PARK_RISES (R65). -/
  | parkRises
  /-- WRITE_FAULT (R123). -/
  | writeFault
  /-- DATA_TIMER_EXPIRY (R127). -/
  | dataTimerExpiry
  /-- GATE_WAIT_TIMER_EXPIRY (R121). -/
  | gateWaitTimerExpiry
  /-- FORMAT_READ_WAIT_EXPIRY (R136). -/
  | formatReadWaitExpiry
  /-- COPY_ATTEMPT_TIMER_EXPIRY (R90). -/
  | copyAttemptTimerExpiry
  /-- SUPWARN_FALLS (R157). -/
  | supwarnFalls
  /-- SUPWARN_RISES (R158). -/
  | supwarnRises
  /-- REST_TIMER_EXPIRY (R165). -/
  | restTimerExpiry
  /-- BYTE_RECEIVED (R189): the byte on D0..D7 and the level of DP. -/
  | byteReceived (data : Byte) (dp : Bool)
  deriving DecidableEq, Repr

end Sys2Proof
end

