-- ==== Sys2Proof/Decode.lean ====
section
/-! DEFINITION. The command that a word spells. The F312 takes commands as frames and events; no row
of spec/opcode_table.json gives bits, so no word spells a command. -/

namespace Sys2Proof

/-- The command that an instruction word spells by the table's bits: none has any. -/
def decodeTableWord (_nbits _w : Nat) : Option Instr := none

end Sys2Proof
end

