-- ==== Sys2Proof/Config.lean ====
section
/-! DEFINITION. The constants the spec fixes for the part, and the four free values. Times are in
ticks of 1 µs (spec/00_scope.md, Conventions). -/

namespace Sys2Proof.Config

/-- Kick timer, 3 s (R29). -/
def kickTime : Nat := 3000000
/-- Spin-up timer, 15 s (R31). -/
def spinUpTime : Nat := 15000000
/-- Stop timer, 1 s without an index (R38). -/
def stopTime : Nat := 1000000
/-- Brake timer, 10 s (R38). -/
def brakeTime : Nat := 10000000
/-- Saturation of the gap timer and bound of P (R25). -/
def gapMax : Nat := 1000000
/-- Gap limit of REGULATE and AT_SPEED (R34). -/
def gapLimit : Nat := 50000
/-- Nominal period, 25,000 µs (R32). -/
def nominalPeriod : Nat := 25000
/-- ACCEL gives way to REGULATE at or below this period (R30). -/
def regulateThreshold : Nat := 25500
/-- Half-width of the lock window (R25). -/
def lockHalf : Nat := 125
/-- Half-width of the deviation window (R25). -/
def deviationHalf : Nat := 250
/-- First missing-sample declaration after a valid sample (R43). -/
def missFirst : Nat := 1200
/-- Each further declaration (R43). -/
def missNext : Nat := 781
/-- Good samples that relock the cell clock (R45). -/
def relockCount : Nat := 32
/-- Load timer (R52). -/
def loadTime : Nat := 500000
/-- Retract timer (R65). -/
def retractTime : Nat := 300000
/-- Emergency timer (R66). -/
def emergencyTime : Nat := 2000000
/-- Release window (R18). -/
def releaseWindow : Nat := 2000000
/-- Limit of a record copy attempt (R90). -/
def copyAttemptTime : Nat := 250000
/-- Byte gap timer and the quiet time of DISCARD (R190). -/
def byteGapTime : Nat := 100000
/-- One second, and one minute, in ticks. -/
def second : Nat := 1000000
def minute : Nat := 60000000
/-- Seek and settle limits (R54 to R60). -/
def coarseLimit : Nat := 512
def settleWindow : Nat := 32
def offTrackWindow : Nat := 48
def settleCount : Nat := 4
def offTrackCount : Nat := 3
def seekSamples : Nat := 400
def missingLimit : Nat := 8
/-- Queue entries and outbox places (R175). -/
def queueMax : Nat := 4
def outboxMax : Nat := 8
/-- Attempts of a record copy write (R90). -/
def copyAttempts : Nat := 3
/-- Bytes of a sector (R112) and of the image store (R75). -/
def sectorBytes : Nat := 512
def imageBytes : Nat := 3248

/-- FREE VALUE. The content of byte `i` of the user area after a hard reset that fell between a
SAVE SETTINGS and its read-back, for the `k`-th such reset: R171 says only that the area is left "as
the write left it". Nothing constrains it (log entry 3). -/
opaque interruptedSaveByte (k i : Nat) : Byte

/-- FREE VALUE. The content of byte `i` of the user area after a SAVE SETTINGS whose read-back
differed, for the `k`-th use of a free value: R171 calls it uncertain. Nothing constrains it (log
entry 71). -/
opaque failedSaveByte (k i : Nat) : Byte

/-- FREE VALUE. Whether the host adapter acknowledges the byte that the part drives within the present
tick, for the `k`-th use of a free value: by R188 the part waits without a limit of its own, and the host
sets the pace. Nothing constrains it (log entry 16). -/
opaque hostAcknowledges (k : Nat) : Bool

/-- FREE VALUE. The record result byte of a write-back that ended WRITE PROTECTED: R89 names that result
and section 12.2 gives it no code. Nothing constrains it (log entry 65). -/
opaque writeProtectedResult : Byte

end Sys2Proof.Config
end

