-- ==== Sys2Proof/Machine/State.lean ====
section
/-! DEFINITION. The state of the F312, block by block, as plain data, and the state after a hard
reset with no cartridge seated. Every field cites the rule that names it; the fields of the model's
own (the queue of waiting commands, the transient answers between blocks, the counter of the free
values, the counts of R177) say so. -/

namespace Sys2Proof.Machine

/-- A timer: stopped, or running with the microseconds left. -/
abbrev Timer := Option Nat

/-! ### Cartridge handler -/

/-- The two cartridge types; an unknown type is `none` (R1). -/
inductive CartType
  | a
  | b
  deriving DecidableEq, Repr

/-- The reason of a REFUSED cartridge (R1). -/
inductive RefusedReason
  | typeUnknown
  | typeConflict
  | recordDamaged
  deriving DecidableEq, Repr

/-- The cartridge state (R1). -/
inductive CartState
  | empty
  | present
  | starting
  | ready
  | blank
  | refused (r : RefusedReason)
  | unloading
  | released
  deriving DecidableEq, Repr

/-- The stages of an eject sequence (section 1.5). The write-back stage is split in its wait for the
spindle and the write-back itself (R13). -/
inductive EjectStage
  | writeBackSpin
  | writeBack
  | park
  | brake
  | release
  | leaveOrJam
  deriving DecidableEq, Repr

/-- The eject progress (R1): its kind, the force option, its stage and the release window timer. -/
structure Eject where
  button : Bool
  force  : Bool
  stage  : EjectStage
  window : Timer
  deriving DecidableEq, Repr

/-- The state of the cartridge handler (R1). Pending requests stand with the command unit. -/
structure Cartridge where
  state   : CartState
  type    : Option CartType
  wp      : Bool
  hold    : Bool
  latch   : Bool
  origin  : Option CartState
  eject   : Option Eject
  deriving DecidableEq, Repr

/-! ### Spindle controller and cell clock -/

/-- The spindle state (R25). -/
inductive SpindleState
  | stopped
  | kick
  | accel
  | regulate
  | atSpeed
  | coasting
  | braking
  deriving DecidableEq, Repr

/-- The mode of the three phase outputs (R26). -/
inductive PhaseMode
  | float
  | drive
  | short
  deriving DecidableEq, Repr

/-- The state of the spindle controller (R25). -/
structure Spindle where
  state        : SpindleState
  deviating    : Bool
  drive        : Nat
  period       : Nat
  gap          : Nat
  inCount      : Nat
  outCount     : Nat
  kick         : Timer
  spinUp       : Timer
  stop         : Timer
  brake        : Timer
  brakeFailed  : Bool
  pendingStart : Bool
  deriving DecidableEq, Repr

/-- The state of the cell clock unit (R42): MARK_LOCKED or REFERENCE, the good-sample count and the
missing-sample timer. -/
structure Clock where
  locked : Bool
  good   : Nat
  miss   : Timer
  deriving DecidableEq, Repr

/-! ### Head positioner -/

/-- The positioner state (R47). -/
inductive PosState
  | parked
  | loading
  | seeking
  | settling
  | following
  | coasting
  | retracting
  | emergency
  deriving DecidableEq, Repr

/-- A target: a cylinder and an offset of −32, 0 or +32 (R47). -/
structure Target where
  cyl    : Nat
  offset : Int
  deriving DecidableEq, Repr

/-- The block whose target request is outstanding (R51). -/
inductive Requester
  | seek
  | channel
  | record
  | format
  | wake
  deriving DecidableEq, Repr

/-- Why a load condition failed (R52), in the order in which they are checked. -/
inductive NotLoaded
  | notAtSpeed
  | faultHeld
  | typeUnknown
  deriving DecidableEq, Repr

/-- How a target request ends (section 3.3). -/
inductive TargetOutcome
  | complete
  | notLoaded (why : NotLoaded)
  | failed
  | ended
  deriving DecidableEq, Repr

/-- The state of the head positioner (R47). `xp = none` is "Xp is unset" (R52). `landHere` is the
mark an aborted SEEK leaves in LOADING (R72). -/
structure Positioner where
  state       : PosState
  target      : Option Target
  requester   : Option Requester
  held        : Option (Target × Option Requester)
  x           : Int
  xp          : Option Int
  cylinder    : Nat
  remembered  : PosState
  settle      : Nat
  offTrack    : Nat
  missing     : Nat
  seekCount   : Nat
  restartUsed : Bool
  load        : Timer
  retract     : Timer
  emergency   : Timer
  resume      : Nat
  current     : Int
  landHere    : Bool
  deriving DecidableEq, Repr

/-! ### Record unit -/

/-- One entry of a reassignment list (R94). -/
structure ListEntry where
  offset : Nat
  spare  : Nat
  deriving DecidableEq, Repr

/-- One zone entry (R94). Spare index k is bit k of the bitmap (R196); a Type A zone uses bits
0..7. -/
structure Zone where
  spares : BitVec 32
  list   : List ListEntry
  deriving DecidableEq, Repr

/-- A full session record (R75). The zone count is the length of the zone table. -/
structure Session where
  type       : CartType
  lock       : Bool
  generation : BitVec 16
  serial     : BitVec 32
  zones      : List Zone
  deriving DecidableEq, Repr

/-- The session: absent, type-only or full (R75). -/
inductive SessionState
  | absent
  | typeOnly (t : CartType)
  | full (r : Session)
  deriving DecidableEq, Repr

/-- The copy status (R75). -/
inductive CopyStatus
  | none
  | good
  | degraded
  deriving DecidableEq, Repr

/-- The classification of a copy (R75, R80). -/
inductive CopyClass
  | notRead
  | absent
  | damaged
  | valid
  deriving DecidableEq, Repr

/-- The reason of an ABSENT or DAMAGED copy (R80). -/
inductive CopyReason
  | none
  | unreadable
  | noMark
  | version
  | type
  | zoneCount
  | length
  | sum
  | list
  deriving DecidableEq, Repr

/-- The header values the load report keeps (R75). -/
structure HeaderSeen where
  generation : BitVec 16
  type       : Byte
  flags      : Byte
  deriving DecidableEq, Repr

/-- The load report of one copy (R75). -/
structure CopyReport where
  cls    : CopyClass
  reason : CopyReason
  header : Option HeaderSeen
  deriving DecidableEq, Repr

/-- The load report (R75): both copies and the chosen copy, 0, 1 or none. -/
structure LoadReport where
  copy0  : CopyReport
  copy1  : CopyReport
  chosen : Option Nat
  deriving DecidableEq, Repr

/-- What a VALID copy says, as the choice needs it (R82, R83). -/
structure RecordCopy where
  session    : Session
  inProgress : Bool
  deriving DecidableEq, Repr

/-- The load progress (R75): the copy and sector being read, the attempt, the offset, the first-pass
mark. `limit` is the retry limit in force when the load began (R168), `waiting` that the target
request of an offset is outstanding, `report0` and `copy0` what was found of copy 0. -/
structure Load where
  copy      : Nat
  sector    : Nat
  attempt   : Nat
  offset    : Int
  firstPass : Bool
  limit     : Nat
  waiting   : Bool
  report0   : CopyReport
  copy0     : Option RecordCopy
  deriving DecidableEq, Repr

/-- Who asked for a copy write: a write-back of the session (R89) or the format unit (R134, R138). -/
inductive CopyOwner
  | writeBack
  | format
  deriving DecidableEq, Repr

/-- The copy write progress (R75, R90): the copy, the attempt number 1..3, the pass and the attempt
timer. `targeting`: the target request for cylinder 0 is outstanding (R89). `armed`: the attempt
waits for the next start of sector 0. `expired`: the limit passed while a sector was being written.
`written0`: whether copy 0 was written. -/
structure CopyWrite where
  owner     : CopyOwner
  targeting : Bool
  copy      : Nat
  attempt   : Nat
  readBack  : Bool
  sector    : Nat
  armed     : Bool
  timer     : Timer
  expired   : Bool
  written0  : Bool
  deriving DecidableEq, Repr

/-- The state of the record unit (R75). -/
structure Record where
  session    : SessionState
  copyStatus : CopyStatus
  unsaved    : Bool
  report     : LoadReport
  image      : List Byte
  load       : Option Load
  copyWrite  : Option CopyWrite
  deriving DecidableEq, Repr

/-- The result of a write-back (R89, R91): the record result codes 0 to 3 of 12.2, and the WRITE PROTECTED of
R89, which has no code there (log entry 65). -/
inductive RecordResult
  | notMade
  | both
  | one
  | neither
  | writeProtected
  deriving DecidableEq, Repr

/-! ### Outcomes -/

/-- The outcome codes (12.2). -/
inductive OutcomeCode
  | done
  | recovered
  | queueFull
  | notReady
  | unformatted
  | refusedCartridge
  | writeProtected
  | outOfRange
  | badParameter
  | unknownCommand
  | dataCheck
  | seekFailed
  | writeFault
  | faulted
  | faultPending
  | sparesExhausted
  | aborted
  | cancelled
  | recordWriteFailed
  | recordDamaged
  | dataTimeout
  | formatLocked
  | ejectJammed
  | settingsWriteFailed
  deriving DecidableEq, Repr

/-! ### Sector channel -/

/-- A place on the medium. -/
structure Place where
  cyl    : Nat
  head   : Nat
  sector : Nat
  deriving DecidableEq, Repr

/-- The sector read or sector write in progress (R112, R122); a write carries the bytes on the
write-data line. -/
inductive SectorOp
  | read (p : Place)
  | write (p : Place) (data : List Byte)
  deriving DecidableEq, Repr

/-- A slot of the sector buffer (R110). -/
inductive BufSlot
  | free
  | awaiting (idx : Nat)
  | holding (idx : Nat) (data : List Byte)
  deriving DecidableEq, Repr

/-- A data request sent whole and not answered, with its data timer (R110, R127). -/
structure Outstanding where
  idx   : Nat
  timer : Timer
  deriving DecidableEq, Repr

/-- The three data commands (R110). -/
inductive DataCommand
  | read
  | write
  | verify
  deriving DecidableEq, Repr

/-- Where a data command stands (R114): waiting for the spindle, beginning a block, waiting for a
target outcome, at the block's sector, at its read-back (R125), at its end-of-command write-back
(R126), or waiting for its frames (R118, R126). -/
inductive DataPhase
  | spin
  | begin
  | target
  | sector
  | back
  | save
  | drain
  deriving DecidableEq, Repr

/-- The transfer context (R110). The fields after `abortPending` are the model's: the phase, the
offset's retry limit and write verify in force (R117, R168), the next block to request (R120), the
chain mark and the reassignment mark of R125, the fixed outcome, a data timeout that waits for the
sector end (R127), and the record result (R126). -/
structure Transfer where
  cmd          : DataCommand
  tag          : Byte
  first        : Nat
  count        : Nat
  idx          : Nat
  done         : Nat
  place        : Place
  spare        : Option Nat
  attempt      : Nat
  offset       : Int
  firstPass    : Bool
  recovered    : Bool
  failing      : Option Nat
  torn         : Option Nat
  reassigned   : Nat
  abortPending : Bool
  phase        : DataPhase
  limit        : Nat
  verifyOn     : Bool
  nextRequest  : Nat
  chain        : Bool
  mark         : Bool
  outcome      : OutcomeCode
  timedOut     : Bool
  result       : RecordResult
  deriving DecidableEq, Repr

/-- Where a REASSIGN stands (R103 to R105). -/
inductive ReassignPhase
  | spin
  | readTarget
  | read
  | writeTarget
  | write
  | back
  | save
  deriving DecidableEq, Repr

/-- The REASSIGN context (R110). The phase, the retry limit in force, the outcome, the record result
and `timedOut`, a data timeout that waits for the end of the spare's sector (R104, R127), are the
model's. -/
structure Reassign where
  tag          : Byte
  lba          : Nat
  place        : Place
  attempt      : Nat
  offset       : Int
  firstPass    : Bool
  allocated    : Bool
  spare        : Option Nat
  dataLost     : Bool
  torn         : Bool
  abortPending : Bool
  phase        : ReassignPhase
  limit        : Nat
  outcome      : OutcomeCode
  timedOut     : Bool
  result       : RecordResult
  deriving DecidableEq, Repr

/-- The state of the sector channel (R110). WGATE is asserted while a sector write is in progress
(R122); the line requests and the outstanding requests are kept apart as R187 and R189 do. -/
structure Channel where
  transfer     : Option Transfer
  slot0        : BufSlot
  slot1        : BufSlot
  outstanding  : List Outstanding
  wgate        : Bool
  writeCurrent : Nat
  op           : Option SectorOp
  readyTimer   : Timer
  gateWait     : Timer
  rotation     : Nat
  reassign     : Option Reassign
  lastHead     : Nat
  deriving DecidableEq, Repr

/-! ### Format unit -/

/-- The phase of a FORMAT (R131). -/
inductive FormatPhase
  | preparing
  | marking
  | writing
  | verifying
  | finishing
  deriving DecidableEq, Repr

/-- What a FORMAT waits for inside its phase (R133 to R138). -/
inductive FormatStep
  | spin
  | target
  | copies
  | track
  | spares
  | users
  deriving DecidableEq, Repr

/-- The format context (R131). `head`, `seen`, `zone`, `index` say which track, sectors, zone and
spare are in work; `waits` holds the wait timer of each slot whose pass was let go (R135, R136);
`step` and `torn` are the model's view of the work in hand and of the torn place of R139. -/
structure Format where
  serial       : BitVec 32
  lock         : Bool
  verify       : Bool
  type         : CartType
  phase        : FormatPhase
  cylinder     : Nat
  zones        : List Zone
  retired      : Nat
  reassigned   : Nat
  exhausted    : Option Nat
  abortPending : Bool
  step         : FormatStep
  head         : Nat
  seen         : List Nat
  zone         : Nat
  index        : Nat
  userPart     : Bool
  waits        : List (Nat × Nat)
  torn         : Option Place
  deriving DecidableEq, Repr

/-! ### Fault unit -/

/-- The fault classes with their forms (section 8.1). -/
inductive FaultClass
  | supplyLoss
  | stallSpinUp
  | stallIndexLoss
  | stallBrake
  | servoLoss
  | offTrack
  | writeFault
  | seekLoad
  | seekSeek
  | seekPark
  | speedDeviation
  | dataCheck
  deriving DecidableEq, Repr

/-- A fault record (R142). -/
structure FaultRecord where
  cls   : FaultClass
  cyl   : Nat
  head  : Nat
  tag   : Option Byte
  lba   : Option Nat
  count : Nat
  deriving DecidableEq, Repr

/-- The state of the fault unit (R142). -/
structure FaultUnit where
  slot    : Option FaultRecord
  holder  : Option FaultRecord
  warning : Bool
  deriving DecidableEq, Repr

/-! ### Rest control and settings store -/

/-- The rest state (R160). -/
inductive RestState
  | none
  | idle
  | standby
  deriving DecidableEq, Repr

/-- The state of rest control (R160). -/
structure RestControl where
  state      : RestState
  wakeActive : Bool
  timer      : Timer
  deriving DecidableEq, Repr

/-- The four user values (R168). -/
structure UserSettings where
  retry       : Nat
  timeout     : Nat
  autoStart   : Bool
  writeVerify : Bool
  deriving DecidableEq, Repr

/-- A trim set (R168). -/
structure Trims where
  wc : Nat
  kv : Nat
  kp : Nat
  kd : Nat
  gs : Nat
  deriving DecidableEq, Repr

/-- The state of the settings store (R168). `saving` is the image being written between a SAVE
SETTINGS and its read-back (R171). The factory area is constant: see `factoryTrims`. -/
structure Settings where
  userArea : List Byte
  active   : UserSettings
  image    : UserSettings
  trims    : Trims
  saving   : Option (List Byte)
  deriving DecidableEq, Repr

/-! ### Command unit -/

/-- A reply frame (R195). `queued` (the model's mark) says that it answers an accepted queued
command, for the count of R177. -/
structure Reply where
  tag     : Byte
  code    : Byte
  outcome : OutcomeCode
  fields  : List Byte
  queued  : Bool
  deriving DecidableEq, Repr

/-- A queue entry (R173). -/
structure Entry where
  code      : Byte
  tag       : Byte
  params    : List Byte
  cancelled : Bool
  deriving DecidableEq, Repr

/-- The item in the execution slot (R173). -/
inductive Item
  | free
  | command (e : Entry)
  | autoStart
  | buttonEject
  | timedWake
  | softReset (tag : Byte)
  deriving DecidableEq, Repr

/-- How far the item in the slot has come: the stage its rule names. `replying` is the reply-waiting
mark with the reply that waits (R177). The stages of READ, WRITE, VERIFY, REASSIGN, FORMAT and of an
eject stand in their own contexts. -/
inductive Work
  | idle
  | startSpin
  | startHeads
  | startLoad
  | spinOnly
  | reloadSave
  | reloadSpin
  | reloadHeads
  | reloadLoad
  | seekSpin
  | seekTarget
  | data
  | reassign
  | format
  | restSave
  | restPark
  | restStop
  | downSpin
  | downSave
  | downPark
  | downStop
  | eject
  | wakeSpin
  | wakeTarget
  | resetPark
  | saving
  | replying (r : Reply)
  deriving DecidableEq, Repr

/-- The execution slot (R173). `faulted` and `result` are kept for the reply of REST and SPIN DOWN
(R162, R167). -/
structure Slot where
  item         : Item
  abortPending : Bool
  work         : Work
  faulted      : Bool
  result       : RecordResult
  deriving DecidableEq, Repr

/-- The state of the command unit (R173), with the attention set (R181: bit n is cause n of 12.2)
and the counts of R177: the queued commands accepted, and their replies sent, since the last hard
reset. -/
structure CommandUnit where
  queue       : List Entry
  slot        : Slot
  pendAuto    : Bool
  pendEject   : Bool
  pendWake    : Bool
  resets      : List Byte
  attention   : BitVec 16
  accepted    : Nat
  repliesSent : Nat
  deriving DecidableEq, Repr

/-! ### Link interface -/

/-- The two kinds the part receives (11.3). -/
inductive FrameKind
  | command
  | data
  deriving DecidableEq, Repr

/-- The receive assembly (R187, R189). -/
inductive Assembly
  | idle
  | kind (k : FrameKind)
  | length (k : FrameKind) (hi : Byte)
  | body (k : FrameKind) (len : Nat) (bytes : List Byte)
  | discard
  deriving DecidableEq, Repr

/-- The frame being sent (R187). A data request whose WRITE ended while its frame was being sent is
`withdrawn`: the frame is completed and is no request any more (R126; log entry 46). -/
inductive Outbound
  | reply (r : Reply)
  | request (tag : Byte) (idx : Nat)
  | withdrawn (tag : Byte) (idx : Nat)
  | data (idx : Nat) (bytes : List Byte)
  deriving DecidableEq, Repr

/-- The state of the link interface (R187). `heldFrame`: a place is held for the command frame in
reception. `kindWaiting`: a command kind byte waits unacknowledged (R191). `gap` is the byte gap
timer, `quiet` the 100 ms of DISCARD. `acked` is the number of bytes of the frame being sent that
are acknowledged. The places held by RESET commands are `resets` of the command unit. The outputs
REQ, ATN and the driven data lines are `req`, `atn` and `driven` of Machine/Flags.lean and
Machine/Ops.lean. -/
structure Link where
  assembly    : Assembly
  gap         : Timer
  quiet       : Timer
  outbox      : List Reply
  heldFrame   : Bool
  kindWaiting : Bool
  line        : List (Byte × Nat)
  send        : Option Outbound
  acked       : Nat
  deriving DecidableEq, Repr

/-- The input levels of the part (11.1), as last seen. `notchA`, `notchB` and `wprot` are those read
at the last insertion or hard reset; `rst` is RST asserted (R193). -/
structure Pins where
  dir     : Bool
  seated  : Bool
  notchA  : Bool
  notchB  : Bool
  wprot   : Bool
  park    : Bool
  supwarn : Bool
  rst     : Bool
  deriving DecidableEq, Repr

/-! ### The model's transient answers -/

/-- How a sector read or write ended (R112, R122, R124). -/
inductive SectorResult
  | readOk (data : List Byte)
  | readFailed
  | interrupted
  | written
  | cut
  deriving DecidableEq, Repr

/-- How a record load ended (R82, R87). -/
inductive LoadResult
  | chosen (r0 r1 : CopyReport) (c0 c1 : Option RecordCopy)
  | failed
  | stopped
  deriving DecidableEq, Repr

/-- THE MODEL'S OWN: the answers that blocks give one another inside one step. All are absent
between steps. `note` is the End instruction that reached the executing item first (R146). -/
structure Mail where
  told   : Option TargetOutcome
  sector : Option SectorResult
  note   : Option FaultClass
  copies : Option (Bool × Bool)
  saved  : Option RecordResult
  load   : Option LoadResult
  deriving DecidableEq, Repr

/-- The state of the part, with the queue of commands that wait to be taken (the model's). `freeUsed`
(the model's) counts the uses of the free values of Config. -/
structure State where
  pins     : Pins
  link     : Link
  cu       : CommandUnit
  cart     : Cartridge
  spin     : Spindle
  clk      : Clock
  pos      : Positioner
  record   : Record
  chan     : Channel
  fmt      : Option Format
  fault    : FaultUnit
  rest     : RestControl
  set      : Settings
  mail     : Mail
  freeUsed : Nat
  pending  : List Instr
  deriving DecidableEq, Repr

/-- There is no condition in which the part stops: a fault of the drive is recorded in the fault
slot and the part goes on (chapter 8). The type has no constructor. -/
inductive Fault
  deriving DecidableEq, Repr

/-- The reasons for which a command has no next state. -/
inductive Refusal
  /-- Raised by an arm of `exec` whose command has no meaning yet. Safe: nothing can be proved of
  the command's effect. No arm answers it. -/
  | notModelled (mnemonic : String)
  deriving DecidableEq, Repr

/-! ### After a hard reset -/

/-- No answer is under way. -/
def Mail.none : Mail :=
  { told := .none, sector := .none, note := .none, copies := .none, saved := .none, load := .none }

/-- The execution slot when it is free (R186). -/
def Slot.free : Slot :=
  { item := .free, abortPending := false, work := .idle, faulted := false, result := .notMade }

/-- A copy that no load has read (R93). -/
def CopyReport.notRead : CopyReport := { cls := .notRead, reason := .none, header := .none }

/-- The load report with both copies NOT READ and no chosen copy (R93). -/
def LoadReport.none : LoadReport :=
  { copy0 := .notRead, copy1 := .notRead, chosen := .none }

/-- The built-in defaults (R168). -/
def UserSettings.builtIn : UserSettings :=
  { retry := 8, timeout := 2, autoStart := false, writeVerify := false }

/-- The factory area (R168): the trims of each type, with Gs 3. -/
def CartType.factoryTrims : CartType → Trims
  | .a => { wc := 18, kv := 24, kp := 12, kd := 96, gs := 3 }
  | .b => { wc := 24, kv := 20, kp := 10, kd := 80, gs := 3 }

/-- The state after a hard reset, RST released, with SEATED low, PARK high and SUPWARN high, on a drive whose
settings memory was never written (R23, R41, R46, R73, R93, R130, R131, R159, R160, R169, R186,
R187). The levels and the empty settings memory are the model's choice (log entries 1, 2). The
attention set holds POWER RETURN and SETTINGS RESTORED (bits 4 and 8). -/
def State.reset : State :=
  { pins := { dir := false, seated := false, notchA := false, notchB := false, wprot := false,
              park := true, supwarn := true, rst := false },
    link := { assembly := .idle, gap := .none, quiet := .none, outbox := [], heldFrame := false,
              kindWaiting := false, line := [], send := .none, acked := 0 },
    cu := { queue := [], slot := Slot.free, pendAuto := false, pendEject := false,
            pendWake := false, resets := [], attention := 0x0110#16, accepted := 0,
            repliesSent := 0 },
    cart := { state := .empty, type := .none, wp := false, hold := false, latch := false,
              origin := .none, eject := .none },
    spin := { state := .stopped, deviating := false, drive := 0, period := 1000000, gap := 1000000,
              inCount := 0, outCount := 0, kick := .none, spinUp := .none, stop := .none,
              brake := .none, brakeFailed := false, pendingStart := false },
    clk := { locked := false, good := 0, miss := .none },
    pos := { state := .parked, target := .none, requester := .none, held := .none, x := 0,
             xp := .none, cylinder := 0, remembered := .following, settle := 0, offTrack := 0,
             missing := 0, seekCount := 0, restartUsed := false, load := .none, retract := .none,
             emergency := .none, resume := 0, current := 0, landHere := false },
    record := { session := .absent, copyStatus := .none, unsaved := false, report := LoadReport.none,
                image := [], load := .none, copyWrite := .none },
    chan := { transfer := .none, slot0 := .free, slot1 := .free, outstanding := [], wgate := false,
              writeCurrent := 0, op := .none, readyTimer := .none, gateWait := .none, rotation := 0,
              reassign := .none, lastHead := 0 },
    fmt := .none,
    fault := { slot := .none, holder := .none, warning := false },
    rest := { state := .none, wakeActive := false, timer := .none },
    set := { userArea := List.replicate 16 0#8, active := UserSettings.builtIn,
             image := UserSettings.builtIn, trims := CartType.factoryTrims .a, saving := .none },
    mail := Mail.none,
    freeUsed := 0,
    pending := [] }

end Sys2Proof.Machine
end

