-- ==== Sys2Proof/Machine/Operands.lean ====
section
/-! DEFINITION. Operand forms: the arithmetic of the part (shift-round, clamp, isqrt), the byte
layouts of chapter 12 in both directions, the command codes and their parameter lengths, the
outcome codes, and the constants each cartridge type fixes. -/

namespace Sys2Proof.Machine

/-! ### Arithmetic (00_scope, Conventions) -/

/-- Shift-round by n: floor division by 2^n plus the last bit shifted out, so that halves are rounded
toward +∞ (R32, R54, R55). -/
def shiftRound (v : Int) (n : Nat) : Int :=
  v / 2 ^ n + (if 2 ^ (n - 1) ≤ v % 2 ^ n then 1 else 0)

/-- Clamp to a..b. -/
def clampInt (a b v : Int) : Int := if v < a then a else if b < v then b else v

/-- Clamp a natural number to a..b. -/
def clampNat (a b v : Nat) : Nat := if v < a then a else if b < v then b else v

/-- One bit of the square root after another, from bit k − 1 downward. -/
def isqrtBits (n : Nat) : Nat → Nat → Nat
  | 0, r => r
  | k + 1, r => isqrtBits n k (if (r + 2 ^ k) * (r + 2 ^ k) ≤ n then r + 2 ^ k else r)

/-- isqrt: the largest integer whose square does not exceed n. -/
def isqrt (n : Nat) : Nat := isqrtBits n (n.log2 / 2 + 1) 0

/-! ### What the cartridge type fixes (00_scope, R49, R94) -/

/-- Last cylinder. -/
def CartType.lastCylinder : CartType → Nat
  | .a => 320
  | .b => 640

/-- Number of zones. -/
def CartType.zoneCount : CartType → Nat
  | .a => 16
  | .b => 32

/-- Spare width W. -/
def CartType.spareWidth : CartType → Nat
  | .a => 8
  | .b => 32

/-- User slots per zone U. -/
def CartType.userSlots : CartType → Nat
  | .a => 632
  | .b => 608

/-- Capacity in blocks. -/
def CartType.capacity (t : CartType) : Nat := t.zoneCount * t.userSlots

/-- Deceleration constant A (R49). -/
def CartType.decel : CartType → Nat
  | .a => 40
  | .b => 80

/-- Velocity ceiling Vmax (R49). -/
def CartType.vmax : CartType → Nat
  | .a => 1280
  | .b => 2560

/-- Bytes of a spare bitmap in a record (R77). -/
def CartType.bitmapBytes : CartType → Nat
  | .a => 1
  | .b => 4

/-- The type byte of a record (4.1). -/
def CartType.code : CartType → Nat
  | .a => 1
  | .b => 2

/-- The type that the two notches give (R2). -/
def typeOfNotches : Bool → Bool → Option CartType
  | true, false => some .a
  | false, true => some .b
  | _, _ => none

/-- The factory trims for a type that may be unknown: Type A's then (R172). -/
def factoryTrimsFor (t : Option CartType) : Trims := (t.getD .a).factoryTrims

/-! ### Bytes (R194) -/

/-- The low byte of a number. -/
def byte (n : Nat) : Byte := BitVec.ofNat 8 n

/-- Two bytes, most significant first. -/
def be16 (n : Nat) : List Byte := [byte (n / 256), byte n]

/-- Four bytes, most significant first. -/
def be32 (n : Nat) : List Byte := [byte (n / 16777216), byte (n / 65536), byte (n / 256), byte n]

/-- An optional one-byte field: 0xFF when absent. -/
def opt8 : Option Nat → List Byte
  | some n => [byte n]
  | none => [0xFF#8]

/-- An optional two-byte field: 0xFFFF when absent. -/
def opt16 : Option Nat → List Byte
  | some n => be16 n
  | none => be16 0xFFFF

/-- An optional four-byte field: 0xFFFFFFFF when absent. -/
def opt32 : Option Nat → List Byte
  | some n => be32 n
  | none => be32 0xFFFFFFFF

/-- The value of byte i of a list of bytes, 0 beyond its end. -/
def byteAt (l : List Byte) (i : Nat) : Nat := (l.getD i 0#8).toNat

/-- The two-byte field at offset i. -/
def word16At (l : List Byte) (i : Nat) : Nat := byteAt l i * 256 + byteAt l (i + 1)

/-- The four-byte field at offset i. -/
def word32At (l : List Byte) (i : Nat) : Nat := word16At l i * 65536 + word16At l (i + 2)

/-- A flag as a bit value. -/
def bit (b : Bool) (k : Nat) : Nat := if b then 2 ^ k else 0

/-- DP for a byte: the number of ones among D0–D7 and DP is odd (R188). -/
def oddParity (b : Byte) : Bool :=
  ((List.range 8).countP fun i => b.getLsbD i) % 2 == 0

/-! ### Commands (12.2) -/

def Code.spinUp : Byte := 0x10#8
def Code.spinDown : Byte := 0x11#8
def Code.seek : Byte := 0x12#8
def Code.read : Byte := 0x13#8
def Code.write : Byte := 0x14#8
def Code.verify : Byte := 0x15#8
def Code.reassign : Byte := 0x16#8
def Code.format : Byte := 0x17#8
def Code.rest : Byte := 0x18#8
def Code.eject : Byte := 0x19#8
def Code.readTable : Byte := 0x1A#8
def Code.setParameter : Byte := 0x1B#8
def Code.saveSettings : Byte := 0x1C#8
def Code.loadDefaults : Byte := 0x1D#8
def Code.sense : Byte := 0x30#8
def Code.clearAttention : Byte := 0x31#8
def Code.abort : Byte := 0x32#8
def Code.hold : Byte := 0x33#8
def Code.release : Byte := 0x34#8
def Code.reset : Byte := 0x35#8

/-- The number of parameter bytes of a command; none for a code that is not one of the twenty
(R174, 12.2). -/
def paramLength (code : Byte) : Option Nat :=
  match code.toNat with
  | 0x10 => some 1
  | 0x11 => some 0
  | 0x12 => some 2
  | 0x13 => some 5
  | 0x14 => some 5
  | 0x15 => some 5
  | 0x16 => some 4
  | 0x17 => some 6
  | 0x18 => some 3
  | 0x19 => some 1
  | 0x1A => some 3
  | 0x1B => some 2
  | 0x1C => some 0
  | 0x1D => some 0
  | 0x30 => some 0
  | 0x31 => some 2
  | 0x32 => some 0
  | 0x33 => some 0
  | 0x34 => some 0
  | 0x35 => some 0
  | _ => none

/-- The outcome code byte (12.2). -/
def OutcomeCode.code : OutcomeCode → Byte
  | .done => 0x00#8
  | .recovered => 0x01#8
  | .queueFull => 0x02#8
  | .notReady => 0x03#8
  | .unformatted => 0x04#8
  | .refusedCartridge => 0x05#8
  | .writeProtected => 0x06#8
  | .outOfRange => 0x07#8
  | .badParameter => 0x08#8
  | .unknownCommand => 0x09#8
  | .dataCheck => 0x0A#8
  | .seekFailed => 0x0B#8
  | .writeFault => 0x0C#8
  | .faulted => 0x0D#8
  | .faultPending => 0x0E#8
  | .sparesExhausted => 0x0F#8
  | .aborted => 0x10#8
  | .cancelled => 0x11#8
  | .recordWriteFailed => 0x12#8
  | .recordDamaged => 0x13#8
  | .dataTimeout => 0x14#8
  | .formatLocked => 0x15#8
  | .ejectJammed => 0x16#8
  | .settingsWriteFailed => 0x17#8

/-- The record result byte (12.2). That of WRITE PROTECTED is a free value (log entry 65). -/
def RecordResult.code : RecordResult → Nat
  | .notMade => 0
  | .both => 1
  | .one => 2
  | .neither => 3
  | .writeProtected => Config.writeProtectedResult.toNat

/-- The outcome that a record result gives a command that otherwise succeeded (R91, R162). WRITE PROTECTED
leaves it DONE (DESIGN CHOICE, log entry 65). -/
def RecordResult.outcome : RecordResult → OutcomeCode
  | .notMade => .done
  | .both => .done
  | .one => .recovered
  | .neither => .recordWriteFailed
  | .writeProtected => .done

/-- The bytes of a frame on the link: kind, body length, body (R195). -/
def frameBytes (kind : Byte) (body : List Byte) : List Byte :=
  kind :: be16 body.length ++ body

/-- The body of a reply: tag, code, outcome, result fields (R195). -/
def Reply.body (r : Reply) : List Byte := r.tag :: r.code :: r.outcome.code :: r.fields

/-- The bytes an outbound frame puts on the link (11.3, R195). -/
def Outbound.bytes : Outbound → List Byte
  | .reply r => frameBytes 0xA8#8 r.body
  | .request tag idx => frameBytes 0xAB#8 [tag, byte idx]
  | .withdrawn tag idx => frameBytes 0xAB#8 [tag, byte idx]
  | .data _ d => frameBytes 0xA4#8 d

/-- The WRITE of a data request being sent has ended (R126). -/
def Outbound.withdraw : Outbound → Outbound
  | .request tag idx => .withdrawn tag idx
  | f => f

/-- The kind a kind byte names, of the two that the part receives (R189). -/
def kindOf (b : Byte) : Option FrameKind :=
  if b = 0xA1#8 then some .command else if b = 0xA4#8 then some .data else none

/-- Whether a body length fits the frame's kind (R189, 11.3). -/
def lengthFits : FrameKind → Nat → Bool
  | .command, n => 2 ≤ n && n ≤ 14
  | .data, n => n == 512

end Sys2Proof.Machine
end

