-- ==== Sys2Proof/Machine/Flags.lean ====
section
/-! DEFINITION. The flags of the part: the attention set (R181), the fault slot with its priority
rule (R144), the class 1–3 gate (R156), and the End note that a fault leaves for the executing item
(R146). -/

namespace Sys2Proof.Machine

/-! ### The attention set -/

/-- The ten attention causes (R181). -/
inductive Cause
  | inserted
  | removed
  | ejectAsked
  | jammed
  | powerReturn
  | fault
  | wake
  | recordLost
  | settingsRestored
  | protocol
  deriving DecidableEq, Repr

/-- The bit of a cause in the two-byte field (12.2). -/
def Cause.bit : Cause → Nat
  | .inserted => 0
  | .removed => 1
  | .ejectAsked => 2
  | .jammed => 3
  | .powerReturn => 4
  | .fault => 5
  | .wake => 6
  | .recordLost => 7
  | .settingsRestored => 8
  | .protocol => 9

/-- The one-cause set. -/
def Cause.mask (c : Cause) : BitVec 16 := 1#16 <<< c.bit

/-- The ten bits that name causes; bits 10..15 name none (12.2). -/
def causeBits : BitVec 16 := 0x03FF#16

/-- A cause is set; one already in the set leaves it as it was (R181). -/
def setCause (c : Cause) (s : State) : State :=
  { s with cu := { s.cu with attention := s.cu.attention ||| c.mask } }

/-- Causes leave the set (R182, R184). -/
def clearCauses (m : BitVec 16) (s : State) : State :=
  { s with cu := { s.cu with attention := s.cu.attention &&& ~~~ m } }

/-- Whether a cause is in the set. -/
def hasCause (c : Cause) (s : State) : Bool := s.cu.attention.getLsbD c.bit

/-- ATN is asserted while the attention set is not empty, and not while RST is (R193). -/
def atn (s : State) : Bool := !s.pins.rst && s.cu.attention != 0#16

/-- While RST stays asserted the part stays in its hard reset: it takes no byte, and no block acts
(section 11.1, R193; log entry 48). -/
def unlessReset (f : State → State) (s : State) : State := if s.pins.rst then s else f s

/-! ### Fault classes -/

/-- The priority of a class, 1 the highest (8.1). -/
def FaultClass.priority : FaultClass → Nat
  | .supplyLoss => 1
  | .stallSpinUp => 2
  | .stallIndexLoss => 2
  | .stallBrake => 2
  | .servoLoss => 3
  | .offTrack => 4
  | .writeFault => 5
  | .seekLoad => 6
  | .seekSeek => 6
  | .seekPark => 6
  | .speedDeviation => 7
  | .dataCheck => 8

/-- The form byte of the SENSE reply (12.3). -/
def FaultClass.form : FaultClass → Nat
  | .stallSpinUp => 1
  | .stallIndexLoss => 2
  | .stallBrake => 3
  | .seekLoad => 1
  | .seekSeek => 2
  | .seekPark => 3
  | _ => 0

/-- Class 1–3 faults (8.1). -/
def FaultClass.isClass13 (c : FaultClass) : Bool := c.priority ≤ 3

/-- SEEK FAILED in any form. -/
def FaultClass.isSeekFailed (c : FaultClass) : Bool := c.priority == 6

/-- The faults that take the heads off the track for good: class 1–3 and SEEK FAILED. They end a
load, a write-back and the write-back stage of an eject (R15, R87, R92). -/
def FaultClass.losesHeads (c : FaultClass) : Bool := c.isClass13 || c.isSeekFailed

/-- The fault slot holds a class 1–3 fault (R156). -/
def class13Held (s : State) : Bool :=
  match s.fault.slot with
  | some r => r.cls.isClass13
  | none => false

/-! ### Forming and offering a record -/

/-- The tag field of a fault record: that of the executing command; a soft reset has the tag of its
RESET (R142). -/
def Item.tag : Item → Option Byte
  | .free => none
  | .command e => some e.tag
  | .autoStart => none
  | .buttonEject => none
  | .timedWake => none
  | .softReset t => some t

/-- The block in work of a READ, WRITE, VERIFY or REASSIGN (R143): absent while the command waits for
the spindle, in its end-of-command write-back and after its blocks. -/
def blockInWork (s : State) : Option Nat :=
  match s.chan.transfer with
  | some t =>
    match t.phase with
    | .begin => some (t.first + t.idx)
    | .target => some (t.first + t.idx)
    | .sector => some (t.first + t.idx)
    | .back => some (t.first + t.idx)
    | .spin => none
    | .save => none
    | .drain => none
  | none =>
    match s.chan.reassign with
    | some r =>
      match r.phase with
      | .readTarget => some r.lba
      | .read => some r.lba
      | .writeTarget => some r.lba
      | .write => some r.lba
      | .back => some r.lba
      | .spin => none
      | .save => none
    | none => none

/-- The record of a fault raised now (R143). Its count is set by the offer. The tag is that of the command
in the slot (R142), also in the settle of an aborted SEEK whose reply still waits there (R72; log entry
81). -/
def formRecord (cls : FaultClass) (s : State) : FaultRecord :=
  { cls, cyl := s.pos.cylinder, head := s.chan.lastHead, tag := s.cu.slot.item.tag,
    lba := blockInWork s, count := 0 }

/-- What the slot holds after a record is offered (R144). The count stops at 255. -/
def offerTo (slot : Option FaultRecord) (r : FaultRecord) : FaultRecord :=
  match slot with
  | none => { r with count := 1 }
  | some h =>
    if r.cls.priority < h.cls.priority then { r with count := min 255 (h.count + 1) }
    else { h with count := min 255 (h.count + 1) }

/-- A record is offered to the fault slot, and attention FAULT is set (R144). -/
def offer (r : FaultRecord) (s : State) : State :=
  setCause .fault { s with fault := { s.fault with slot := some (offerTo s.fault.slot r) } }

/-! ### The End instruction -/

/-- The item in the slot still works: it has not ended and its reply does not wait (R146). -/
def executing (s : State) : Bool :=
  match s.cu.slot.item with
  | .free => false
  | _ =>
    match s.cu.slot.work with
    | .replying _ => false
    | _ => true

/-- The End instruction of a fault: the first to reach the executing item stands (R146, R155). -/
def noteEnd (cls : FaultClass) (s : State) : State :=
  if executing s && s.mail.note.isNone then { s with mail := { s.mail with note := some cls } } else s

/-- The Cancel instruction: every waiting command is marked cancelled (R146, R175). -/
def cancelQueue (s : State) : State :=
  { s with cu := { s.cu with queue := s.cu.queue.map fun e => { e with cancelled := true } } }

end Sys2Proof.Machine
end

