-- ==== Sys2Proof/Machine/Mapper.lean ====
section
/-! DEFINITION. The block mapper (chapter 5): slots and places, translation, the spare scan,
reassignment and retirement, each on the zone table it is given. -/

namespace Sys2Proof.Machine

/-- A zone with every spare clear and an empty list (R131). -/
def Zone.empty : Zone := { spares := 0#32, list := [] }

/-- The empty zone table of a type. -/
def emptyZones (t : CartType) : List Zone := List.replicate t.zoneCount Zone.empty

/-- Spare k is set (R94, R196). -/
def Zone.isSet (z : Zone) (k : Nat) : Bool := z.spares.getLsbD k

/-- Spare k is marked set (R100, R101); one already set leaves the bitmap as it was. -/
def Zone.markSet (k : Nat) (z : Zone) : Zone := { z with spares := z.spares ||| 1#32 <<< k }

/-- The number of set spares of a zone of this type. -/
def Zone.setCount (t : CartType) (z : Zone) : Nat :=
  (List.range t.spareWidth).countP fun k => z.isSet k

/-- The spare scan (R99): the first clear spare, W when the zone is full. -/
def spareScan (t : CartType) (z : Zone) : Nat :=
  ((List.range t.spareWidth).find? fun k => !z.isSet k).getD t.spareWidth

/-- The list with offset o naming spare k: inserted in ascending order, or replaced in place
(R100 step 4). -/
def putEntry (o k : Nat) : List ListEntry → List ListEntry
  | [] => [{ offset := o, spare := k }]
  | e :: es =>
    if o < e.offset then { offset := o, spare := k } :: e :: es
    else if o = e.offset then { offset := o, spare := k } :: es
    else e :: putEntry o k es

/-- How a reassignment comes out (R100): refused with a result, or the spare given with what it
changed. -/
inductive Moved (α : Type) where
  | refused (o : OutcomeCode)
  | moved (spare : Nat) (after : α)
  deriving DecidableEq, Repr

/-- A reassignment of offset o (R100) on a cartridge with this write-protect: the spare given and the
zone after it, or the refusal that leaves the zone as it was. -/
def reassignZone (wp : Bool) (t : CartType) (o : Nat) (z : Zone) : Moved Zone :=
  if wp then .refused .writeProtected
  else if spareScan t z = t.spareWidth then .refused .sparesExhausted
  else .moved (spareScan t z)
    { spares := (z.markSet (spareScan t z)).spares, list := putEntry o (spareScan t z) z.list }

/-- Zone z of a table. -/
def zoneAt (zones : List Zone) (z : Nat) : Zone := zones.getD z Zone.empty

/-- The place of slot n of zone z (R95, R96). -/
def slotPlace (z n : Nat) : Place :=
  { cyl := 1 + 20 * z + n / 32, head := n % 32 / 16, sector := n % 16 }

/-- The spare that an offset's entry names, if it has one (R96 step 2). -/
def spareOf (zone : Zone) (o : Nat) : Option Nat :=
  (zone.list.find? fun e => e.offset == o).map fun e => e.spare

/-- The slot that holds offset o, direct or reassigned (R96 step 2). -/
def slotOf (t : CartType) (zone : Zone) (o : Nat) : Nat :=
  match spareOf zone o with
  | some k => t.userSlots + k
  | none => o

/-- Translation of an LBA through a zone table (R96): the place, and the spare if the block is
reassigned. -/
def translate (t : CartType) (zones : List Zone) (lba : Nat) : Place × Option Nat :=
  (slotPlace (lba / t.userSlots) (slotOf t (zoneAt zones (lba / t.userSlots)) (lba % t.userSlots)),
   spareOf (zoneAt zones (lba / t.userSlots)) (lba % t.userSlots))

/-- Reassignment of the block of an LBA in a zone table (R100). -/
def reassignLba (wp : Bool) (t : CartType) (zones : List Zone) (lba : Nat) : Moved (List Zone) :=
  match reassignZone wp t (lba % t.userSlots) (zoneAt zones (lba / t.userSlots)) with
  | .refused o => .refused o
  | .moved k z => .moved k (zones.set (lba / t.userSlots) z)

/-- The range check (R98): the sum is formed without limit on its size. -/
def rangeFits (t : CartType) (lba n : Nat) : Bool := lba + n ≤ t.capacity

/-- Offsets rise strictly (R81, R94). -/
def rising : List ListEntry → Bool
  | e :: f :: es => e.offset < f.offset && rising (f :: es)
  | _ => true

/-- The consistency that R94 states of a zone entry of this type. -/
def Zone.consistent (t : CartType) (z : Zone) : Bool :=
  z.list.length ≤ z.setCount t
  && z.list.all (fun e => e.offset < t.userSlots && e.spare < t.spareWidth && z.isSet e.spare)
  && rising z.list
  && (z.list.map fun e => e.spare).Nodup

end Sys2Proof.Machine
end

