-- ==== Sys2Proof/Machine/RecordImage.lean ====
section
/-! DEFINITION. The cartridge record as bytes (R77, R196, 12.5): building an image, the checks of a
copy that was read (R80, R81), the comparison of generations (R78) and the choice of copy (R82,
R83). -/

namespace Sys2Proof.Machine

/-! ### Building an image -/

/-- The bytes of a list entry (12.5). -/
def entryBytes (e : ListEntry) : List Byte := be16 e.offset ++ [byte e.spare]

/-- The bytes of a zone entry: bitmap, entry count, list (12.5, R196). -/
def zoneBytes (t : CartType) (z : Zone) : List Byte :=
  (match t with
   | .a => [byte z.spares.toNat]
   | .b => be32 z.spares.toNat)
  ++ byte z.list.length :: z.list.flatMap entryBytes

/-- The length of a record with this zone table (R77). -/
def recordLength (t : CartType) (zones : List Zone) : Nat :=
  16 + (zones.map fun z => t.bitmapBytes + 1 + 3 * z.list.length).sum

/-- The record sum over bytes that leave the sum field out (R77). -/
def byteSum (l : List Byte) : Nat := (l.foldl (fun n b => n + b.toNat) 0) % 65536

/-- A record image (R77, R89, R134, R138, R196): the header, then the zone entries in zone order. -/
def recordImage (t : CartType) (lock inProgress : Bool) (generation : BitVec 16)
    (serial : BitVec 32) (zones : List Zone) : List Byte :=
  let body := zones.flatMap (zoneBytes t)
  let head := be16 0xC35A ++ [1#8, byte t.code, byte (bit lock 0 + bit inProgress 1),
      byte zones.length] ++ be16 generation.toNat ++ be32 serial.toNat
      ++ be16 (recordLength t zones)
  head ++ be16 (byteSum (head ++ body)) ++ body

/-- The sectors a record of this length uses (R76). -/
def sectorsFor (length : Nat) : Nat := (length + 511) / 512

/-- Sector k of an image, with zeros beyond its length (R76). -/
def imageSector (image : List Byte) (k : Nat) : List Byte :=
  ((image.drop (512 * k)).take 512).rightpad 512 0#8

/-! ### Checking a copy -/

/-- The header values the load report keeps of a copy that shows the format mark (R75): of its flags
byte the two flags that the layout names (R194; log entry 62). -/
def headerSeen (image : List Byte) : HeaderSeen :=
  { generation := BitVec.ofNat 16 (word16At image 6), type := byte (byteAt image 3),
    flags := byte (byteAt image 4) &&& 0x03#8 }

/-- The type a record states (R80 step 4). -/
def statedType (image : List Byte) : Option CartType :=
  match byteAt image 3 with
  | 1 => some .a
  | 2 => some .b
  | _ => none

/-- A DAMAGED copy with its reason and header. -/
def damaged (image : List Byte) (r : CopyReason) : CopyReport :=
  { cls := .damaged, reason := r, header := some (headerSeen image) }

/-- An ABSENT copy with its reason. -/
def absentCopy (r : CopyReason) : CopyReport := { cls := .absent, reason := r, header := none }

/-- The length bounds of a record of each type (R80 step 6). -/
def lengthInRange (t : CartType) (n : Nat) : Bool :=
  match t with
  | .a => 48 ≤ n && n ≤ 432
  | .b => 176 ≤ n && n ≤ 3248

/-- Steps 2 to 6 of R80, on the first sector of a copy: the finding that settles it, if any. -/
def headerFinding (image : List Byte) : Option CopyReport :=
  if word16At image 0 ≠ 0xC35A then some (absentCopy .noMark)
  else if byteAt image 2 ≠ 1 then some (damaged image .version)
  else
    match statedType image with
    | none => some (damaged image .type)
    | some t =>
      if byteAt image 5 ≠ t.zoneCount then some (damaged image .zoneCount)
      else if !lengthInRange t (word16At image 12) then some (damaged image .length)
      else none

/-- The list entries that n stored entries give. -/
def readEntries : Nat → List Byte → List ListEntry
  | n + 1, a :: b :: c :: rest =>
    { offset := a.toNat * 256 + b.toNat, spare := c.toNat } :: readEntries n rest
  | _, _ => []

/-- The checks of R81 on one zone's list. -/
def listConsistent (t : CartType) (spares : BitVec 32) (l : List ListEntry) : Bool :=
  rising l && l.all (fun e => e.offset < t.userSlots && e.spare < t.spareWidth
    && spares.getLsbD e.spare) && (l.map fun e => e.spare).Nodup

/-- The bitmap at the front of a zone entry (R196). -/
def readBitmap (t : CartType) (l : List Byte) : BitVec 32 :=
  match t with
  | .a => BitVec.ofNat 32 (byteAt l 0)
  | .b => BitVec.ofNat 32 (word32At l 0)

/-- The walk of R81 over n zone entries: the zone table, or the reason of the damage. Bytes left
over, or too few, are reason LENGTH. Of one entry the count is checked first, then its length, then its
list (log entry 63). -/
def walkZones (t : CartType) : Nat → List Byte → Except CopyReason (List Zone)
  | 0, [] => .ok []
  | 0, _ :: _ => .error .length
  | n + 1, l =>
    if l.length < t.bitmapBytes + 1 then .error .length
    else if t.spareWidth < byteAt l t.bitmapBytes then .error .list
    else if l.length < t.bitmapBytes + 1 + 3 * byteAt l t.bitmapBytes then .error .length
    else if !listConsistent t (readBitmap t l)
        (readEntries (byteAt l t.bitmapBytes) (l.drop (t.bitmapBytes + 1))) then .error .list
    else
      match walkZones t n (l.drop (t.bitmapBytes + 1 + 3 * byteAt l t.bitmapBytes)) with
      | .ok zs => .ok (Zone.mk (readBitmap t l)
          (readEntries (byteAt l t.bitmapBytes) (l.drop (t.bitmapBytes + 1))) :: zs)
      | .error e => .error e

/-- The sum of a stored record, its two sum bytes left out (R77). -/
def storedSum (image : List Byte) (length : Nat) : Nat :=
  byteSum (image.take 14 ++ (image.take length).drop 16)

/-- Steps 8 and 9 of R80, once every sector of a copy has been read: its report, and what it says if
it is VALID. -/
def finalFinding (image : List Byte) : CopyReport × Option RecordCopy :=
  match statedType image with
  | none => (damaged image .type, none)
  | some t =>
    if storedSum image (word16At image 12) ≠ word16At image 14 then (damaged image .sum, none)
    else
      match walkZones t t.zoneCount ((image.take (word16At image 12)).drop 16) with
      | .error e => (damaged image e, none)
      | .ok zones =>
        ({ cls := .valid, reason := .none, header := some (headerSeen image) },
         some { session := { type := t, lock := byteAt image 4 % 2 == 1,
                             generation := BitVec.ofNat 16 (word16At image 6),
                             serial := BitVec.ofNat 32 (word32At image 8), zones },
                inProgress := byteAt image 4 / 2 % 2 == 1 })

/-! ### The choice -/

/-- g1 is newer than g2, modulo 65,536 (R78). -/
def newer (g1 g2 : BitVec 16) : Bool := 1 ≤ (g1 - g2).toNat && (g1 - g2).toNat ≤ 32767

/-- The chosen copy and the copy status (R82). -/
def chooseCopy : Option RecordCopy → Option RecordCopy → Option (Nat × RecordCopy × CopyStatus)
  | some c0, some c1 =>
    let st : CopyStatus :=
      if c0.session.generation = c1.session.generation then .good else .degraded
    if newer c1.session.generation c0.session.generation then some (1, c1, st)
    else some (0, c0, st)
  | some c0, none => some (0, c0, .degraded)
  | none, some c1 => some (1, c1, .degraded)
  | none, none => none

/-- What the choice gives (R83): cartridge state, session, copy status. The notch type is known
whenever a load runs. -/
def choiceFinding (notch : CartType) (r0 r1 : CopyReport) (c0 c1 : Option RecordCopy) :
    CartState × SessionState × CopyStatus :=
  match chooseCopy c0 c1 with
  | some (_, c, st) =>
    if c.inProgress then (.blank, .typeOnly notch, .none)
    else if c.session.type ≠ notch then (.refused .typeConflict, .absent, .none)
    else (.ready, .full c.session, st)
  | none =>
    if r0.cls = .absent ∧ r1.cls = .absent then (.blank, .typeOnly notch, .none)
    else (.refused .recordDamaged, .absent, .none)

/-- The reply that the state after a choice gives a SPIN UP (R84). -/
def choiceOutcome : CartState → CopyStatus → OutcomeCode
  | .ready, .good => .done
  | .ready, _ => .recovered
  | .blank, _ => .unformatted
  | .refused .recordDamaged, _ => .recordDamaged
  | _, _ => .refusedCartridge

end Sys2Proof.Machine
end

