-- ==== Sys2Proof/Machine/Ops.lean ====
section
/-! DEFINITION. The shared operations of the blocks: answers between blocks, the sector channel's
read, write and cut, the positioner's requests and states, the spindle's requests and states, raising
a fault with its response, the session, the rest state, and the outbox places. -/

namespace Sys2Proof.Machine

/-! ### Answers inside a step -/

/-- A target request is answered (section 3.3). -/
def tell (o : TargetOutcome) (s : State) : State :=
  { s with mail := { s.mail with told := some o } }

/-- The requester of the outstanding target, if any, is told how it ends. -/
def tellRequester (o : TargetOutcome) (s : State) : State :=
  match s.pos.requester with
  | some _ => tell o s
  | none => s

/-- The requester of a held request, if any, is told ENDED (R51, R64, R66). -/
def tellHeldEnded (s : State) : State :=
  match s.pos.held with
  | some (_, some _) => tell .ended s
  | _ => s

/-- A sector read or write has ended. -/
def sectorResult (r : SectorResult) (s : State) : State :=
  { s with mail := { s.mail with sector := some r } }

/-! ### The sector channel -/

/-- The place of the sector in work. -/
def SectorOp.place : SectorOp → Place
  | .read p => p
  | .write p _ => p

/-- A sector read begins (R112). -/
def beginRead (p : Place) (s : State) : State :=
  { s with chan := { s.chan with op := some (.read p), lastHead := p.head } }

/-- A sector write begins: WGATE is asserted and the write current output takes the active trim, read
at the sector start (R121, R122). -/
def beginWrite (p : Place) (data : List Byte) (s : State) : State :=
  { s with chan := { s.chan with op := some (.write p data), wgate := true,
                                 writeCurrent := s.set.trims.wc, lastHead := p.head } }

/-- WGATE and the write current output go off and no sector is in work (R122, R124). -/
def closeOp (s : State) : State :=
  { s with chan := { s.chan with op := none, wgate := false, writeCurrent := 0 } }

/-- The deferred SPEED DEVIATION leaves the holder: it is offered to the slot and its End is issued
(R154, R155). -/
def releaseHolder (s : State) : State :=
  match s.fault.holder with
  | none => s
  | some r => noteEnd .speedDeviation (offer r { s with fault := { s.fault with holder := none } })

/-- The block, spare or format sector whose write was cut is torn (R124, R105, R139). Nothing is kept
of a torn record sector (R90). -/
def markTorn (p : Place) (s : State) : State :=
  if s.record.copyWrite.isSome then s
  else
    { s with
      chan := { s.chan with
        transfer := s.chan.transfer.map fun t => { t with torn := some (t.first + t.idx) }
        reassign := s.chan.reassign.map fun r => { r with torn := true } }
      fmt := s.fmt.map fun f => { f with torn := some p } }

/-- A block, spare or format sector written whole is no longer torn (R124, R105, R139). -/
def clearTorn (p : Place) (s : State) : State :=
  if s.record.copyWrite.isSome then s
  else
    { s with
      chan := { s.chan with
        transfer := s.chan.transfer.map fun t =>
          if t.torn = some (t.first + t.idx) then { t with torn := none } else t
        reassign := s.chan.reassign.map fun r => { r with torn := false } }
      fmt := s.fmt.map fun f => if f.torn = some p then { f with torn := none } else f }

/-- A sector write in progress is cut (R124); the holder then gives up its record (R155). With no
write in progress there is no effect (R146). -/
def cutWrite (s : State) : State :=
  match s.chan.op with
  | some (.write p _) => releaseHolder (sectorResult .cut (markTorn p (closeOp s)))
  | _ => s

/-- The positioner's departure from FOLLOWING reaches the channel (R59): a read in progress is
interrupted, a write in progress is cut. -/
def depart (s : State) : State :=
  match s.chan.op with
  | some (.read _) => sectorResult .interrupted (closeOp s)
  | some (.write _ _) => cutWrite s
  | none => s

/-- The sector in work ends (R112, R122). A read succeeds when the identification names the wanted
place, the data check is correct and the 512 bytes are there. A write is written whole, and the
holder gives up its record (R154). -/
def endSector (sig : ReadSignal) (s : State) : State :=
  match s.chan.op with
  | some (.read p) =>
    if sig.ident = some (p.cyl, p.head, p.sector) ∧ sig.checkOk = true ∧ sig.data.length = 512 then
      sectorResult (.readOk sig.data) (closeOp s)
    else sectorResult .readFailed (closeOp s)
  | some (.write p _) => releaseHolder (sectorResult .written (clearTorn p (closeOp s)))
  | none => s

/-! ### The spindle's states (R25, R29, R38, R39) -/

/-- Entry to KICK (R29). A pending start has now begun. -/
def Spindle.enterKick (p : Spindle) : Spindle :=
  { p with state := .kick, drive := 255, inCount := 0, outCount := 0,
           kick := some Config.kickTime, spinUp := some Config.spinUpTime, deviating := false,
           pendingStart := false }

/-- Entry to BRAKING (R38). The kick and spin-up timers stop (R29, R31). -/
def Spindle.enterBraking (p : Spindle) : Spindle :=
  { p with state := .braking, drive := 0, deviating := false, kick := none, spinUp := none,
           stop := some Config.stopTime, brake := some Config.brakeTime, brakeFailed := false }

/-- Entry to COASTING (R39). -/
def Spindle.enterCoasting (p : Spindle) : Spindle :=
  { p with state := .coasting, drive := 0, deviating := false, kick := none, spinUp := none }

/-- Entry to STOPPED (R38). -/
def Spindle.enterStopped (p : Spindle) : Spindle :=
  { p with state := .stopped, drive := 0, deviating := false, stop := none, brake := none,
           brakeFailed := false }

/-- The mode of the phase outputs in each state (R26). -/
def SpindleState.phase : SpindleState → PhaseMode
  | .stopped => .float
  | .kick => .drive
  | .accel => .drive
  | .regulate => .drive
  | .atSpeed => .drive
  | .coasting => .float
  | .braking => .short

/-! ### The positioner -/

/-- The cell clock falls back to REFERENCE with count 0 and its timer stopped (R46). -/
def clockFallback (s : State) : State :=
  { s with clk := { locked := false, good := 0, miss := none } }

/-- The positioner is FOLLOWING at this target (R112, R121). -/
def onTarget (cyl : Nat) (offset : Int) (s : State) : Bool :=
  s.pos.state == .following && s.pos.target == some { cyl, offset }

/-- The first failing load condition (R52). -/
def loadFailure (s : State) : Option NotLoaded :=
  if s.spin.state ≠ .atSpeed then some .notAtSpeed
  else if class13Held s then some .faultHeld
  else if s.cart.type.isNone then some .typeUnknown
  else none

/-- Entry to LOADING (R52); the request is taken, so the resume cylinder is its cylinder (R51). -/
def enterLoading (t : Target) (q : Option Requester) (s : State) : State :=
  { s with pos := { s.pos with
      state := .loading, current := 20, target := some t, requester := q, settle := 0,
      offTrack := 0, missing := 0, seekCount := 0, restartUsed := false, xp := none,
      load := some Config.loadTime, resume := t.cyl, landHere := false } }

/-- A target request in PARKED (R51, R52). -/
def requestParked (t : Target) (q : Option Requester) (s : State) : State :=
  match loadFailure s with
  | none => enterLoading t q s
  | some why =>
    match q with
    | some _ => tell (.notLoaded why) s
    | none => s

/-- SEEKING or SETTLING by |T − X| against 512 (R51, R56). -/
def seekState (r : Int) : PosState :=
  if (Config.coarseLimit : Int) < |r| then .seeking else .settling

/-- The target position T (R47). -/
def Target.position (t : Target) : Int := 256 * (t.cyl : Int) + t.offset

/-- A new seek from the last X (R51). -/
def newSeek (t : Target) (q : Option Requester) (s : State) : State :=
  { s with pos := { s.pos with
      state := seekState (t.position - s.pos.x), target := some t, requester := q, settle := 0,
      offTrack := 0, seekCount := 0, restartUsed := false, resume := t.cyl, landHere := false } }

/-- PARKED reaches the spindle (R68): a COASTING spindle enters BRAKING (R39), and a pending start
enters KICK from STOPPED (R28). -/
def spindleSeesParked (s : State) : State :=
  match s.spin.state with
  | .coasting => { s with spin := s.spin.enterBraking }
  | .stopped => if s.spin.pendingStart then { s with spin := s.spin.enterKick } else s
  | _ => s

/-- The positioner's own values on entry to PARKED (R68). A held request is kept until it acts
(`heldActs`). -/
def Positioner.park (p : Positioner) : Positioner :=
  { p with state := .parked, current := 0, target := none, requester := none, settle := 0,
           offTrack := 0, missing := 0, seekCount := 0, restartUsed := false, load := none,
           retract := none, emergency := none, landHere := false }

/-- Entry to PARKED (R68): the clock falls back and the spindle is told. The items that wait for PARKED
read the state (Machine/Settle.lean). -/
def enterParked (s : State) : State :=
  spindleSeesParked (clockFallback { s with pos := s.pos.park })

/-- After the reports of an entry to PARKED a held request acts as in PARKED (R68, R51). -/
def heldActs (s : State) : State :=
  match s.pos.held with
  | some (t, q) =>
    let s := { s with pos := { s.pos with held := none } }
    if s.pos.state = .parked then requestParked t q s else s
  | none => s

/-- Entry to RETRACTING (R65). -/
def enterRetracting (s : State) : State :=
  let s := clockFallback (tellRequester .ended (depart s))
  let s := { s with pos := { s.pos with
      state := .retracting, current := -40, target := none, requester := none, settle := 0,
      offTrack := 0, missing := 0, seekCount := 0, restartUsed := false, load := none,
      retract := some Config.retractTime, landHere := false } }
  if s.pins.park then enterParked s else s

/-- A held request is discarded, and its requester told ENDED (R64). -/
def discardHeld (s : State) : State :=
  let s := tellHeldEnded s
  { s with pos := { s.pos with held := none } }

/-- An orderly retract request (R64): it discards a held request in every state, also while an entry to
PARKED is being reported. -/
def requestRetract (s : State) : State :=
  match s.pos.state with
  | .parked => discardHeld s
  | .retracting => discardHeld s
  | .emergency => discardHeld s
  | _ => enterRetracting (discardHeld s)

/-- Entry to EMERGENCY (R66), with the report to the spindle (R40). -/
def enterEmergency (s : State) : State :=
  let s := clockFallback (tellHeldEnded (tellRequester .ended (depart s)))
  let s := { s with
    pos := { s.pos with
      state := .emergency, current := -60, target := none, requester := none, held := none,
      settle := 0, offTrack := 0, missing := 0, seekCount := 0, restartUsed := false, load := none,
      retract := none, emergency := some Config.emergencyTime, landHere := false }
    spin := if s.spin.state = .atSpeed then s.spin.enterCoasting else s.spin }
  if s.pins.park then enterParked s else s

/-- An emergency request (R66). -/
def requestEmergency (s : State) : State :=
  match s.pos.state with
  | .parked => s
  | .emergency => s
  | _ => enterEmergency s

/-- An earlier requester is told ENDED when another block replaces its request (R51). -/
def replaceRequester (q : Option Requester) (s : State) : State :=
  if s.pos.requester = q then s else tellRequester .ended s

/-- The block that asked for a target no longer waits for it: the target, or the request held during a
retract, stays and has no requester (R51; log entry 17). -/
def dropRequester (s : State) : State :=
  { s with pos := { s.pos with requester := none, held := s.pos.held.map fun h => (h.1, none) } }

/-- A target request (R51). -/
def requestTarget (t : Target) (q : Option Requester) (s : State) : State :=
  let s := { s with mail := { s.mail with told := none } }
  match s.pos.state with
  | .parked => requestParked t q s
  | .loading =>
    let s := replaceRequester q s
    { s with pos := { s.pos with target := some t, requester := q, resume := t.cyl,
                                 landHere := false } }
  | .seeking =>
    if s.pos.target = some t then
      let s := replaceRequester q s
      { s with pos := { s.pos with requester := q, resume := t.cyl } }
    else newSeek t q (replaceRequester q s)
  | .settling =>
    if s.pos.target = some t then
      let s := replaceRequester q s
      { s with pos := { s.pos with requester := q, resume := t.cyl } }
    else newSeek t q (replaceRequester q s)
  | .following =>
    if s.pos.target = some t then
      let s := { s with pos := { s.pos with resume := t.cyl } }
      match q with
      | some _ => tell .complete s
      | none => s
    else newSeek t q (depart s)
  | .coasting =>
    let s := replaceRequester q s
    { s with pos := { s.pos with
        remembered := seekState (t.position - s.pos.x), target := some t, requester := q,
        settle := 0, offTrack := 0, seekCount := 0, restartUsed := false, resume := t.cyl,
        landHere := false } }
  | .retracting => let s := tellHeldEnded s; { s with pos := { s.pos with held := some (t, q) } }
  | .emergency => let s := tellHeldEnded s; { s with pos := { s.pos with held := some (t, q) } }

/-- The positioner's part of the end of an aborted SEEK, or of a TIMED WAKE in stage 4 (R72, R166):
it settles where the head is, with no requester. -/
def settleWhereItIs (s : State) : State :=
  match s.pos.state with
  | .seeking => newSeek { cyl := s.pos.cylinder, offset := 0 } none s
  | .settling => newSeek { cyl := s.pos.cylinder, offset := 0 } none s
  | .coasting => requestTarget { cyl := s.pos.cylinder, offset := 0 } none
      { s with pos := { s.pos with requester := none } }
  | .loading => { s with pos := { s.pos with landHere := true, requester := none } }
  | .retracting => { s with pos := { s.pos with held := none } }
  | .emergency => { s with pos := { s.pos with held := none } }
  | .parked => s
  | .following => s

/-! ### The spindle's requests -/

/-- A start request (R28). -/
def startRequest (s : State) : State :=
  match s.spin.state with
  | .stopped =>
    if s.pos.state = .parked then { s with spin := s.spin.enterKick }
    else { s with spin := { s.spin with pendingStart := true } }
  | .coasting => { s with spin := { s.spin with pendingStart := true } }
  | .braking => { s with spin := { s.spin with pendingStart := true } }
  | .kick => s
  | .accel => s
  | .regulate => s
  | .atSpeed => s

/-- A stop request (R37): it withdraws a pending start and stops the spin-up timer in every case. A
turning spindle brakes with the positioner PARKED; otherwise it coasts, after an orderly retract if
the heads fly. -/
def stopRequest (s : State) : State :=
  let s := { s with spin := { s.spin with pendingStart := false, spinUp := none } }
  match s.spin.state with
  | .stopped => s
  | .coasting => s
  | .braking => s
  | _ =>
    match s.pos.state with
    | .parked => { s with spin := s.spin.enterBraking }
    | .retracting => { s with spin := s.spin.enterCoasting }
    | .emergency => { s with spin := s.spin.enterCoasting }
    | _ => requestRetract { s with spin := s.spin.enterCoasting }

/-! ### Raising a fault -/

/-- The response to a fault (R146 to R153). The End note is given first, so that the holder's End at
the same cut is void (R155). A SPEED DEVIATION with no write in progress has no response (R153), and
the End of DATA CHECK is void, since the command's own rule ends it. -/
def respond (cls : FaultClass) (s : State) : State :=
  match cls with
  | .supplyLoss => cancelQueue (stopRequest (requestEmergency (cutWrite (noteEnd cls s))))
  | .stallSpinUp => cancelQueue (stopRequest (requestRetract (cutWrite (noteEnd cls s))))
  | .stallIndexLoss => cancelQueue (stopRequest (requestRetract (cutWrite (noteEnd cls s))))
  | .stallBrake => cancelQueue (stopRequest (requestRetract (cutWrite (noteEnd cls s))))
  | .servoLoss => cancelQueue (requestRetract (cutWrite (noteEnd cls s)))
  | .offTrack => cutWrite (noteEnd cls s)
  | .writeFault => cutWrite (noteEnd cls s)
  | .seekLoad => requestRetract (noteEnd cls s)
  | .seekSeek => requestRetract (noteEnd cls s)
  | .seekPark => requestRetract (noteEnd cls s)
  | .speedDeviation => s
  | .dataCheck => s

/-- A block raises a fault (R143, R144, R146). -/
def raise (cls : FaultClass) (s : State) : State := respond cls (offer (formRecord cls s) s)

/-- The spindle raises SPEED DEVIATION (R153, R154): into the holder while WGATE is asserted. -/
def raiseDeviation (s : State) : State :=
  if s.chan.wgate then
    { s with fault := { s.fault with holder := some (formRecord .speedDeviation s) } }
  else raise .speedDeviation s

/-! ### Cartridge, session and rest -/

/-- The cartridge state changes; a pending AUTO START is withdrawn when it leaves PRESENT (R3). -/
def setCart (c : CartState) (s : State) : State :=
  { s with cart := { s.cart with state := c }
           cu := { s.cu with pendAuto := if c = .present then s.cu.pendAuto else false } }

/-- The state of a seated cartridge without a session (R17, R20, R167). -/
def stateForType (t : Option CartType) : CartState :=
  match t with
  | some _ => .present
  | none => .refused .typeUnknown

/-- The session record is discarded (R7): RECORD LOST if a change was unsaved. -/
def discardSession (s : State) : State :=
  let s := if s.record.unsaved then setCause .recordLost s else s
  { s with record := { s.record with session := .absent, copyStatus := .none, unsaved := false } }

/-- The load report is reset (R93). -/
def resetReport (s : State) : State :=
  { s with record := { s.record with report := LoadReport.none } }

/-- The shell has left: removal (R4) and completed eject (R19). -/
def shellLeaves (s : State) : State :=
  let s := setCause .removed (resetReport (discardSession (setCart .empty s)))
  { s with cart := { s.cart with type := none, wp := false, hold := false, latch := false } }

/-- The rest state returns to NONE (R164). -/
def endRest (s : State) : State :=
  { s with rest := { s.rest with state := .none, timer := none }
           cu := { s.cu with pendWake := false } }

/-- A media command ends the rest and has the spindle started if it is not AT_SPEED (R164). -/
def wakeMechanism (s : State) : State :=
  let s := endRest s
  if s.spin.state = .atSpeed then s else startRequest s

/-- The full session, if the session is full (R75). -/
def fullSession (s : State) : Option Session :=
  match s.record.session with
  | .full r => some r
  | _ => none

/-- The zone table of a full session is changed, which sets the unsaved flag (R88, R100). -/
def changeZones (zones : List Zone) (s : State) : State :=
  match s.record.session with
  | .full r => { s with record := { s.record with session := .full { r with zones }, unsaved := true } }
  | _ => s

/-! ### The data timeout -/

/-- The active data timeout in ticks, read when a timer starts (R127). -/
def dataTimeout (s : State) : Timer := some (s.set.active.timeout * Config.second)

/-- The gate-wait timer starts if it does not run (R121). -/
def startGateWait (s : State) : State :=
  match s.chan.gateWait with
  | some _ => s
  | none => { s with chan := { s.chan with gateWait := dataTimeout s } }

/-- The gate-wait timer stops. -/
def stopGateWait (s : State) : State := { s with chan := { s.chan with gateWait := none } }

/-! ### The write gate (R121) -/

/-- Conditions 1 to 4 of the write gate at a target; a record copy write needs no more (R90). -/
def copyGate (cyl : Nat) (s : State) : Bool :=
  onTarget cyl 0 s && s.clk.locked && s.spin.state == .atSpeed && !s.spin.deviating && !s.cart.wp

/-- The whole write gate: condition 5 besides, READY or a FORMAT executing. -/
def writeGate (cyl : Nat) (s : State) : Bool :=
  copyGate cyl s && (s.cart.state == .ready || s.fmt.isSome)

/-! ### The buffer, the outbound line and the outbox -/

/-- The block index that a slot holds data of. -/
def BufSlot.heldIdx : BufSlot → Option Nat
  | .holding i _ => some i
  | _ => none

/-- The data that the buffer holds of block i. -/
def holdingData (i : Nat) (s : State) : Option (List Byte) :=
  match s.chan.slot0, s.chan.slot1 with
  | .holding j d, .holding k e => if j = i then some d else if k = i then some e else none
  | .holding j d, _ => if j = i then some d else none
  | _, .holding k e => if k = i then some e else none
  | _, _ => none

/-- A slot is FREE (R110). -/
def hasFreeSlot (s : State) : Bool := s.chan.slot0 == .free || s.chan.slot1 == .free

/-- A FREE slot takes this content. -/
def fillFree (b : BufSlot) (s : State) : State :=
  if s.chan.slot0 = .free then { s with chan := { s.chan with slot0 := b } }
  else if s.chan.slot1 = .free then { s with chan := { s.chan with slot1 := b } }
  else s

/-- A slot answers to block i. -/
def BufSlot.isFor (i : Nat) : BufSlot → Bool
  | .free => false
  | .awaiting j => j == i
  | .holding j _ => j == i

/-- The slot of block i takes this content. -/
def setSlotOf (i : Nat) (b : BufSlot) (s : State) : State :=
  if s.chan.slot0.isFor i then { s with chan := { s.chan with slot0 := b } }
  else if s.chan.slot1.isFor i then { s with chan := { s.chan with slot1 := b } }
  else s

/-- Both slots FREE (R130). -/
def freeSlots (s : State) : State :=
  { s with chan := { s.chan with slot0 := .free, slot1 := .free } }

/-- The ready READ data frame: the oldest HOLDING slot of a READ (R115). -/
def readyFrame (s : State) : Option (Nat × List Byte) :=
  match s.chan.transfer with
  | some t =>
    if t.cmd = .read then
      match s.chan.slot0, s.chan.slot1 with
      | .holding j d, .holding k e => if j ≤ k then some (j, d) else some (k, e)
      | .holding j d, _ => some (j, d)
      | _, .holding k e => some (k, e)
      | _, _ => none
    else none
  | none => none

/-- REQ is asserted while the outbox holds a reply or the outbound line a frame (R192), and not while
RST is (R193). -/
def req (s : State) : Bool :=
  !s.pins.rst && (!s.link.outbox.isEmpty || !s.link.line.isEmpty || (readyFrame s).isSome)

/-- What the part drives on D0–D7 and on DP with STB raised (R187, R188): while a frame is being sent,
its first byte not yet acknowledged, with odd parity; otherwise the lines are released. -/
def driven (s : State) : Option (Byte × Bool) :=
  match s.link.send with
  | none => none
  | some f =>
    if s.pins.rst then none else (f.bytes[s.link.acked]?).map fun b => (b, oddParity b)

/-- A tick of the handshake of a frame being sent (R188): if the host acknowledges the byte that the part
drives, the next one is placed; otherwise the part goes on waiting. The host's pace is a free value, and the
last acknowledgement of a frame is FRAME_SENT (log entry 16). -/
def ackByte (s : State) : State :=
  match s.link.send with
  | none => s
  | some f =>
    { s with
      link := { s.link with
        acked := if Config.hostAcknowledges s.freeUsed then min (s.link.acked + 1) (f.bytes.length - 1)
          else s.link.acked }
      freeUsed := s.freeUsed + 1 }

/-- The data requests of an ended WRITE that are not sent whole leave the outbound line; the one being
sent is withdrawn (R126, R192). -/
def withdrawLine (s : State) : State :=
  { s with link := { s.link with line := [], send := s.link.send.map Outbound.withdraw } }

/-- The places of the outbox in use: replies, the place of a command frame in reception, and the
places of the RESET commands not yet answered (R191). -/
def placesUsed (s : State) : Nat :=
  s.link.outbox.length + (if s.link.heldFrame then 1 else 0) + s.cu.resets.length

/-- A free place exists (R191). -/
def placeFree (s : State) : Bool := placesUsed s < Config.outboxMax

/-- A reply enters the outbox. -/
def putReply (r : Reply) (s : State) : State :=
  { s with link := { s.link with outbox := s.link.outbox ++ [r] } }

end Sys2Proof.Machine
end

