-- ==== Sys2Proof/Machine/Frames.lean ====
section
/-! DEFINITION. The replies: the result fields of every command (R195), the SENSE layout (12.3), the
table layouts (12.4), and the end of the item in the execution slot (R177). -/

namespace Sys2Proof.Machine

/-! ### State bytes (R195, 12.3) -/

def CartState.code : CartState → Nat
  | .empty => 0
  | .present => 1
  | .starting => 2
  | .ready => 3
  | .blank => 4
  | .refused _ => 5
  | .unloading => 6
  | .released => 7

def CartState.reason : CartState → Nat
  | .refused .typeUnknown => 1
  | .refused .typeConflict => 2
  | .refused .recordDamaged => 3
  | _ => 0

/-- The type field: 0 unknown, 1 A, 2 B. -/
def typeCode : Option CartType → Nat
  | none => 0
  | some t => t.code

def SpindleState.code : SpindleState → Nat
  | .stopped => 0
  | .kick => 1
  | .accel => 2
  | .regulate => 3
  | .atSpeed => 4
  | .coasting => 5
  | .braking => 6

def PosState.code : PosState → Nat
  | .parked => 0
  | .loading => 1
  | .seeking => 2
  | .settling => 3
  | .following => 4
  | .coasting => 5
  | .retracting => 6
  | .emergency => 7

def RestState.code : RestState → Nat
  | .none => 0
  | .idle => 1
  | .standby => 2

def CopyStatus.code : CopyStatus → Nat
  | .none => 0
  | .good => 1
  | .degraded => 2

def FormatPhase.code : FormatPhase → Nat
  | .preparing => 1
  | .marking => 2
  | .writing => 3
  | .verifying => 4
  | .finishing => 5

def CopyClass.code : CopyClass → Nat
  | .notRead => 0
  | .absent => 1
  | .damaged => 2
  | .valid => 3

def CopyReason.code : CopyReason → Nat
  | .none => 0
  | .unreadable => 1
  | .noMark => 2
  | .version => 3
  | .type => 4
  | .zoneCount => 5
  | .length => 6
  | .sum => 7
  | .list => 8

/-- The slot item byte (12.3). -/
def Item.code : Item → Nat
  | .free => 0
  | .command _ => 1
  | .autoStart => 2
  | .buttonEject => 3
  | .timedWake => 4
  | .softReset _ => 5

/-- The code byte of the slot: a queued command's code; RESET while the soft reset holds the slot
(R180). -/
def Item.commandCode : Item → Byte
  | .command e => e.code
  | .softReset _ => Code.reset
  | _ => 0#8

/-! ### SENSE (R180, 12.3) -/

/-- The minutes left of the rest timer, rounded up; 0 while it is stopped (R160). -/
def minutesLeft (s : State) : Nat :=
  match s.rest.timer with
  | some n => (n + (Config.minute - 1)) / Config.minute
  | none => 0

/-- Bytes 11 to 22: the fault slot (12.3). -/
def senseFault (s : State) : List Byte :=
  match s.fault.slot with
  | none => List.replicate 12 0#8
  | some r =>
    [byte (1 + bit r.tag.isSome 1 + bit r.lba.isSome 2), byte r.cls.priority, byte r.cls.form]
    ++ be16 r.cyl ++ [byte r.head, r.tag.getD 0#8] ++ be32 (r.lba.getD 0) ++ [byte r.count]

/-- The 39 result fields of SENSE (R180, 12.3). The items that R1 and R173 call reported and that have no
byte there, such as the latch output and the eject progress, are not sent (log entry 79). -/
def senseFields (s : State) : List Byte :=
  [byte s.cart.state.code, byte s.cart.state.reason]
  ++ opt8 (if s.cart.state = .unloading ∨ s.cart.state = .released then
      s.cart.origin.map CartState.code else none)
  ++ [byte (typeCode s.cart.type + bit s.cart.wp 2 + bit s.cart.hold 3),
      byte s.spin.state.code, byte s.pos.state.code,
      byte (bit s.spin.deviating 0 + bit s.clk.locked 1 + bit (!s.cu.resets.isEmpty) 2
        + bit s.cu.pendAuto 3 + bit s.cu.pendEject 4 + bit s.cu.pendWake 5),
      byte s.rest.state.code, byte (minutesLeft s)]
  ++ be16 s.cu.attention.toNat
  ++ senseFault s
  ++ [byte s.cu.queue.length, byte (s.cu.queue.countP fun e => e.cancelled),
      byte s.cu.slot.item.code, s.cu.slot.item.commandCode, s.cu.slot.item.tag.getD 0#8]
  ++ (match s.fmt with
      | some f => byte f.phase.code :: be16 f.cylinder
      | none => byte 0 :: be16 0)
  ++ [byte s.record.copyStatus.code,
      byte (bit s.record.unsaved 0 + bit (fullSession s).isSome 1)]
  ++ (match fullSession s with
      | some r => be32 r.serial.toNat ++ be16 r.generation.toNat
      | none => be32 0 ++ be16 0)

/-! ### READ TABLE (12.4, R107 to R109, R172) -/

/-- The seven bytes of a copy in table 0. -/
def copyFields (c : CopyReport) : List Byte :=
  [byte c.cls.code, byte c.reason.code]
  ++ (match c.header with
      | some h => [1#8] ++ be16 h.generation.toNat ++ [h.type, h.flags]
      | none => [0#8, 0#8, 0#8, 0#8, 0#8])

/-- Table 0 for a READY cartridge (R108). -/
def tableReady (r : Session) (s : State) : List Byte :=
  [0#8, byte s.cart.state.code, byte r.type.code, byte (bit r.lock 0), byte r.zones.length]
  ++ be16 r.generation.toNat ++ be32 r.serial.toNat ++ be16 (recordLength r.type r.zones)
  ++ [byte s.record.copyStatus.code, byte (bit s.record.unsaved 0)]

/-- Table 0 for a BLANK or REFUSED cartridge (R108). -/
def tableReport (s : State) : List Byte :=
  [0#8, byte s.cart.state.code, byte s.cart.state.reason, byte (typeCode s.cart.type)]
  ++ copyFields s.record.report.copy0 ++ copyFields s.record.report.copy1
  ++ opt8 s.record.report.chosen

/-- Table 1 for zone z (R108). -/
def tableZone (r : Session) (z : Nat) : List Byte :=
  let zone := zoneAt r.zones z
  [1#8, byte z] ++ be32 zone.spares.toNat
  ++ [byte zone.list.length, byte (zone.setCount r.type - zone.list.length),
      byte (spareScan r.type zone)]

/-- The entries that table 2 returns (R109): up to 8, from the start index onward. -/
def tableEntries (zone : Zone) (start : Nat) : List ListEntry := (zone.list.drop start).take 8

/-- Table 2 for zone z from a start index (R109). -/
def tableList (r : Session) (z start : Nat) : List Byte :=
  let zone := zoneAt r.zones z
  [2#8, byte z, byte zone.list.length, byte (tableEntries zone start).length]
  ++ (tableEntries zone start).flatMap fun e =>
      be16 e.offset ++ [byte e.spare] ++ be16 (z * r.type.userSlots + e.offset)

/-- The four user values as table bytes. -/
def userFields (u : UserSettings) : List Byte :=
  [byte u.retry, byte u.timeout, byte (bit u.autoStart 0), byte (bit u.writeVerify 0)]

/-- Table 3 (R172). -/
def tableSettings (s : State) : List Byte :=
  3#8 :: userFields s.set.active ++ userFields s.set.image

/-- The per-type trims as table bytes. -/
def trimFields (t : Trims) : List Byte := [byte t.wc, byte t.kv, byte t.kp, byte t.kd]

/-- Table 4 (R172). -/
def tableTrims (s : State) : List Byte :=
  4#8 :: trimFields (CartType.factoryTrims .a) ++ trimFields (CartType.factoryTrims .b)
  ++ [byte (CartType.factoryTrims .a).gs] ++ trimFields s.set.trims ++ [byte s.set.trims.gs]

/-- READ TABLE (R107): the checks in their order, and the reply's outcome and fields. A reply other
than DONE carries the table number alone (R195). -/
def readTable (p : List Byte) (s : State) : OutcomeCode × List Byte :=
  let no := [byte (byteAt p 0)]
  match byteAt p 0 with
  | 0 =>
    match s.cart.state with
    | .ready =>
      match fullSession s with
      | some r => (.done, tableReady r s)
      | none => (.notReady, no)
    | .blank => (.done, tableReport s)
    | .refused _ => (.done, tableReport s)
    | _ => (.notReady, no)
  | 1 =>
    match s.cart.state, fullSession s with
    | .ready, some r =>
      if r.type.zoneCount ≤ byteAt p 1 then (.outOfRange, no)
      else (.done, tableZone r (byteAt p 1))
    | _, _ => (.notReady, no)
  | 2 =>
    match s.cart.state, fullSession s with
    | .ready, some r =>
      if r.type.zoneCount ≤ byteAt p 1 then (.outOfRange, no)
      else if (zoneAt r.zones (byteAt p 1)).list.length < byteAt p 2 then (.outOfRange, no)
      else (.done, tableList r (byteAt p 1) (byteAt p 2))
    | _, _ => (.notReady, no)
  | 3 => (.done, tableSettings s)
  | 4 => (.done, tableTrims s)
  | _ => (.badParameter, no)

/-! ### Result fields of the other queued commands (R195) -/

/-- The fields of READ and VERIFY. -/
def readFields (s : State) : List Byte :=
  match s.chan.transfer with
  | some t => [byte t.count, byte t.done] ++ opt32 t.failing
  | none => [0#8, 0#8] ++ opt32 none

/-- The fields of WRITE. -/
def writeFields (s : State) : List Byte :=
  match s.chan.transfer with
  | some t => [byte t.count, byte t.done] ++ opt32 t.torn
      ++ [byte t.reassigned, byte t.result.code]
  | none => [0#8, 0#8] ++ opt32 none ++ [0#8, 0#8]

/-- The fields of REASSIGN; one answered at a check or a gate carries the LBA it named (R102). -/
def reassignFields (p : List Byte) (s : State) : List Byte :=
  match s.chan.reassign with
  | some r => be32 r.lba ++ opt8 r.spare ++ [byte (bit r.dataLost 0 + bit r.torn 1),
      byte r.result.code]
  | none => be32 (word32At p 0) ++ opt8 none ++ [0#8, 0#8]

/-- The fields of FORMAT (R139). -/
def formatFields (s : State) : List Byte :=
  match s.fmt with
  | some f => byte f.phase.code :: be16 f.cylinder ++ be16 f.retired ++ be16 f.reassigned
      ++ opt8 f.exhausted ++ opt16 (f.torn.map Place.cyl) ++ opt8 (f.torn.map Place.head)
      ++ opt8 (f.torn.map Place.sector)
  | none => byte 0 :: be16 0 ++ be16 0 ++ be16 0 ++ opt8 none ++ opt16 none ++ opt8 none
      ++ opt8 none

/-- The full layout of a command's row (R195), with the values it holds at its end. READ TABLE and
SET PARAMETER make their own. -/
def resultFields (e : Entry) (s : State) : List Byte :=
  if e.code = Code.spinUp then [byte s.cart.state.code]
  else if e.code = Code.spinDown then [byte s.cu.slot.result.code]
  else if e.code = Code.seek then be16 (word16At e.params 0) ++ be16 s.pos.cylinder
  else if e.code = Code.read then readFields s
  else if e.code = Code.write then writeFields s
  else if e.code = Code.verify then readFields s
  else if e.code = Code.reassign then reassignFields e.params s
  else if e.code = Code.format then formatFields s
  else if e.code = Code.rest then [byte s.cu.slot.result.code]
  else []

/-! ### The end of an item (R177) -/

/-- The contexts of an ended item are absent, its timers stopped, the buffer empty and no request of
its own outstanding (R110, R131, R139). It waits for no target; a request of its that is held during
a retract stays held (R51). -/
def clearWork (s : State) : State :=
  let s := dropRequester (withdrawLine s)
  { s with
    chan := { s.chan with transfer := none, reassign := none, slot0 := .free, slot1 := .free,
                          outstanding := [], readyTimer := none, gateWait := none }
    fmt := none
    cart := { s.cart with origin := none, eject := none }
    mail := Mail.none }

/-- The slot is free. -/
def freeSlot (s : State) : State := { s with cu := { s.cu with slot := Slot.free } }

/-- The item in the slot ends with an outcome and result fields (R177). A queued command's reply
enters the outbox at once if a place is free, and otherwise waits in the slot with the reply-waiting
mark. An internal operation makes no reply. -/
def finishWith (o : OutcomeCode) (fields : List Byte) (s : State) : State :=
  match s.cu.slot.item with
  | .command e =>
    let r : Reply := { tag := e.tag, code := e.code, outcome := o, fields, queued := true }
    let s := clearWork s
    if placeFree s then freeSlot (putReply r s)
    else { s with cu := { s.cu with slot := { s.cu.slot with work := .replying r } } }
  | _ => freeSlot (clearWork s)

/-- The item ends with an outcome and the full layout of its command (R195). -/
def finish (o : OutcomeCode) (s : State) : State :=
  match s.cu.slot.item with
  | .command e => finishWith o (resultFields e s) s
  | _ => finishWith o [] s

end Sys2Proof.Machine
end

