-- ==== Sys2Proof/Machine/RecordUnit.lean ====
section
/-! DEFINITION. The record unit at work: the copy write (R90) with the write-back around it (R89, R91,
R92), and the record load (R79 to R83, R87). Each has a beginning, what it does at a sector start, and
one transition that `advance` makes when an answer has come. -/

namespace Sys2Proof.Machine

/-- The offset of attempt k (R116). -/
def attemptOffset (k : Nat) : Int :=
  if k ≤ 1 then 0
  else
    match (k - 2) % 3 with
    | 0 => 0
    | 1 => 32
    | _ => -32

/-- The heads are on the ramp or on their way to it (R87, R92). -/
def headsGone (s : State) : Bool :=
  s.pos.state == .parked || s.pos.state == .retracting || s.pos.state == .emergency

/-- An offset of +32 or −32 in use is returned to 0 by a request whose outcome nobody waits for
(R79, R114). -/
def restoreOffset (s : State) : State :=
  match s.pos.target with
  | some t =>
    if t.offset ≠ 0 ∧ headsGone s = false then requestTarget { cyl := t.cyl, offset := 0 } none s
    else s
  | none => s

/-! ### Copy write (R90) -/

/-- The copy writes of an image begin with copy 0 (R89, R134, R138). -/
def beginCopies (owner : CopyOwner) (image : List Byte) (s : State) : State :=
  { s with record := { s.record with
      image
      copyWrite := some { owner, targeting := false, copy := 0, attempt := 1, readBack := false,
                          sector := 0, armed := false, timer := some Config.copyAttemptTime,
                          expired := false, written0 := false } } }

/-- The image of a write-back (R89): the session's generation plus 1, format in progress clear. -/
def writeBackImage (r : Session) : List Byte :=
  recordImage r.type r.lock false (r.generation + 1) r.serial r.zones

/-- The image is built and copy 0 begins, once the heads are on cylinder 0 (R89). -/
def beginSessionCopies (s : State) : State :=
  match fullSession s with
  | some r => beginCopies .writeBack (writeBackImage r) s
  | none => { s with mail := { s.mail with saved := some .notMade }
                     record := { s.record with copyWrite := none } }

/-- A write-back begins (R89). On a write-protected cartridge it writes nothing and ends with the result
WRITE PROTECTED. -/
def beginWriteBack (s : State) : State :=
  if s.cart.wp then { s with mail := { s.mail with saved := some .writeProtected } }
  else if onTarget 0 0 s then beginSessionCopies s
  else
    requestTarget { cyl := 0, offset := 0 } (some .record)
      { s with record := { s.record with
          copyWrite := some { owner := .writeBack, targeting := true, copy := 0, attempt := 1,
                              readBack := false, sector := 0, armed := false, timer := none,
                              expired := false, written0 := false } } }

/-- The three outcomes of a write-back (R91). -/
def copiesResult : Bool → Bool → RecordResult
  | true, true => .both
  | false, false => .neither
  | _, _ => .one

/-- The session after a write-back (R91). -/
def applyWriteBack (res : RecordResult) (s : State) : State :=
  match s.record.session with
  | .full r =>
    match res with
    | .both => { s with record := { s.record with
        session := .full { r with generation := r.generation + 1 }, unsaved := false,
        copyStatus := .good } }
    | .one => { s with record := { s.record with
        session := .full { r with generation := r.generation + 1 }, unsaved := false,
        copyStatus := .degraded } }
    | .neither => { s with record := { s.record with copyStatus := .degraded } }
    | .notMade => s
    | .writeProtected => s
  | _ => s

/-- The copy writes have ended, with the copies written (R91, R92). The owner is told. -/
def endCopies (owner : CopyOwner) (w0 w1 : Bool) (s : State) : State :=
  let s := { s with record := { s.record with copyWrite := none } }
  match owner with
  | .writeBack =>
    let s := applyWriteBack (copiesResult w0 w1) s
    { s with mail := { s.mail with saved := some (copiesResult w0 w1) } }
  | .format => { s with mail := { s.mail with copies := some (w0, w1) } }

/-- A copy has been written, or has failed its three attempts (R90). -/
def copyDone (c : CopyWrite) (ok : Bool) (s : State) : State :=
  if c.copy = 0 then
    { s with record := { s.record with
        copyWrite := some { c with copy := 1, attempt := 1, readBack := false, sector := 0,
                                   armed := false, timer := some Config.copyAttemptTime,
                                   expired := false, written0 := ok } } }
  else endCopies c.owner c.written0 ok s

/-- An attempt has failed (R90): the next one starts at the next start of sector 0. -/
def copyAttemptFails (c : CopyWrite) (s : State) : State :=
  if Config.copyAttempts ≤ c.attempt then copyDone c false s
  else
    { s with record := { s.record with
        copyWrite := some { c with attempt := c.attempt + 1, readBack := false, sector := 0,
                                   armed := true, timer := none, expired := false } } }

/-- A write-back or copy write ends at once, with the copies completed so far (R92, R141). -/
def abandonCopies (c : CopyWrite) (s : State) : State :=
  endCopies c.owner (c.written0 && c.copy == 1) false s

/-- The next sector of a pass, the read-back pass after the write pass, or the copy done (R90). -/
def copyPassGoesOn (c : CopyWrite) (s : State) : State :=
  if c.sector + 1 < sectorsFor s.record.image.length then
    { s with record := { s.record with copyWrite := some { c with sector := c.sector + 1 } } }
  else if c.readBack then copyDone c true s
  else
    { s with record := { s.record with copyWrite := some { c with readBack := true, sector := 0 } } }

/-- What the end of a sector means for an attempt (R90). -/
def copySectorEnds (c : CopyWrite) (r : SectorResult) (s : State) : State :=
  if c.expired then copyAttemptFails c s
  else
    match r with
    | .written => copyPassGoesOn c s
    | .readOk d =>
      if d = imageSector s.record.image c.sector then copyPassGoesOn c s else copyAttemptFails c s
    | .readFailed => copyAttemptFails c s
    | .cut => s
    | .interrupted => s

/-- One transition of the copy writes, if an answer has come. A fault that loses the heads ends them
and stays for the item; OFF TRACK, WRITE FAULT and a released SPEED DEVIATION fail the attempt (R90,
R92). While the request for cylinder 0 is out, its outcome ends them, and the entry to PARKED ends those
whose request was held in a retract (R92); that request stays with the positioner (log entry 72). -/
def advanceCopies (s : State) : Option State :=
  match s.record.copyWrite with
  | none => none
  | some c =>
    match s.mail.note with
    | some cls =>
      if cls.losesHeads then some (abandonCopies c { s with mail := { s.mail with sector := none } })
      else some (copyAttemptFails c { s with mail := { s.mail with note := none, sector := none } })
    | none =>
      if c.targeting then
        match s.mail.told with
        | none => if s.pos.state = .parked then some (abandonCopies c s) else none
        | some .complete => some (beginSessionCopies { s with mail := { s.mail with told := none } })
        | some _ => some (abandonCopies c { s with mail := { s.mail with told := none } })
      else if headsGone s then some (abandonCopies c { s with mail := { s.mail with sector := none } })
      else
        match s.mail.sector with
        | none => none
        | some r => some (copySectorEnds c r { s with mail := { s.mail with sector := none } })

/-- The wanted sector of a copy has come to its start (R90). -/
def copySectorStart (c : CopyWrite) (s : State) : State :=
  if c.readBack then
    if onTarget 0 0 s && s.clk.locked then
      beginRead { cyl := 0, head := c.copy, sector := c.sector } s
    else s
  else if copyGate 0 s then
    beginWrite { cyl := 0, head := c.copy, sector := c.sector }
      (imageSector s.record.image c.sector) s
  else s

/-- Sector n starts while copies are written (R90). An attempt after the first starts at a start of
sector 0. -/
def copyStart (c : CopyWrite) (n : Nat) (s : State) : State :=
  if c.targeting then s
  else if c.armed then
    if n = 0 then
      let c := { c with armed := false, timer := some Config.copyAttemptTime }
      copySectorStart c { s with record := { s.record with copyWrite := some c } }
    else s
  else if n = c.sector then copySectorStart c s
  else s

/-- The 250 ms of an attempt have passed (R90): the attempt fails, at the end of the sector if one is
in work. -/
def copyTimerExpires (s : State) : State :=
  match s.record.copyWrite with
  | none => s
  | some c =>
    if c.timer.isNone then s
    else if s.chan.op.isSome then
      { s with record := { s.record with copyWrite := some { c with expired := true, timer := none } } }
    else copyAttemptFails c s

/-! ### Record load (R79 to R83) -/

/-- A load begins (R79). -/
def beginLoad (s : State) : State :=
  let wait := !onTarget 0 0 s
  let s := { s with record := { s.record with
      image := []
      load := some { copy := 0, sector := 0, attempt := 1, offset := 0, firstPass := false,
                     limit := s.set.active.retry, waiting := wait, report0 := CopyReport.notRead,
                     copy0 := none } } }
  if wait then requestTarget { cyl := 0, offset := 0 } (some .record) s else s

/-- The next sector of a load begins with attempt 1; an offset in use is returned to 0 first
(R79). -/
def loadSector (l : Load) (s : State) : State :=
  if l.offset = 0 then { s with record := { s.record with load := some l } }
  else
    requestTarget { cyl := 0, offset := 0 } (some .record)
      { s with record := { s.record with load := some { l with offset := 0, waiting := true } } }

/-- A copy's classification is settled (R79, R80): copy 1 follows copy 0, and after it the choice. -/
def copyClassified (l : Load) (rep : CopyReport) (c : Option RecordCopy) (s : State) : State :=
  if l.copy = 0 then
    loadSector { l with copy := 1, sector := 0, attempt := 1, firstPass := false, report0 := rep,
                        copy0 := c }
      { s with record := { s.record with image := [] } }
  else
    restoreOffset { s with
      record := { s.record with load := none }
      mail := { s.mail with load := some (.chosen l.report0 rep l.copy0 c) } }

/-- A sector of a copy has been read into the image store (R79, R80). -/
def loadSectorRead (l : Load) (data : List Byte) (s : State) : State :=
  let image := ((s.record.image.take (512 * l.sector)) ++ data).take Config.imageBytes
  let s := { s with record := { s.record with image } }
  match (if l.sector = 0 then headerFinding image else none) with
  | some rep => copyClassified l rep none s
  | none =>
    if l.sector + 1 < sectorsFor (word16At image 12) then
      loadSector { l with sector := l.sector + 1, attempt := 1, firstPass := false } s
    else copyClassified l (finalFinding image).1 (finalFinding image).2 s

/-- An attempt at a record sector has failed (R79, R80 steps 1 and 7, R116). -/
def loadAttemptFails (l : Load) (s : State) : State :=
  if l.limit < l.attempt then
    if l.sector = 0 then copyClassified l (absentCopy .unreadable) none s
    else copyClassified l (damaged s.record.image .unreadable) none s
  else if attemptOffset (l.attempt + 1) = l.offset then
    { s with record := { s.record with load := some { l with attempt := l.attempt + 1 } } }
  else
    requestTarget { cyl := 0, offset := attemptOffset (l.attempt + 1) } (some .record)
      { s with record := { s.record with load := some { l with
          attempt := l.attempt + 1, offset := attemptOffset (l.attempt + 1), waiting := true } } }

/-- A load ends without a choice (R87). -/
def endLoad (r : LoadResult) (s : State) : State :=
  { s with record := { s.record with load := none }
           mail := { s.mail with load := some r, told := none, sector := none } }

/-- One transition of a load, if something has come (R87). -/
def advanceLoad (s : State) : Option State :=
  match s.record.load with
  | none => none
  | some l =>
    match s.mail.note with
    | some _ => some (endLoad .failed s)
    | none =>
      if s.cu.slot.abortPending && s.chan.op.isNone then some (endLoad .stopped s)
      else if l.waiting then
        match s.mail.told with
        | none => none
        | some .complete =>
          some { s with mail := { s.mail with told := none }
                        record := { s.record with load := some { l with waiting := false } } }
        | some _ => some (endLoad .failed s)
      else if headsGone s then some (endLoad .failed s)
      else
        match s.mail.sector with
        | some (.readOk d) => some (loadSectorRead l d { s with mail := { s.mail with sector := none } })
        | some _ => some (loadAttemptFails l { s with mail := { s.mail with sector := none } })
        | none => none

/-- Sector n starts while a load reads (R79, R112, R116). -/
def loadStart (l : Load) (n : Nat) (s : State) : State :=
  if l.waiting = true ∨ n ≠ l.sector ∨ onTarget 0 l.offset s = false then s
  else if s.clk.locked then beginRead { cyl := 0, head := l.copy, sector := l.sector } s
  else if l.attempt = 1 ∧ l.firstPass = false then
    { s with record := { s.record with load := some { l with firstPass := true } } }
  else loadAttemptFails l s

/-- The choice of copy (R82, R83): the load report, the session, the copy status and the cartridge
state. The load ran, so the type is known. -/
def applyChoice (r0 r1 : CopyReport) (c0 c1 : Option RecordCopy) (s : State) : State :=
  let f := choiceFinding (s.cart.type.getD .a) r0 r1 c0 c1
  let s := setCart f.1 s
  { s with record := { s.record with
      session := f.2.1, copyStatus := f.2.2, unsaved := false
      report := { copy0 := r0, copy1 := r1, chosen := (chooseCopy c0 c1).map Prod.fst } } }

/-- The load report alone is replaced (R86). -/
def replaceReport (r0 r1 : CopyReport) (s : State) : State :=
  { s with record := { s.record with report := { copy0 := r0, copy1 := r1, chosen := none } } }

end Sys2Proof.Machine
end

