-- ==== Sys2Proof/Machine/Items.lean ====
section
/-! DEFINITION. The items of the execution slot that move the mechanism without transferring blocks:
SPIN UP and AUTO START (R5, R84 to R87), SEEK (R70 to R72), REST (R162, R163), SPIN DOWN (R167), TIMED
WAKE (R165, R166), the eject sequence (R12 to R21) and the soft reset (R184). Each has its beginning
and `advance…`, the one transition it makes when what it waits for has come; none means that it goes
on waiting. -/

namespace Sys2Proof.Machine

/-- The item passes to this stage. -/
def setWork (w : Work) (s : State) : State :=
  { s with cu := { s.cu with slot := { s.cu.slot with work := w } } }

/-- The End instruction is void for this item (R146). -/
def dropNote (s : State) : State := { s with mail := { s.mail with note := none } }

/-- The answer to a target request is taken. -/
def dropTold (s : State) : State := { s with mail := { s.mail with told := none } }

/-- The parameters of the command in the slot. -/
def slotParams (s : State) : List Byte :=
  match s.cu.slot.item with
  | .command e => e.params
  | _ => []

/-! ### SPIN UP and AUTO START -/

/-- A start begins on a PRESENT cartridge (R5, R84). -/
def beginStart (s : State) : State := setWork .startSpin (startRequest (setCart .starting s))

/-- A start ends before a choice (R5): PRESENT, and the spindle is brought to STOPPED. -/
def endStart (o : OutcomeCode) (s : State) : State := finish o (stopRequest (setCart .present s))

/-- The stages of a start (R84), with its ends (R5, R87). -/
def advanceStart (s : State) : Option State :=
  match s.cu.slot.work with
  | .startSpin =>
    match s.mail.note with
    | some cls => if cls.losesHeads then some (endStart .faulted s) else some (dropNote s)
    | none =>
      if s.cu.slot.abortPending then some (endStart .aborted s)
      else if s.spin.state = .atSpeed then
        some (setWork .startHeads (requestTarget { cyl := 0, offset := 0 } (some .record) s))
      else none
  | .startHeads =>
    match s.mail.note with
    | some cls => if cls.losesHeads then some (endStart .faulted s) else some (dropNote s)
    | none =>
      if s.cu.slot.abortPending then some (endStart .aborted s)
      else
        match s.mail.told with
        | none => none
        | some .complete => some (setWork .startLoad (beginLoad (dropTold s)))
        | some _ => some (endStart .faulted s)
  | .startLoad =>
    match s.mail.load with
    | none => none
    | some .failed => some (endStart .faulted s)
    | some .stopped => some (endStart .aborted s)
    | some (.chosen r0 r1 c0 c1) =>
      let s := applyChoice r0 r1 c0 c1 s
      some (finish (choiceOutcome s.cart.state s.record.copyStatus) s)
  | _ => none

/-- SPIN UP in READY or BLANK without re-identify (R85). -/
def beginSpinOnly (s : State) : State := setWork .spinOnly (wakeMechanism s)

/-- Stage 3 of a reload (R86): the spindle. -/
def reloadSpindle (s : State) : State :=
  setWork .reloadSpin (if s.spin.state = .atSpeed then s else startRequest s)

/-- A reload begins (R86): the rest ends, and an unsaved session is saved first. -/
def beginReload (s : State) : State :=
  let s := endRest s
  if s.record.unsaved then setWork .reloadSave (beginWriteBack s) else reloadSpindle s

/-- The wait of R85 and the stages of a reload (R86, R87). A SEEK FAILED that ends the write-back of
stage 2 ends the reload FAULTED (log entry 64). -/
def advanceReload (s : State) : Option State :=
  match s.cu.slot.work with
  | .spinOnly =>
    match s.mail.note with
    | some cls => if cls.isClass13 then some (finish .faulted s) else some (dropNote s)
    | none =>
      if s.cu.slot.abortPending then some (finish .aborted s)
      else if s.spin.state = .atSpeed then some (finish .done s)
      else none
  | .reloadSave =>
    match s.mail.saved with
    | none => none
    | some r =>
      if s.mail.note.isSome then some (finish .faulted s)
      else if r = .neither then some (finish .recordWriteFailed s)
      else if s.cu.slot.abortPending then some (finish .aborted s)
      else some (reloadSpindle { s with mail := { s.mail with saved := none } })
  | .reloadSpin =>
    match s.mail.note with
    | some cls => if cls.losesHeads then some (finish .faulted s) else some (dropNote s)
    | none =>
      if s.cu.slot.abortPending then some (finish .aborted s)
      else if s.spin.state = .atSpeed then
        some (setWork .reloadHeads (requestTarget { cyl := 0, offset := 0 } (some .record) s))
      else none
  | .reloadHeads =>
    match s.mail.note with
    | some cls => if cls.losesHeads then some (finish .faulted s) else some (dropNote s)
    | none =>
      if s.cu.slot.abortPending then some (finish .aborted s)
      else
        match s.mail.told with
        | none => none
        | some .complete => some (setWork .reloadLoad (beginLoad (dropTold s)))
        | some _ => some (finish .faulted s)
  | .reloadLoad =>
    match s.mail.load with
    | none => none
    | some .failed => some (finish .faulted s)
    | some .stopped => some (finish .aborted s)
    | some (.chosen r0 r1 c0 c1) =>
      match chooseCopy c0 c1 with
      | some _ =>
        let s := applyChoice r0 r1 c0 c1 s
        some (finish (choiceOutcome s.cart.state s.record.copyStatus) s)
      | none => some (finish .recordDamaged (replaceReport r0 r1 s))
  | _ => none

/-! ### SEEK -/

/-- SEEK after its checks (R70): the rest ends, and the spindle is started if need be. -/
def beginSeek (s : State) : State := setWork .seekSpin (wakeMechanism s)

/-- The reply that the outcome of the target request gives a SEEK (R71). -/
def seekOutcome : TargetOutcome → OutcomeCode
  | .complete => .done
  | .notLoaded .faultHeld => .faultPending
  | .notLoaded _ => .faulted
  | .failed => .seekFailed
  | .ended => .faulted

/-- The outcome that a fault's End gives a command that uses the heads (R146, R148 to R152). -/
def endOutcome (cls : FaultClass) : OutcomeCode :=
  if cls.isSeekFailed then .seekFailed
  else if cls = .writeFault then .writeFault
  else if cls = .dataCheck then .dataCheck
  else .faulted

/-- The stages of a SEEK (R70 to R72). -/
def advanceSeek (s : State) : Option State :=
  match s.cu.slot.work with
  | .seekSpin =>
    match s.mail.note with
    | some cls => if cls.losesHeads then some (finish (endOutcome cls) s) else some (dropNote s)
    | none =>
      if s.cu.slot.abortPending then some (finish .aborted s)
      else if s.spin.state = .atSpeed then
        some (setWork .seekTarget
          (requestTarget { cyl := word16At (slotParams s) 0, offset := 0 } (some .seek) s))
      else none
  | .seekTarget =>
    match s.mail.note with
    | some cls => if cls.losesHeads then some (finish (endOutcome cls) s) else some (dropNote s)
    | none =>
      match s.mail.told with
      | some o => some (finish (seekOutcome o) s)
      | none =>
        if s.cu.slot.abortPending then some (finish .aborted (settleWhereItIs s)) else none
  | _ => none

/-! ### REST -/

/-- The depth, the wake target and the wake minutes that a REST names (R161). With depth IDLE the
wake target is taken as ACTIVE. -/
def restStandby (s : State) : Bool := byteAt (slotParams s) 0 == 1
def restWakeActive (s : State) : Bool := !restStandby s || byteAt (slotParams s) 2 == 1
def restMinutes (s : State) : Nat := byteAt (slotParams s) 1

/-- The outcome of REST and of SPIN DOWN (R162, R167). -/
def restOutcome (s : State) : OutcomeCode :=
  if s.cu.slot.faulted then .faulted else s.cu.slot.result.outcome

/-- Stage 3 of REST entry (R162). -/
def restParks (s : State) : State := setWork .restPark (requestRetract s)

/-- REST entry begins (R162 stages 1 and 2). -/
def beginRest (s : State) : State :=
  let s := endRest s
  if s.record.unsaved then setWork .restSave (beginWriteBack s) else restParks s

/-- Stage 5 (R162). -/
def enterRest (s : State) : State :=
  let s := { s with rest := {
      state := if restStandby s then .standby else .idle
      wakeActive := restWakeActive s
      timer := if restMinutes s = 0 then none else some (restMinutes s * Config.minute) } }
  finish (restOutcome s) s

/-- A class 1–3 fault fixes the outcome FAULTED of REST and SPIN DOWN; no other fault changes it
(R163, R167). -/
def slotFaulted (cls : FaultClass) (s : State) : State :=
  let s := dropNote s
  if cls.isClass13 then { s with cu := { s.cu with slot := { s.cu.slot with faulted := true } } }
  else s

/-- The record result is kept for the reply (R162, R167). -/
def slotResult (r : RecordResult) (s : State) : State :=
  { s with cu := { s.cu with slot := { s.cu.slot with result := r } }
           mail := { s.mail with saved := none } }

/-- The stages of REST entry (R162, R163). -/
def advanceRest (s : State) : Option State :=
  match s.cu.slot.work with
  | .restSave =>
    match s.mail.note with
    | some cls => some (slotFaulted cls s)
    | none =>
      match s.mail.saved with
      | none => none
      | some r => some (restParks (slotResult r s))
  | .restPark =>
    match s.mail.note with
    | some cls => some (slotFaulted cls s)
    | none =>
      if s.pos.state = .parked then
        if restStandby s then some (setWork .restStop (stopRequest s)) else some (enterRest s)
      else none
  | .restStop =>
    match s.mail.note with
    | some .stallBrake => some (enterRest (slotFaulted .stallBrake s))
    | some cls => some (slotFaulted cls s)
    | none => if s.spin.state = .stopped then some (enterRest s) else none
  | _ => none

/-! ### SPIN DOWN -/

/-- Stage 3 of SPIN DOWN (R167). -/
def downParks (s : State) : State := setWork .downPark (requestRetract s)

/-- SPIN DOWN begins (R167 stages 1 and 2). Where a class 1–3 fault bars the write-back the copy status is left
as it is (log entry 76). -/
def beginSpinDown (s : State) : State :=
  let s := endRest s
  if !s.record.unsaved then downParks s
  else if class13Held s then downParks (slotResult .neither s)
  else if s.spin.state = .atSpeed then setWork .downSave (beginWriteBack s)
  else setWork .downSpin (startRequest s)

/-- Stage 5 of SPIN DOWN (R167). The load report is kept (R93). -/
def downDiscards (s : State) : State :=
  let s := setCart (stateForType s.cart.type) (discardSession s)
  finish (restOutcome s) s

/-- The stages of SPIN DOWN (R167). -/
def advanceSpinDown (s : State) : Option State :=
  match s.cu.slot.work with
  | .downSpin =>
    match s.mail.note with
    | some cls =>
      if cls.isClass13 then some (downParks (slotResult .neither (slotFaulted cls s)))
      else some (dropNote s)
    | none =>
      if s.spin.state = .atSpeed then some (setWork .downSave (beginWriteBack s)) else none
  | .downSave =>
    match s.mail.note with
    | some cls => some (slotFaulted cls s)
    | none =>
      match s.mail.saved with
      | none => none
      | some r => some (downParks (slotResult r s))
  | .downPark =>
    match s.mail.note with
    | some cls => some (slotFaulted cls s)
    | none =>
      if s.pos.state = .parked then some (setWork .downStop (stopRequest s)) else none
  | .downStop =>
    match s.mail.note with
    | some .stallBrake => some (downDiscards (slotFaulted .stallBrake s))
    | some cls => some (slotFaulted cls s)
    | none => if s.spin.state = .stopped then some (downDiscards s) else none
  | _ => none

/-! ### TIMED WAKE -/

/-- TIMED WAKE ends after its first stage: WAKE is set (R165). -/
def endWake (s : State) : State := finish .done (setCause .wake s)

/-- TIMED WAKE at the slot (R165): with the rest state NONE it does nothing; otherwise the rest ends,
and the gate is read. -/
def beginWake (s : State) : State :=
  if s.rest.state = .none then finish .done s
  else
    let s := endRest s
    if class13Held s then endWake s
    else setWork .wakeSpin (if s.spin.state = .atSpeed then s else startRequest s)

/-- Stages 3 and 4 of TIMED WAKE (R165, R166). -/
def advanceWake (s : State) : Option State :=
  match s.cu.slot.work with
  | .wakeSpin =>
    match s.mail.note with
    | some cls => if cls.isClass13 then some (endWake s) else some (dropNote s)
    | none =>
      if s.cu.slot.abortPending then some (endWake s)
      else if s.spin.state = .atSpeed then
        if s.rest.wakeActive then
          some (setWork .wakeTarget
            (requestTarget { cyl := s.pos.resume, offset := 0 } (some .wake) s))
        else some (endWake s)
      else none
  | .wakeTarget =>
    match s.mail.note with
    | some cls => if cls.losesHeads then some (endWake s) else some (dropNote s)
    | none =>
      match s.mail.told with
      | some _ => some (endWake s)
      | none => if s.cu.slot.abortPending then some (endWake (settleWhereItIs s)) else none
  | _ => none

/-! ### The eject sequence -/

/-- The eject passes to this stage. -/
def ejectStage (st : EjectStage) (s : State) : State :=
  { s with cart := { s.cart with eject := s.cart.eject.map fun e => { e with stage := st } } }

/-- The park stage begins (R16): no new retract is asked for if the heads are parked or on their
way. -/
def ejectParks (s : State) : State :=
  let s := ejectStage .park s
  if headsGone s then s else requestRetract s

/-- The write-back stage ends with neither copy written (R13 to R15): a host EJECT without the force
option ends, its cartridge back in the origin state; otherwise RECORD LOST is set and the sequence
goes on. -/
def ejectSaveFails (o : OutcomeCode) (s : State) : State :=
  match s.cart.eject with
  | some e =>
    if e.button || e.force then ejectParks (setCause .recordLost s)
    else finish o (setCart (s.cart.origin.getD .present) s)
  | none => finish o s

/-- The write-back stage makes its write-back (R13, R14). -/
def ejectSaves (s : State) : State := ejectStage .writeBack (beginWriteBack s)

/-- An eject sequence begins (R12 to R14). A held class 1–3 fault ends the write-back stage of a host
EJECT at once, and no write-back having begun the copy status stays as it is (log entry 76); the stage of
a BUTTON EJECT AT_SPEED begins its write-back, which ends with neither copy (log entry 60). -/
def beginEject (button force : Bool) (s : State) : State :=
  let origin := s.cart.state
  let s := setWork .eject (endRest (setCart .unloading s))
  let s := { s with cart := { s.cart with
      origin := some origin
      eject := some { button, force, stage := .writeBackSpin, window := none } } }
  if !s.record.unsaved || s.cart.wp then ejectParks s
  else if button then
    if s.spin.state = .atSpeed then ejectSaves s else ejectSaveFails .recordWriteFailed s
  else if class13Held s then ejectSaveFails .recordWriteFailed s
  else if s.spin.state = .atSpeed then ejectSaves s
  else startRequest s

/-- A brake failure ends the sequence (R17). -/
def ejectBrakeFails (s : State) : State :=
  finish .faulted (resetReport (discardSession (setCart (stateForType s.cart.type) s)))

/-- The brake stage begins (R17). The stop request that it sends withdraws a start which an aborted
command has left pending (R37), so that the platter stays STOPPED for the latch (R18; log entry
59). -/
def ejectBrakes (s : State) : State :=
  let s := ejectStage .brake s
  if s.spin.state = .stopped then s else stopRequest s

/-- The shell has left (R19). -/
def ejectLeaves (s : State) : State := finish .done (shellLeaves s)

/-- The shell has jammed (R20). -/
def ejectJams (s : State) : State :=
  let s := setCause .jammed (resetReport (discardSession (setCart (stateForType s.cart.type) s)))
  finish .ejectJammed { s with cart := { s.cart with latch := false } }

/-- LATCH is asserted (R18); a shell that has already gone leaves at that moment (R19). -/
def ejectReleases (s : State) : State :=
  let s := setCart .released s
  let s := { s with cart := { s.cart with
      latch := true
      eject := s.cart.eject.map fun e =>
        { e with stage := .leaveOrJam, window := some Config.releaseWindow } } }
  if s.pins.seated then s else ejectLeaves s

/-- The stages of an eject sequence (R13 to R18). Faults after the write-back stage do not end it,
but for a brake failure (R17, R22). A class 1–3 fault raised in the spin-up ends the write-back stage
before a write-back has begun, and leaves the copy status (R15; log entry 76). DESIGN CHOICE (log entry 82):
an unforced host EJECT whose write-back a SEEK FAILED ends is answered FAULTED also where that fault is of a
settle after OFF TRACK (R92), which R15 does not name. -/
def advanceEject (s : State) : Option State :=
  match s.cart.eject with
  | none => none
  | some e =>
    match e.stage with
    | .writeBackSpin =>
      match s.mail.note with
      | some cls => if cls.isClass13 then some (ejectSaveFails .faulted (dropNote s)) else some (dropNote s)
      | none => if s.spin.state = .atSpeed then some (ejectSaves s) else none
    | .writeBack =>
      match s.mail.saved with
      | none => none
      | some r =>
        let o : OutcomeCode := if s.mail.note.isSome then .faulted else .recordWriteFailed
        let s := dropNote { s with mail := { s.mail with saved := none } }
        if r = .neither then some (ejectSaveFails o s) else some (ejectParks s)
    | .park =>
      if s.mail.note.isSome then some (dropNote s)
      else if s.pos.state = .parked then
        if s.spin.brakeFailed then some (ejectBrakeFails s) else some (ejectBrakes s)
      else none
    | .brake =>
      if s.spin.brakeFailed then some (ejectBrakeFails s)
      else if s.mail.note.isSome then some (dropNote s)
      else if s.spin.state = .stopped then some (ejectStage .release s)
      else none
    | .release =>
      if s.mail.note.isSome then some (dropNote s)
      else if s.spin.state = .stopped ∧ s.pos.state = .parked then some (ejectReleases s)
      else none
    | .leaveOrJam => if s.mail.note.isSome then some (dropNote s) else none

/-! ### The soft reset -/

/-- RESTORE (R184): settings and trims are restored (R172), PROTOCOL is removed, and the RESET is
answered in the place it has held. -/
def restore (s : State) : State :=
  match s.cu.slot.item with
  | .softReset tag =>
    let s := clearCauses Cause.protocol.mask s
    let s := { s with
      set := { s.set with active := s.set.image, trims := factoryTrimsFor s.cart.type }
      cu := { s.cu with resets := s.cu.resets.tail } }
    freeSlot (clearWork (putReply
      { tag, code := Code.reset, outcome := .done, fields := [], queued := false } s))
  | _ => s

/-- The PARK stage (R184): a fault's End does not reach it. -/
def advanceReset (s : State) : Option State :=
  match s.cu.slot.work with
  | .resetPark =>
    if s.mail.note.isSome then some (dropNote s)
    else if s.pos.state = .parked then some (restore s)
    else none
  | _ => none

end Sys2Proof.Machine
end

