-- ==== Sys2Proof/Machine/Transfer.lean ====
section
/-! DEFINITION. READ, WRITE and VERIFY (R113 to R129) and REASSIGN (R102 to R106): the checks, what
each does at a sector start, the transition each makes when an answer has come, and the ends. -/

namespace Sys2Proof.Machine

/-- The transfer context changes. -/
def setTransfer (t : Transfer) (s : State) : State :=
  { s with chan := { s.chan with transfer := some t } }

/-- The REASSIGN context changes. -/
def setReassign (r : Reassign) (s : State) : State :=
  { s with chan := { s.chan with reassign := some r } }

/-- The answer about the sector in work is taken. -/
def dropSector (s : State) : State := { s with mail := { s.mail with sector := none } }

/-- The zone table of the session and its type. A data command and a REASSIGN run on a full
session. -/
def sessionTable (s : State) : CartType × List Zone :=
  match fullSession s with
  | some r => (r.type, r.zones)
  | none => (s.cart.type.getD .a, [])

/-! ### Data requests (R120) -/

/-- The command has ended: its outcome is fixed, and it writes back or waits for its frames. -/
def Transfer.hasEnded (t : Transfer) : Bool := t.phase == .save || t.phase == .drain

/-- A data request for the next block, if one may be made (R120, R126). -/
def requestNext (s : State) : State :=
  match s.chan.transfer with
  | some t =>
    if t.cmd = .write ∧ t.hasEnded = false ∧ t.abortPending = false ∧ t.nextRequest < t.count
        ∧ hasFreeSlot s = true ∧ s.chan.outstanding.length + s.link.line.length < 2 then
      let s := fillFree (.awaiting t.nextRequest)
        (setTransfer { t with nextRequest := t.nextRequest + 1 } s)
      { s with link := { s.link with line := s.link.line ++ [(t.tag, t.nextRequest)] } }
    else s
  | none => s

/-- The data requests that may be made now: two at most (R120). -/
def requestData (s : State) : State := requestNext (requestNext s)

/-! ### Taking a data command (R113) -/

/-- The tag of the command in the slot. -/
def slotTag (s : State) : Byte := s.cu.slot.item.tag.getD 0#8

/-- The transfer context of a data command that is being checked or set up (R113). -/
def newTransfer (cmd : DataCommand) (tag : Byte) (first count : Nat) (s : State) : Transfer :=
  { cmd, tag, first, count, idx := 0, done := 0, place := { cyl := 0, head := 0, sector := 0 },
    spare := none, attempt := 1, offset := 0, firstPass := false, recovered := false,
    failing := none, torn := none, reassigned := 0, abortPending := false, phase := .spin,
    limit := s.set.active.retry, verifyOn := s.set.active.writeVerify, nextRequest := 0,
    chain := false, mark := false, outcome := .done, timedOut := false, result := .notMade }

/-- The checks of R113 in their order, and the set-up of a command that passes them. -/
def beginData (cmd : DataCommand) (s : State) : State :=
  let p := slotParams s
  let n := min (byteAt p 4) 16
  if byteAt p 4 = 0 then finish .badParameter s
  else
    let s' := setTransfer (newTransfer cmd (slotTag s) (word32At p 0) n s) s
    if rangeFits (sessionTable s).1 (word32At p 0) n = false then finish .outOfRange s'
    else if cmd = .write ∧ s.cart.wp = true then finish .writeProtected s'
    else setWork .data (requestData (wakeMechanism s'))

/-! ### The end of a data command (R114, R118, R126) -/

/-- A slot of the buffer when a READ's frames are discarded (R127): a frame being sent is
completed. -/
def dropHolding (sending : Option Outbound) (b : BufSlot) : BufSlot :=
  match b with
  | .holding i d =>
    match sending with
    | some (.data j _) => if j = i then .holding i d else .free
    | _ => .free
  | b => b

/-- The buffered frames that are not being sent are discarded (R127). -/
def dropFrames (s : State) : State :=
  { s with chan := { s.chan with
      slot0 := dropHolding s.link.send s.chan.slot0
      slot1 := dropHolding s.link.send s.chan.slot1
      readyTimer := none } }

/-- A slot when a WRITE ends (R126): data not written is discarded, a request not sent whole is
removed, and one sent whole waits for its frame. -/
def endWriteSlot (unsent : List (Byte × Nat)) (b : BufSlot) : BufSlot :=
  match b with
  | .awaiting i => if unsent.any (fun l => l.2 == i) then .free else .awaiting i
  | _ => .free

/-- The buffer and the outbound line when a command ends with this outcome. -/
def endBuffers (t : Transfer) (o : OutcomeCode) (s : State) : State :=
  match t.cmd with
  | .write =>
    withdrawLine { s with chan := { s.chan with
      slot0 := endWriteSlot s.link.line s.chan.slot0
      slot1 := endWriteSlot s.link.line s.chan.slot1 } }
  | _ => if o = .dataTimeout then dropFrames s else s

/-- A data command ends with an outcome (R114, R126): then its write-back if its reassignment mark is
set and no class 1–3 fault ended it, and the wait for its frames. -/
def endTransfer (t : Transfer) (o : OutcomeCode) (save : Bool) (s : State) : State :=
  let s := dropRequester (stopGateWait (restoreOffset (endBuffers t o s)))
  let s := { s with mail := { s.mail with sector := none, told := none, note := none } }
  if save && t.mark then beginWriteBack (setTransfer { t with outcome := o, phase := .save } s)
  else setTransfer { t with outcome := o, phase := .drain } s

/-- The outcome of a data command all of whose blocks are done, before any write-back (R118, R119,
R126). -/
def allDone (t : Transfer) : OutcomeCode := if t.recovered then .recovered else .done

/-- The outcome of a WRITE after its write-back (R126): a command that had all its blocks done is
answered by the record result. WRITE PROTECTED leaves the outcome (DESIGN CHOICE, log entry 65). -/
def savedOutcome (o : OutcomeCode) (r : RecordResult) : OutcomeCode :=
  if o = .done ∨ o = .recovered then
    match r with
    | .neither => .recordWriteFailed
    | .notMade => o
    | .writeProtected => o
    | .both => .recovered
    | .one => .recovered
  else o

/-! ### Read attempts (R116, R117) -/

/-- An attempt at the block has failed. A command that has timed out ends there (R127; log entry
69). -/
def attemptFails (t : Transfer) (s : State) : State :=
  if t.timedOut then endTransfer t .dataTimeout true s
  else if t.limit < t.attempt then
    let lba := t.first + t.idx
    let s := raise .dataCheck s
    endTransfer { t with failing := some lba } .dataCheck false s
  else if t.abortPending ∨ attemptOffset (t.attempt + 1) = t.offset then
    setTransfer { t with attempt := t.attempt + 1 } s
  else
    requestTarget { cyl := t.place.cyl, offset := attemptOffset (t.attempt + 1) } (some .channel)
      (setTransfer { t with attempt := t.attempt + 1, offset := attemptOffset (t.attempt + 1),
                            phase := .target } s)

/-- A slot of the buffer has been filled with a block of a READ: its frame is ready if it is the only
one (R115). -/
def frameBuffered (idx : Nat) (d : List Byte) (s : State) : State :=
  let first := (readyFrame s).isNone
  let s := fillFree (.holding idx d) s
  if first then { s with chan := { s.chan with readyTimer := dataTimeout s } } else s

/-- A block of a READ or VERIFY has been read (R115, R117, R119). -/
def blockRead (t : Transfer) (d : List Byte) (s : State) : State :=
  let t' := { t with recovered := t.recovered || decide (2 ≤ t.attempt), idx := t.idx + 1,
                     phase := .begin }
  if t.cmd = .read then setTransfer t' (frameBuffered t.idx d s)
  else setTransfer { t' with done := t.done + 1 } s

/-! ### Blocks of a WRITE (R122, R125) -/

/-- A block of a WRITE is done: its slot is FREE, and the next request may go out. -/
def blockWritten (t : Transfer) (s : State) : State :=
  requestData (setTransfer { t with done := t.done + 1, idx := t.idx + 1, phase := .begin,
                                    chain := false } (setSlotOf t.idx .free s))

/-- The block goes to this target, or is at it already (R114). -/
def goToPlace (t : Transfer) (s : State) : State :=
  if onTarget t.place.cyl 0 s then setTransfer { t with phase := .sector } s
  else requestTarget { cyl := t.place.cyl, offset := 0 } (some .channel)
      (setTransfer { t with phase := .target } s)

/-- A read-back found the block unreadable or different (R125 step 3): it is reassigned, or the
command ends SPARES EXHAUSTED. A command that has timed out ends there, its table unchanged (R127; log
entry 69); an abort waits for the end of the chain (R128; log entry 68). -/
def moveBlock (t : Transfer) (s : State) : State :=
  if t.timedOut then endTransfer t .dataTimeout true s
  else
    match reassignLba s.cart.wp (sessionTable s).1 (sessionTable s).2 (t.first + t.idx) with
    | .refused o => endTransfer t o true s
    | .moved k zones =>
      goToPlace { t with
          spare := some k
          place := slotPlace ((t.first + t.idx) / (sessionTable s).1.userSlots)
            ((sessionTable s).1.userSlots + k)
          reassigned := if t.chain then t.reassigned else t.reassigned + 1
          chain := true, mark := true }
        (stopGateWait (changeZones zones s))

/-- What a sector end means at the block's sector (R112, R117, R122, R124). -/
def blockSectorEnds (t : Transfer) (r : SectorResult) (s : State) : State :=
  match t.cmd, r with
  | .write, .written =>
    if t.verifyOn ∧ (t.chain ∨ t.abortPending = false) then setTransfer { t with phase := .back } s
    else blockWritten t s
  | .write, _ => s
  | _, .readOk d => blockRead t d s
  | _, _ => attemptFails t s

/-- What a sector end means for a read-back (R125, R112; log entries 68, 69). -/
def readBackEnds (t : Transfer) (r : SectorResult) (s : State) : State :=
  match r with
  | .readOk d => if holdingData t.idx s = some d then blockWritten t s else moveBlock t s
  | .readFailed => moveBlock t s
  | _ => s

/-- The work on a block begins (R114): translation, then the target. With no block left the command
has ended. -/
def beginBlock (t : Transfer) (s : State) : State :=
  if t.count ≤ t.idx then endTransfer t (allDone t) true s
  else
    let p := translate (sessionTable s).1 (sessionTable s).2 (t.first + t.idx)
    goToPlace { t with place := p.1, spare := p.2, attempt := 1, offset := 0, firstPass := false,
                       chain := false } s

/-- A fault's End reaches a data command (R124, R125, R129). A block that a deferred SPEED DEVIATION
found written whole counts as done. -/
def transferFault (t : Transfer) (cls : FaultClass) (s : State) : State :=
  if cls = .speedDeviation ∧ s.mail.sector = some .written then
    endTransfer { t with done := t.done + 1 } .faulted true s
  else endTransfer t (endOutcome cls) (!cls.isClass13) s

/-- The outcome of a target request that is not COMPLETE (R114). -/
def targetEnd : TargetOutcome → OutcomeCode
  | .notLoaded .faultHeld => .faultPending
  | .failed => .seekFailed
  | _ => .faulted

/-- The stage of a data command that waits for nothing but its phase. -/
def advanceBlocks (t : Transfer) (s : State) : Option State :=
  match t.phase with
  | .spin => if s.spin.state = .atSpeed then some (setTransfer { t with phase := .begin } s) else none
  | .begin => some (beginBlock t s)
  | .target =>
    match s.mail.told with
    | none => none
    | some .complete => some (setTransfer { t with phase := .sector } (dropTold s))
    | some o => some (endTransfer t (targetEnd o) true s)
  | .sector => none
  | .back => none
  | .save => none
  | .drain => none

/-- The end-of-command write-back has its result (R126). A class 1–3 fault that ended it gives the
reply, and SEEK FAILED gives that of a command whose blocks were all done (R92; log entry 33). -/
def transferSaved (t : Transfer) (r : RecordResult) (s : State) : State :=
  let o :=
    match s.mail.note with
    | some cls =>
      if cls.isClass13 ∨ t.outcome = .done ∨ t.outcome = .recovered then endOutcome cls
      else t.outcome
    | none => savedOutcome t.outcome r
  setTransfer { t with outcome := o, result := r, phase := .drain }
    (dropNote { s with mail := { s.mail with saved := none } })

/-- Every frame that the ended command waits for has gone or come (R118, R126). -/
def framesSettled (t : Transfer) (s : State) : Bool :=
  match t.cmd with
  | .read =>
    (readyFrame s).isNone &&
      (match s.link.send with
       | some (.data _ _) => false
       | _ => true)
  | .write => s.chan.outstanding.isEmpty
  | .verify => true

/-- One transition of a READ, WRITE or VERIFY. An answer about a sector comes before a data timeout
that waited for the sector end (R127), and that before an abort at its safe point (R128; log entry 74). A
fault's End, also that of a SPEED DEVIATION released at the sector end, comes before them (R155; log
entry 73). -/
def advanceData (s : State) : Option State :=
  match s.chan.transfer with
  | none => none
  | some t =>
    if t.phase = .save then
      match s.mail.saved with
      | some r => some (transferSaved t r s)
      | none => none
    else if t.phase = .drain then
      if s.mail.note.isSome then some (dropNote s)
      else if framesSettled t s then some (finish t.outcome s)
      else none
    else
      match s.mail.note with
      | some cls => some (transferFault t cls s)
      | none =>
        match s.mail.sector with
        | some r =>
          if t.phase = .back then some (readBackEnds t r (dropSector s))
          else some (blockSectorEnds t r (dropSector s))
        | none =>
          if t.timedOut ∧ s.chan.op = none then some (endTransfer t .dataTimeout true s)
          else if t.abortPending ∧ s.chan.op = none ∧ t.chain = false then
            some (endTransfer t .aborted true s)
          else advanceBlocks t s

/-- Sector n starts while a data command works on its block (R112, R115, R116, R121, R125). -/
def dataStart (t : Transfer) (n : Nat) (s : State) : State :=
  if n ≠ t.place.sector then s
  else if t.phase = .back then
    if onTarget t.place.cyl 0 s && s.clk.locked then beginRead t.place s else s
  else if t.phase ≠ .sector then s
  else if t.cmd = .write then
    match holdingData t.idx s with
    | none => s
    | some d =>
      if writeGate t.place.cyl s then beginWrite t.place d (stopGateWait s) else startGateWait s
  else if t.cmd = .read ∧ hasFreeSlot s = false then s
  else if onTarget t.place.cyl t.offset s = false then s
  else if s.clk.locked then beginRead t.place s
  else if t.attempt = 1 ∧ t.firstPass = false then setTransfer { t with firstPass := true } s
  else attemptFails t s

/-! ### Timers of a data command (R127) -/

/-- The oldest outstanding request is withdrawn and its slot is FREE (R126). -/
def withdrawOldest (s : State) : State :=
  match s.chan.outstanding with
  | [] => s
  | o :: rest => setSlotOf o.idx .free { s with chan := { s.chan with outstanding := rest } }

/-- The command ends DATA TIMEOUT, at the sector end if a sector is in work (R127). The frames of a
READ have been discarded then (`dataTimerExpires`). -/
def timeOut (t : Transfer) (s : State) : State :=
  if s.chan.op.isSome then setTransfer { t with timedOut := true } s
  else endTransfer t .dataTimeout true s

/-- The outcome of a READ whose ready frame times out after it has ended (R127, R129). -/
def drainTimeout (o : OutcomeCode) : OutcomeCode :=
  if o = .done ∨ o = .recovered then .dataTimeout else o

/-- The data timer of the oldest request, or of the ready READ frame, expires (R127). -/
def dataTimerExpires (s : State) : State :=
  match s.chan.transfer with
  | none => s
  | some t =>
    match t.cmd with
    | .write =>
      match s.chan.outstanding with
      | [] => s
      | _ :: _ =>
        if t.hasEnded then withdrawOldest s else timeOut t (withdrawOldest s)
    | _ =>
      if s.chan.readyTimer.isNone then s
      else if t.hasEnded then
        setTransfer { t with outcome := drainTimeout t.outcome } (dropFrames s)
      else timeOut t (dropFrames s)

/-- A data frame answers the oldest outstanding request (R120); one of an ended WRITE is discarded
(R126). -/
def takeData (d : List Byte) (s : State) : State :=
  match s.chan.outstanding with
  | [] => setCause .protocol s
  | o :: rest =>
    let s := { s with chan := { s.chan with outstanding := rest } }
    match s.chan.transfer with
    | some t =>
      if t.hasEnded then setSlotOf o.idx .free s else requestData (setSlotOf o.idx (.holding o.idx d) s)
    | none => setSlotOf o.idx .free s

/-! ### REASSIGN -/

/-- The checks of R102 in their order, and the set-up of a REASSIGN that passes them, with the spare
that the block's offset names (R110). -/
def beginReassign (s : State) : State :=
  let lba := word32At (slotParams s) 0
  let t := (sessionTable s).1
  if rangeFits t lba 1 = false then finish .outOfRange s
  else if s.cart.wp then finish .writeProtected s
  else if spareScan t (zoneAt (sessionTable s).2 (lba / t.userSlots)) = t.spareWidth then
    finish .sparesExhausted s
  else
    setWork .reassign (wakeMechanism (setReassign
      { tag := slotTag s, lba, place := { cyl := 0, head := 0, sector := 0 }, attempt := 1,
        offset := 0, firstPass := false, allocated := false,
        spare := (translate t (sessionTable s).2 lba).2, dataLost := false, torn := false,
        abortPending := false, phase := .spin, limit := s.set.active.retry, outcome := .done,
        timedOut := false, result := .notMade } s))

/-- The write stage has ended (R104, R105): the write-back follows. -/
def writeStageEnds (r : Reassign) (o : OutcomeCode) (s : State) : State :=
  let s := stopGateWait (dropRequester { s with
    mail := { s.mail with sector := none, told := none, note := none } })
  beginWriteBack (setReassign { r with outcome := o, phase := .save } s)

/-- A spare is allocated and the write stage goes to it (R104); with no spare left the write stage
ends. -/
def allocateSpare (r : Reassign) (s : State) : State :=
  match reassignLba s.cart.wp (sessionTable s).1 (sessionTable s).2 r.lba with
  | .refused o => writeStageEnds r o s
  | .moved k zones =>
    let place := slotPlace (r.lba / (sessionTable s).1.userSlots)
      ((sessionTable s).1.userSlots + k)
    let r := { r with allocated := true, spare := some k, place, offset := 0 }
    let s := stopGateWait (changeZones zones s)
    if onTarget place.cyl 0 s then startGateWait (setReassign { r with phase := .write } s)
    else requestTarget { cyl := place.cyl, offset := 0 } (some .channel)
        (setReassign { r with phase := .writeTarget } s)

/-- The block's data, or zeros for a lost block, is in the buffer (R103). -/
def bufferBlock (d : List Byte) (s : State) : State :=
  { s with chan := { s.chan with slot0 := .holding 0 d } }

/-- An attempt of the read stage has failed (R103). -/
def reassignAttemptFails (r : Reassign) (s : State) : State :=
  if r.limit < r.attempt then
    allocateSpare { r with dataLost := true } (bufferBlock (List.replicate 512 0#8) s)
  else if attemptOffset (r.attempt + 1) = r.offset then
    setReassign { r with attempt := r.attempt + 1 } s
  else
    requestTarget { cyl := r.place.cyl, offset := attemptOffset (r.attempt + 1) } (some .channel)
      (setReassign { r with attempt := r.attempt + 1, offset := attemptOffset (r.attempt + 1),
                            phase := .readTarget } s)

/-- The read stage begins (R103): translation, then the target. -/
def beginReadStage (r : Reassign) (s : State) : State :=
  let p := translate (sessionTable s).1 (sessionTable s).2 r.lba
  let r := { r with place := p.1, spare := p.2 }
  if onTarget p.1.cyl 0 s then setReassign { r with phase := .read } s
  else requestTarget { cyl := p.1.cyl, offset := 0 } (some .channel)
      (setReassign { r with phase := .readTarget } s)

/-- How a REASSIGN ends before the allocation (R106). -/
def endReassignEarly (o : OutcomeCode) (s : State) : State := finish o (restoreOffset s)

/-- The outcome that a fault's End gives a REASSIGN (R106): FAULTED where the positioner has told it,
or the record unit for it, FAILED; otherwise that of the class (R152). -/
def reassignEnd (cls : FaultClass) (s : State) : OutcomeCode :=
  if s.mail.told = some .failed then .faulted else endOutcome cls

/-- The outcome of a REASSIGN after its write-back (R105, R106, R92; log entry 33): a class 1–3 fault
gives FAULTED; a spare that verified leaves it to SEEK FAILED or else to the record result; any other
end of the write stage stands. -/
def reassignOutcome (o : OutcomeCode) (res : RecordResult) (s : State) : OutcomeCode :=
  match s.mail.note with
  | some cls =>
    if cls.isClass13 then .faulted else if o = .done then reassignEnd cls s else o
  | none => if o = .done then res.outcome else o

/-- A fault's End reaches a REASSIGN before its write-back (R106). A class 1–3 fault ends it at once;
after the allocation any other ends the write stage, and the write-back follows. -/
def reassignFault (r : Reassign) (cls : FaultClass) (s : State) : State :=
  if cls.isClass13 then finish .faulted s
  else if r.allocated then writeStageEnds r (reassignEnd cls s) s
  else endReassignEarly (reassignEnd cls s) s

/-- What a sector end means for a REASSIGN (R103, R104). A write cut by a servo gap is made again, and
the wait for the spare runs on; a wait that ran out during the write ends the write stage here. -/
def reassignSectorEnds (r : Reassign) (x : SectorResult) (s : State) : State :=
  match r.phase, x with
  | .read, .readOk d => allocateSpare r (bufferBlock d s)
  | .read, _ => reassignAttemptFails r s
  | .write, .written =>
    if r.timedOut then writeStageEnds r .dataTimeout s
    else setReassign { r with phase := .back } (stopGateWait s)
  | .write, .cut => if r.timedOut then writeStageEnds r .dataTimeout s else s
  | .back, .readOk d =>
    if holdingData 0 s = some d then writeStageEnds r .done s else allocateSpare r s
  | .back, .readFailed => allocateSpare r s
  | _, _ => s

/-- One transition of a REASSIGN. A fault's End comes before the sector's result, also where the wait for the
spare has run out in that sector (log entry 73). -/
def advanceReassign (s : State) : Option State :=
  match s.chan.reassign with
  | none => none
  | some r =>
    if r.phase = .save then
      match s.mail.saved with
      | none => none
      | some res =>
        some (finish (reassignOutcome r.outcome res s) (setReassign { r with result := res } s))
    else
      match s.mail.note with
      | some cls => some (reassignFault r cls s)
      | none =>
        if r.abortPending ∧ r.allocated = false ∧ s.chan.op = none then
          some (endReassignEarly .aborted s)
        else
          match s.mail.sector with
          | some x => some (reassignSectorEnds r x (dropSector s))
          | none =>
            match r.phase with
            | .spin => if s.spin.state = .atSpeed then some (beginReadStage r s) else none
            | .readTarget =>
              match s.mail.told with
              | none => none
              | some .complete => some (setReassign { r with phase := .read } (dropTold s))
              | some (.notLoaded .faultHeld) => some (endReassignEarly .faultPending s)
              | some _ => some (endReassignEarly .faulted s)
            | .writeTarget =>
              match s.mail.told with
              | none => none
              | some .complete =>
                some (startGateWait (setReassign { r with phase := .write } (dropTold s)))
              | some _ => some (writeStageEnds r .faulted s)
            | _ => none

/-- Sector n starts while a REASSIGN works (R103, R104, R112, R116, R121). -/
def reassignStart (r : Reassign) (n : Nat) (s : State) : State :=
  if n ≠ r.place.sector then s
  else
    match r.phase with
    | .read =>
      if onTarget r.place.cyl r.offset s = false then s
      else if s.clk.locked then beginRead r.place s
      else if r.attempt = 1 ∧ r.firstPass = false then setReassign { r with firstPass := true } s
      else reassignAttemptFails r s
    | .write =>
      match holdingData 0 s with
      | some d =>
        if writeGate r.place.cyl s then beginWrite r.place d s else s
      | none => s
    | .back => if onTarget r.place.cyl 0 s && s.clk.locked then beginRead r.place s else s
    | _ => s

end Sys2Proof.Machine
end

