-- ==== Sys2Proof/Machine/Formatting.lean ====
section
/-! DEFINITION. The format unit (chapter 7): the checks of R132, the phases PREPARING, MARKING,
WRITING, VERIFYING and FINISHING (R133 to R138), their safe points (R140) and what faults do
(R141). -/

namespace Sys2Proof.Machine

/-- The format context changes. -/
def setFormat (f : Format) (s : State) : State := { s with fmt := some f }

/-- The bytes that WRITING writes and that VERIFYING expects (R135, R136). -/
def zeroSector : List Byte := List.replicate 512 0#8

/-- A FORMAT asks for the cylinder it works on (R133, R135 to R138). -/
def formatTarget (f : Format) (s : State) : State :=
  requestTarget { cyl := f.cylinder, offset := 0 } (some .format) (setFormat { f with step := .target } s)

/-! ### Taking the command -/

/-- Step 1 of R132. -/
def formatStateCheck (s : State) : Option OutcomeCode :=
  match s.cart.state with
  | .blank => none
  | .ready => none
  | .refused .recordDamaged => none
  | .refused _ => some .refusedCartridge
  | _ => some .notReady

/-- Step 5 of R132: READY with the session's format lock set. -/
def formatLocked (s : State) : Bool :=
  s.cart.state == .ready &&
    (match fullSession s with
     | some r => r.lock
     | none => false)

/-- The five checks of R132 in their order. -/
def formatCheck (p : List Byte) (s : State) : Option OutcomeCode :=
  match formatStateCheck s with
  | some o => some o
  | none =>
    if class13Held s then some .faultPending
    else if 1 < byteAt p 4 ∨ 1 < byteAt p 5 then some .badParameter
    else if s.cart.wp then some .writeProtected
    else if formatLocked s then some .formatLocked
    else none

/-- The context of a FORMAT that passed its checks (R131, R132). -/
def newFormat (p : List Byte) (s : State) : Format :=
  { serial := BitVec.ofNat 32 (word32At p 0), lock := byteAt p 4 == 1, verify := byteAt p 5 == 1,
    type := s.cart.type.getD .a, phase := .preparing, cylinder := 0, zones := [], retired := 0,
    reassigned := 0, exhausted := none, abortPending := false, step := .spin, head := 0, seen := [],
    zone := 0, index := 0, userPart := false, waits := [], torn := none }

/-- FORMAT at the slot (R132, R133). -/
def beginFormat (s : State) : State :=
  match formatCheck (slotParams s) s with
  | some o => finish o s
  | none => setWork .format (wakeMechanism (setFormat (newFormat (slotParams s) s) s))

/-! ### Entering the phases -/

/-- The marking image (R134). -/
def markingImage (f : Format) : List Byte :=
  recordImage f.type false true 1 f.serial (emptyZones f.type)

/-- Entry to MARKING (R134): the session is taken over, the report reset, the table created, and the
marking image written to both copies. -/
def enterMarking (f : Format) (s : State) : State :=
  let s := resetReport (setCart .blank (discardSession s))
  let s := { s with record := { s.record with session := .typeOnly f.type } }
  beginCopies .format (markingImage f)
    (setFormat { f with phase := .marking, step := .copies, zones := emptyZones f.type } s)

/-- Entry to WRITING at cylinder 1 (R135). -/
def enterWriting (f : Format) (s : State) : State :=
  formatTarget { f with phase := .writing, cylinder := 1, head := 0, seen := [], waits := [] } s

/-- The spare check of zone z begins (R136). -/
def beginSpares (z : Nat) (f : Format) (s : State) : State :=
  formatTarget { f with phase := .verifying, cylinder := 20 + 20 * z, head := 0, seen := [],
                        zone := z, index := 0, userPart := false, waits := [] } s

/-- The user check of the zone in work begins (R137). -/
def beginUsers (f : Format) (s : State) : State :=
  formatTarget { f with cylinder := 1 + 20 * f.zone, head := 0, seen := [], index := 0,
                        userPart := true, waits := [] } s

/-- Entry to FINISHING (R138): the heads go to cylinder 0. -/
def enterFinishing (f : Format) (s : State) : State :=
  formatTarget { f with phase := .finishing, cylinder := 0, head := 0, seen := [], waits := [] } s

/-- The final image (R138). -/
def finalImage (f : Format) : List Byte := recordImage f.type f.lock false 2 f.serial f.zones

/-- The copies of the final image begin (R138). -/
def beginFinal (f : Format) (s : State) : State :=
  beginCopies .format (finalImage f) (setFormat { f with step := .copies } s)

/-! ### WRITING -/

/-- The last track of the last cylinder is complete (R135). -/
def writingDone (f : Format) (s : State) : State :=
  if f.verify then beginSpares 0 f s else enterFinishing f s

/-- A track is complete: the other head, the next cylinder, or the end of WRITING (R135). -/
def nextTrack (f : Format) (s : State) : State :=
  if f.head = 0 then setFormat { f with head := 1, seen := [], waits := [] } s
  else if f.cylinder < f.type.lastCylinder then
    formatTarget { f with cylinder := f.cylinder + 1, head := 0, seen := [], waits := [] } s
  else writingDone f s

/-- Sector n of the track has been written whole (R135). -/
def trackWritten (n : Nat) (f : Format) (s : State) : State :=
  if f.seen.length + 1 = 16 then nextTrack { f with seen := n :: f.seen } s
  else setFormat { f with seen := n :: f.seen } s

/-! ### VERIFYING -/

/-- Spare `index` of the zone has been read through (R136): the next one, or the user check. A wait of
its that has run out meanwhile is over (log entry 70). -/
def spareRead (good : Bool) (f : Format) (s : State) : State :=
  let f := if good then f
    else { f with retired := f.retired + 1,
                  zones := f.zones.set f.zone ((zoneAt f.zones f.zone).markSet f.index) }
  let f := { f with index := f.index + 1, waits := [] }
  if f.abortPending ∨ f.index < f.type.spareWidth then setFormat f s else beginUsers f s

/-- The slot of sector n of the track being checked (R95, R137). -/
def userSlot (f : Format) (n : Nat) : Nat := 32 * (f.cylinder - (1 + 20 * f.zone)) + 16 * f.head + n

/-- The number of user slots on the track being checked. -/
def trackUsers (f : Format) : Nat := min 16 (f.type.userSlots - userSlot f 0)

/-- The zone's user check has ended (R137). -/
def zoneDone (f : Format) (s : State) : State :=
  if f.zone + 1 < f.type.zoneCount then beginSpares (f.zone + 1) f s else enterFinishing f s

/-- A track has been checked: the next track that has user slots, or the end of the zone. -/
def nextUserTrack (f : Format) (s : State) : State :=
  if f.type.userSlots ≤ userSlot f 16 then zoneDone f s
  else if f.head = 0 then setFormat { f with head := 1, seen := [], index := 0, waits := [] } s
  else
    formatTarget { f with cylinder := f.cylinder + 1, head := 0, seen := [], index := 0, waits := [] } s

/-- Sector n of the track has been checked, its slot reassigned if it was bad. -/
def userChecked (n : Nat) (f : Format) (s : State) : State :=
  let f := { f with seen := n :: f.seen, waits := f.waits.filter fun w => w.1 != n }
  if f.abortPending ∨ f.seen.length < trackUsers f then setFormat f s else nextUserTrack f s

/-- Sector n of a user track has been read through (R137). A full zone ends the FORMAT also at the safe
point of an abort (log entry 66). -/
def userRead (n : Nat) (good : Bool) (f : Format) (s : State) : State :=
  if good then userChecked n f s
  else
    match reassignZone s.cart.wp f.type (userSlot f n) (zoneAt f.zones f.zone) with
    | .refused .sparesExhausted =>
      finish .sparesExhausted (setFormat { f with exhausted := some f.zone } s)
    | .refused o => finish o s
    | .moved _ z =>
      userChecked n { f with reassigned := f.reassigned + 1, zones := f.zones.set f.zone z } s

/-- A read of VERIFYING has ended (R136, R137). An interrupted one is made again. -/
def verifyRead (n : Nat) (r : SectorResult) (f : Format) (s : State) : State :=
  match r with
  | .readOk d =>
    if f.userPart then userRead n (d == zeroSector) f s else spareRead (d == zeroSector) f s
  | .readFailed => if f.userPart then userRead n false f s else spareRead false f s
  | _ => s

/-! ### Ends -/

/-- The state after FINISHING (R138). -/
def applyFinal (f : Format) (w0 w1 : Bool) (s : State) : State :=
  if w0 || w1 then
    let s := setCart .ready s
    { s with record := { s.record with
        session := .full { type := f.type, lock := f.lock, generation := 2, serial := f.serial,
                           zones := f.zones }
        copyStatus := if w0 && w1 then .good else .degraded
        unsaved := false } }
  else s

/-- The reply of R138. -/
def finalOutcome : Bool → Bool → OutcomeCode
  | true, true => .done
  | false, false => .recordWriteFailed
  | _, _ => .recovered

/-- The copies of MARKING or FINISHING have ended (R134, R138). A fault that ended them gives the
reply (R141), and an abort in MARKING comes after RECORD WRITE FAILED (R140). -/
def formatCopied (f : Format) (w0 w1 : Bool) (s : State) : State :=
  if f.phase = .marking then
    match s.mail.note with
    | some cls => finish (endOutcome cls) s
    | none =>
      if (w0 && w1) = false then finish .recordWriteFailed s
      else if f.abortPending then finish .aborted s
      else enterWriting f { s with mail := { s.mail with copies := none } }
  else
    match s.mail.note with
    | some cls => finish (endOutcome cls) (applyFinal f w0 w1 s)
    | none => finish (finalOutcome w0 w1) (applyFinal f w0 w1 s)

/-- A FORMAT that may end at its abort mark (R140): in PREPARING, WRITING and VERIFYING. -/
def FormatPhase.abortable : FormatPhase → Bool
  | .preparing => true
  | .writing => true
  | .verifying => true
  | .marking => false
  | .finishing => false

/-- The sector in work has ended (R135 to R137); `index` names it on a track. Under an abort a written
sector ends the FORMAT (R140). -/
def formatSectorEnds (f : Format) (r : SectorResult) (s : State) : State :=
  match f.phase with
  | .writing =>
    if r = .written ∧ f.abortPending = false then trackWritten f.index f s else s
  | .verifying => verifyRead f.index r f s
  | _ => s

/-- A slot's wait has run out (R135, R136): its time left is 0. -/
def waitExpired (f : Format) : Bool := f.waits.any fun w => w.2 == 0

/-- The stages that wait for the spindle or for a target (R133, R135 to R138). -/
def formatStage (f : Format) (s : State) : Option State :=
  match f.step with
  | .spin => if s.spin.state = .atSpeed then some (formatTarget f s) else none
  | .target =>
    match s.mail.told with
    | none => none
    | some .complete =>
      match f.phase with
      | .preparing => some (enterMarking f (dropTold s))
      | .marking => none
      | .writing => some (setFormat { f with step := .track } (dropTold s))
      | .verifying =>
        some (setFormat { f with step := if f.userPart then .users else .spares } (dropTold s))
      | .finishing => some (beginFinal f (dropTold s))
    | some o => some (finish (targetEnd o) s)
  | _ => none

/-- One transition of a FORMAT. The copy writes answer first; a fault's End comes before the sector's
result (R141), and that before an abort, which comes before a wait that ran out (R140, R136; log entries 73
and 74). In PREPARING only a fault that loses the heads acts. -/
def advanceFormat (s : State) : Option State :=
  match s.fmt with
  | none => none
  | some f =>
    if f.step = .copies then
      match s.mail.copies with
      | none => none
      | some (w0, w1) => some (formatCopied f w0 w1 s)
    else
      match s.mail.note with
      | some cls =>
        if f.phase = .preparing ∧ cls.losesHeads = false then some (dropNote s)
        else some (finish (endOutcome cls) s)
      | none =>
        match s.mail.sector with
        | some r => some (formatSectorEnds f r (dropSector s))
        | none =>
          if f.abortPending ∧ f.phase.abortable = true ∧ s.chan.op = none then
            some (finish .aborted s)
          else if waitExpired f ∧ s.chan.op = none then some (finish .dataTimeout s)
          else formatStage f s

/-! ### Sector starts and waits -/

/-- The wait of slot or sector n starts if it does not run (R121, R135, R136). -/
def startWait (n : Nat) (f : Format) (s : State) : State :=
  if f.waits.any fun w => w.1 == n then s
  else setFormat { f with waits := f.waits ++ [(n, s.set.active.timeout * Config.second)] } s

/-- Sector n starts while a FORMAT works (R135 to R137). Passes before the outcome of the target request
start no wait (R121; log entry 67). -/
def formatStart (f : Format) (n : Nat) (s : State) : State :=
  match f.step with
  | .track =>
    if f.seen.contains n then s
    else if writeGate f.cylinder s then
      beginWrite { cyl := f.cylinder, head := f.head, sector := n } zeroSector
        (setFormat { f with index := n, waits := f.waits.filter fun w => w.1 != n } s)
    else startWait n f s
  | .spares =>
    let p := slotPlace f.zone (f.type.userSlots + f.index)
    if n ≠ p.sector then s
    else if onTarget f.cylinder 0 s && s.clk.locked then beginRead p s
    else startWait n f s
  | .users =>
    if f.seen.contains n ∨ f.type.userSlots ≤ userSlot f n then s
    else if onTarget f.cylinder 0 s && s.clk.locked then
      beginRead { cyl := f.cylinder, head := f.head, sector := n } (setFormat { f with index := n } s)
    else startWait n f s
  | _ => s

/-- The shortest wait runs out (R135, R136). -/
def expireWait (s : State) : State :=
  match s.fmt with
  | none => s
  | some f =>
    match (f.waits.map Prod.snd).min? with
    | none => s
    | some m =>
      setFormat { f with waits := f.waits.map fun w => (w.1, w.2 - m) } s

end Sys2Proof.Machine
end

