-- ==== Sys2Proof/Machine/Settle.lean ====
section
/-! DEFINITION. How an event works itself out inside one step: `advance` is one transition of the copy
writes, of the load or of the item in the slot; `settle` makes them until none is left, and then no
answer is under way. `rotate` is the channel's view of a new rotation position (R111): the end of the
sector in work, then the start of the next one. -/

namespace Sys2Proof.Machine

/-- One transition of the item in the slot, if what it waits for has come. -/
def advanceItem (s : State) : Option State :=
  match s.cu.slot.work with
  | .idle => none
  | .startSpin => advanceStart s
  | .startHeads => advanceStart s
  | .startLoad => advanceStart s
  | .spinOnly => advanceReload s
  | .reloadSave => advanceReload s
  | .reloadSpin => advanceReload s
  | .reloadHeads => advanceReload s
  | .reloadLoad => advanceReload s
  | .seekSpin => advanceSeek s
  | .seekTarget => advanceSeek s
  | .data => advanceData s
  | .reassign => advanceReassign s
  | .format => advanceFormat s
  | .restSave => advanceRest s
  | .restPark => advanceRest s
  | .restStop => advanceRest s
  | .downSpin => advanceSpinDown s
  | .downSave => advanceSpinDown s
  | .downPark => advanceSpinDown s
  | .downStop => advanceSpinDown s
  | .eject => advanceEject s
  | .wakeSpin => advanceWake s
  | .wakeTarget => advanceWake s
  | .resetPark => advanceReset s
  | .saving => none
  | .replying _ => none

/-- One transition: the copy writes first, then the load, then the item. -/
def advance (s : State) : Option State :=
  match advanceCopies s with
  | some s' => some s'
  | none =>
    match advanceLoad s with
    | some s' => some s'
    | none => advanceItem s

/-- Up to n transitions. -/
def advanceMany : Nat → State → State
  | 0, s => s
  | n + 1, s =>
    match advance s with
    | none => s
    | some s' => advanceMany n s'

/-- The transitions that one event can bring about: more than the longest chain of them. -/
def settleFuel : Nat := 64

/-- The event is worked out, and no answer is left under way. -/
def settle (s : State) : State := { advanceMany settleFuel s with mail := Mail.none }

/-! ### Rotation (R111) -/

/-- The sector in work ends when the position becomes this. -/
def endsAt (p : Nat) (o : SectorOp) : Bool :=
  if o.place.sector = 15 then p == 0 else p == 2 * o.place.sector + 2

/-- The end of the sector in work, if it ends at this position (R111, R112, R122). -/
def sectorEnds (p : Nat) (sig : ReadSignal) (s : State) : State :=
  match s.chan.op with
  | some o => if endsAt p o then endSector sig s else s
  | none => s

/-- Sector n starts (R111): the block at work reads it, writes it or lets it pass. -/
def sectorStart (n : Nat) (s : State) : State :=
  if s.chan.op.isSome then s
  else
    match s.record.copyWrite with
    | some c => copyStart c n s
    | none =>
      match s.record.load with
      | some l => loadStart l n s
      | none =>
        match s.chan.transfer with
        | some t => dataStart t n s
        | none =>
          match s.chan.reassign with
          | some r => reassignStart r n s
          | none =>
            match s.fmt with
            | some f => formatStart f n s
            | none => s

/-- The rotation position becomes p (R111). At an even position the ending sector's work is finished
before that of the starting one. -/
def rotate (p : Nat) (sig : ReadSignal) (s : State) : State :=
  let s := { s with chan := { s.chan with rotation := p } }
  if p % 2 = 0 then settle (sectorStart (p / 2) (settle (sectorEnds p sig s))) else settle s

/-- A sample or a declaration advances the position, which holds at 31 (R111). -/
def rotateNext (sig : ReadSignal) (s : State) : State :=
  if s.chan.rotation < 31 then rotate (s.chan.rotation + 1) sig s else settle s

end Sys2Proof.Machine
end

