-- ==== Sys2Proof/Machine/Immediate.lean ====
section
/-! DEFINITION. The immediate commands SENSE (R180), CLEAR ATTENTION (R182, R145), ABORT (R179), HOLD
and RELEASE (R8) and RESET (R183, R185), and taking a frame that has been received whole: the outbox
place it holds (R191). -/

namespace Sys2Proof.Machine

/-! ### Being told to end -/

/-- The item's work has ended and only its frames are waited for (R118, R126). -/
def workEnded (s : State) : Bool :=
  match s.chan.transfer with
  | some t => t.phase == .drain
  | none => false

/-- An abort would reach the item in the slot: one is there, its work has not ended, it is not the
soft reset, and its mark is not set yet (R179, R185). -/
def abortReaches (s : State) : Bool :=
  executing s && !workEnded s && s.cu.slot.item.code != 5 && !s.cu.slot.abortPending

/-- The item in the slot is told to end at its safe point (R179, R9, R183). -/
def tellAbort (s : State) : State :=
  if abortReaches s then
    { s with
      cu := { s.cu with slot := { s.cu.slot with abortPending := true } }
      chan := { s.chan with
        transfer := s.chan.transfer.map fun t => { t with abortPending := true }
        reassign := s.chan.reassign.map fun r => { r with abortPending := true } }
      fmt := s.fmt.map fun f => { f with abortPending := true } }
  else s

/-- The commands that a mark of cancellation would mark newly (R179). -/
def unmarked (s : State) : Nat := s.cu.queue.countP fun e => !e.cancelled

/-! ### The commands -/

/-- The reply of a refused frame, or of an immediate command (R174, R195). -/
def directReply (tag code : Byte) (o : OutcomeCode) (fields : List Byte) : Reply :=
  { tag, code, outcome := o, fields, queued := false }

/-- SENSE (R180). -/
def doSense (tag : Byte) (s : State) : State :=
  putReply (directReply tag Code.sense .done (senseFields s)) s

/-- The fault slot is emptied; a supply warning that still stands is raised again (R145). -/
def clearFault (s : State) : State :=
  let s := { s with fault := { s.fault with slot := none } }
  if s.fault.warning then raise .supplyLoss s else s

/-- CLEAR ATTENTION (R182). -/
def doClearAttention (tag : Byte) (causes : BitVec 16) (s : State) : State :=
  if causes &&& ~~~ causeBits ≠ 0#16 then
    putReply (directReply tag Code.clearAttention .badParameter (be16 s.cu.attention.toNat)) s
  else
    let s := clearCauses causes s
    let s := if causes.getLsbD Cause.fault.bit then clearFault s else s
    settle (putReply
      (directReply tag Code.clearAttention .done (be16 s.cu.attention.toNat)) s)

/-- ABORT (R179). -/
def doAbort (tag : Byte) (s : State) : State :=
  settle (tellAbort (cancelQueue (putReply
    (directReply tag Code.abort .done
      [byte (unmarked s), byte (bit (abortReaches s) 0)]) s)))

/-- HOLD (R8). -/
def doHold (tag : Byte) (s : State) : State :=
  if s.cart.state = .empty then putReply (directReply tag Code.hold .notReady []) s
  else
    putReply (directReply tag Code.hold .done [])
      { s with cart := { s.cart with hold := true } }

/-- RELEASE (R8). -/
def doRelease (tag : Byte) (s : State) : State :=
  putReply (directReply tag Code.release .done []) { s with cart := { s.cart with hold := false } }

/-- RESET (R183, R185). The first in the list withdraws a pending AUTO START as well. -/
def doReset (tag : Byte) (s : State) : State :=
  let first := s.cu.resets.isEmpty
  let s := { s with cu := { s.cu with
    resets := s.cu.resets ++ [tag]
    pendAuto := if first then false else s.cu.pendAuto } }
  settle (tellAbort (cancelQueue s))

/-! ### Taking a command frame (R174) -/

/-- An immediate command is carried out at once. -/
def doImmediate (code tag : Byte) (params : List Byte) (s : State) : State :=
  if code = Code.sense then doSense tag s
  else if code = Code.clearAttention then
    doClearAttention tag (BitVec.ofNat 16 (word16At params 0)) s
  else if code = Code.abort then doAbort tag s
  else if code = Code.hold then doHold tag s
  else if code = Code.release then doRelease tag s
  else doReset tag s

/-- The six immediate commands have the codes from 0x30. -/
def isImmediate (code : Byte) : Bool := 0x30 ≤ code.toNat

/-- A queued command is accepted at the tail of the queue (R174 step 5). -/
def accept (e : Entry) (s : State) : State :=
  { s with cu := { s.cu with queue := s.cu.queue ++ [e], accepted := s.cu.accepted + 1 } }

/-- The five steps of R174 on a frame's body. -/
def takeCommand (body : List Byte) (s : State) : State :=
  let code := body.getD 0 0#8
  let tag := body.getD 1 0#8
  let params := body.drop 2
  match paramLength code with
  | none => putReply (directReply tag code .unknownCommand []) s
  | some n =>
    if params.length ≠ n then putReply (directReply tag code .badParameter []) s
    else if isImmediate code then doImmediate code tag params s
    else if Config.queueMax ≤ s.cu.queue.length then
      putReply (directReply tag code .queueFull []) s
    else accept { code, tag, params, cancelled := false } s

/-! ### A frame received whole -/

/-- The frame in reception is gone, and with it the place held for it (R190, R191). -/
def dropFrame (s : State) : State :=
  { s with link := { s.link with assembly := .idle, gap := none, quiet := none, heldFrame := false,
                                 kindWaiting := false } }

/-- A receive error that leads to DISCARD (R190). In DISCARD it sets nothing further. DIR is low: the
bytes have come from the host adapter. -/
def receiveErrs (s : State) : State :=
  let s := { s with pins := { s.pins with dir := false } }
  if s.link.assembly = .discard then
    { s with link := { s.link with quiet := some Config.byteGapTime } }
  else
    let s := setCause .protocol (dropFrame s)
    { s with link := { s.link with assembly := .discard, quiet := some Config.byteGapTime } }

/-- The command frame of these effects has been received whole (R189, R191). While the part sends, DIR
is high and no byte is taken; in DISCARD the frame is thrown away. The frame needs an outbox place:
the one held since its kind byte, or a free one; with neither, its kind byte waits. -/
def receiveCommand (f : State → State) (s : State) : State :=
  if s.link.send.isSome then s
  else if s.link.assembly = .discard then receiveErrs s
  else if s.link.heldFrame || placeFree s then
    f (dropFrame { s with pins := { s.pins with dir := false } })
  else { s with link := { s.link with kindWaiting := true } }

/-! ### The meanings -/

/-- SENSE. -/
def execSense (tag : Byte) (s : State) : Host.Outcome State Fault Refusal :=
  .next (unlessReset (receiveCommand (doSense tag)) s)

/-- CLEAR ATTENTION. -/
def execClearAttention (tag : Byte) (causes : BitVec 16) (s : State) :
    Host.Outcome State Fault Refusal :=
  .next (unlessReset (receiveCommand (doClearAttention tag causes)) s)

/-- ABORT. -/
def execAbort (tag : Byte) (s : State) : Host.Outcome State Fault Refusal :=
  .next (unlessReset (receiveCommand (doAbort tag)) s)

/-- HOLD. -/
def execHold (tag : Byte) (s : State) : Host.Outcome State Fault Refusal :=
  .next (unlessReset (receiveCommand (doHold tag)) s)

/-- RELEASE. -/
def execRelease (tag : Byte) (s : State) : Host.Outcome State Fault Refusal :=
  .next (unlessReset (receiveCommand (doRelease tag)) s)

/-- RESET. -/
def execReset (tag : Byte) (s : State) : Host.Outcome State Fault Refusal :=
  .next (unlessReset (receiveCommand (doReset tag)) s)

end Sys2Proof.Machine
end

