-- ==== Sys2Proof/Machine/DriveLink.lean ====
section
/-! DEFINITION. The events of the drive link (chapter 11): frames and bytes received, receive errors,
bus turns, frames sent, and the places of the outbox. -/

namespace Sys2Proof.Machine

/-! ### Frames and bytes received -/

/-- A data frame has been received whole (R189, R120). -/
def takeDataFrame (d : List Byte) (s : State) : State := settle (takeData d (dropFrame s))

/-- DATA_FRAME: while the part sends it takes nothing, in DISCARD the frame is thrown away, and a body
of another length is a receive error (R189, R190). -/
def receiveData (d : List Byte) (s : State) : State :=
  if s.link.send.isSome then s
  else if s.link.assembly = .discard then receiveErrs s
  else if d.length ≠ Config.sectorBytes then receiveErrs s
  else takeDataFrame d { s with pins := { s.pins with dir := false } }

/-- COMMAND_FRAME: a body outside 2..14 bytes is a receive error at its length, after the kind byte has
found its place (R189, R191). -/
def receiveBody (body : List Byte) (s : State) : State :=
  receiveCommand (if lengthFits .command body.length then takeCommand body else receiveErrs) s

/-- RECEIVE_ERROR (R190). -/
def receiveError (s : State) : State := if s.link.send.isSome then s else receiveErrs s

/-- The receive assembly goes on to `a`, and the byte gap timer starts (R188, R189). -/
def assemble (a : Assembly) (s : State) : State :=
  { s with link := { s.link with assembly := a, gap := some Config.byteGapTime } }

/-- The kind byte of a frame (R189, R191). A command's kind byte waits while no place is free. -/
def takeKind (data : Byte) (s : State) : State :=
  match kindOf data with
  | none => receiveErrs s
  | some .data => assemble (.kind .data) s
  | some .command =>
    if placeFree s then
      assemble (.kind .command) { s with link := { s.link with heldFrame := true } }
    else { s with link := { s.link with kindWaiting := true } }

/-- The second length byte (R189). -/
def takeLength (k : FrameKind) (n : Nat) (s : State) : State :=
  if lengthFits k n then assemble (.body k n []) s else receiveErrs s

/-- A body byte; the last one hands the frame on at once (R189). -/
def takeBody (k : FrameKind) (n : Nat) (bytes : List Byte) (s : State) : State :=
  if bytes.length < n then assemble (.body k n bytes) s
  else
    match k with
    | .command => receiveCommand (takeCommand bytes) s
    | .data => receiveData bytes s

/-- A byte with correct parity, outside DISCARD (R189). -/
def takeByte (data : Byte) (s : State) : State :=
  match s.link.assembly with
  | .idle => takeKind data { s with link := { s.link with kindWaiting := false } }
  | .kind k => assemble (.length k data) s
  | .length k hi => takeLength k (hi.toNat * 256 + data.toNat) s
  | .body k n bytes => takeBody k n (bytes ++ [data]) s
  | .discard => receiveErrs s

/-- BYTE_RECEIVED (R188 to R190). A byte with even parity is taken at once, also a kind byte that finds no
outbox place (log entry 78). -/
def byteReceived (data : Byte) (dp : Bool) (s : State) : State :=
  if s.link.send.isSome then s
  else if dp ≠ oddParity data then receiveErrs s
  else takeByte data { s with pins := { s.pins with dir := false } }

/-- The assembly is within a frame (R190). -/
def midFrame (s : State) : Bool :=
  match s.link.assembly with
  | .kind _ => true
  | .length _ _ => true
  | .body _ _ _ => true
  | .idle => false
  | .discard => false

/-- BYTE_GAP_EXPIRY (R190). -/
def byteGapExpires (s : State) : State :=
  if midFrame s then setCause .protocol (dropFrame s) else s

/-- DISCARD_QUIET_EXPIRY (R190). -/
def quietExpires (s : State) : State :=
  if s.link.assembly = .discard then dropFrame s else s

/-! ### Bus turns (R192) -/

/-- The frame that a grant sends, with the data timer of a READ frame stopped. A reply goes before a request or
data frame that was cut short (log entry 77). -/
def grantFrame (s : State) : State :=
  match s.link.outbox, s.link.line, readyFrame s with
  | r :: _, _, _ => { s with link := { s.link with send := some (.reply r), acked := 0 } }
  | [], (t, i) :: _, _ => { s with link := { s.link with send := some (.request t i), acked := 0 } }
  | [], [], some (i, d) =>
    { s with link := { s.link with send := some (.data i d), acked := 0 }
             chan := { s.chan with readyTimer := none } }
  | [], [], none => s

/-- BUS_GRANT (R192, R190): DIR turns high. In the middle of a received frame this is a receive error
besides; DISCARD ends; a kind byte that waited is withdrawn (R191). -/
def busGrant (s : State) : State :=
  if s.link.send.isSome then s
  else
    let s := if midFrame s then setCause .protocol (dropFrame s) else dropFrame s
    grantFrame { s with pins := { s.pins with dir := true } }

/-- DIR_LOW_DURING_SEND (R192): the frame stays at the front of its line. -/
def dirFalls (s : State) : State :=
  { s with pins := { s.pins with dir := false }
           link := { s.link with send := none, acked := 0 } }

/-- A reply has been sent whole: it leaves the outbox (R191, R177). -/
def replySent (r : Reply) (s : State) : State :=
  { s with link := { s.link with outbox := s.link.outbox.tail }
           cu := { s.cu with repliesSent := s.cu.repliesSent + (if r.queued then 1 else 0) } }

/-- A data request has been sent whole: its data timer starts (R127, R192). It stands at the front of
the line. -/
def requestSent (t : Byte) (i : Nat) (s : State) : State :=
  if s.link.line.head? = some (t, i) then
    { s with link := { s.link with line := s.link.line.tail }
             chan := { s.chan with
               outstanding := s.chan.outstanding ++ [{ idx := i, timer := dataTimeout s }] } }
  else s

/-- A READ's data frame has been sent whole (R115): its slot is FREE, the block is done, and the next
frame is ready. -/
def dataSent (i : Nat) (s : State) : State :=
  let s := setSlotOf i .free s
  match s.chan.transfer with
  | none => s
  | some t =>
    let s := setTransfer { t with done := t.done + 1 } s
    if (readyFrame s).isSome then { s with chan := { s.chan with readyTimer := dataTimeout s } } else s

/-- FRAME_SENT (R192). -/
def frameSent (s : State) : State :=
  match s.link.send with
  | none => s
  | some f =>
    let s := { s with link := { s.link with send := none, acked := 0 } }
    settle
      (match f with
       | .reply r => replySent r s
       | .request t i => requestSent t i s
       | .withdrawn _ _ => s
       | .data i _ => dataSent i s)

/-! ### Places of the outbox (R191) -/

/-- KIND_BYTE_TAKES_PLACE. -/
def kindTakesPlace (s : State) : State :=
  if s.link.kindWaiting && placeFree s then
    assemble (.kind .command)
      { s with link := { s.link with heldFrame := true, kindWaiting := false } }
  else s

/-- REPLY_TAKES_PLACE (R177). -/
def replyTakesPlace (s : State) : State :=
  match s.cu.slot.work with
  | .replying r => if placeFree s then freeSlot (putReply r s) else s
  | _ => s

/-! ### The meanings -/

/-- COMMAND_FRAME. -/
def execCommandFrame (body : List Byte) (s : State) : Host.Outcome State Fault Refusal :=
  .next (unlessReset (receiveBody body) s)

/-- DATA_FRAME. -/
def execDataFrame (body : List Byte) (s : State) : Host.Outcome State Fault Refusal :=
  .next (unlessReset (receiveData body) s)

/-- RECEIVE_ERROR. The three errors act alike (R190). -/
def execReceiveError (_ : RecvError) (s : State) : Host.Outcome State Fault Refusal :=
  .next (unlessReset receiveError s)

/-- BYTE_GAP_EXPIRY. -/
def execByteGapExpiry (s : State) : Host.Outcome State Fault Refusal :=
  .next (unlessReset byteGapExpires s)

/-- DISCARD_QUIET_EXPIRY. -/
def execDiscardQuietExpiry (s : State) : Host.Outcome State Fault Refusal :=
  .next (unlessReset quietExpires s)

/-- BUS_GRANT. -/
def execBusGrant (s : State) : Host.Outcome State Fault Refusal := .next (unlessReset busGrant s)

/-- DIR_LOW_DURING_SEND. -/
def execDirLowDuringSend (s : State) : Host.Outcome State Fault Refusal :=
  .next (unlessReset dirFalls s)

/-- FRAME_SENT. -/
def execFrameSent (s : State) : Host.Outcome State Fault Refusal := .next (unlessReset frameSent s)

/-- KIND_BYTE_TAKES_PLACE. -/
def execKindByteTakesPlace (s : State) : Host.Outcome State Fault Refusal :=
  .next (unlessReset kindTakesPlace s)

/-- REPLY_TAKES_PLACE. -/
def execReplyTakesPlace (s : State) : Host.Outcome State Fault Refusal :=
  .next (unlessReset replyTakesPlace s)

/-- BYTE_RECEIVED. -/
def execByteReceived (data : Byte) (dp : Bool) (s : State) : Host.Outcome State Fault Refusal :=
  .next (unlessReset (byteReceived data dp) s)

end Sys2Proof.Machine
end

