-- ==== Sys2Proof/Machine/Queued.lean ====
section
/-! DEFINITION. The queued commands as they take the execution slot (R176): the gates of R178, the
first checks of each command, and the commands that are answered from the part's state (READ TABLE,
the settings commands). A row has no effect while its command may not take the slot. -/

namespace Sys2Proof.Machine

/-! ### Taking the slot (R176) -/

/-- The slot is free. -/
def slotFree (s : State) : Bool := s.cu.slot.item == .free

/-- The queue head may take the slot unmarked: the slot is free, no soft reset is in progress and no
BUTTON EJECT waits. -/
def headMayRun (s : State) : Bool := slotFree s && s.cu.resets.isEmpty && !s.cu.pendEject

/-- The queue head, if it is an unmarked command with this code that may take the slot. -/
def headFor (code : Byte) (s : State) : Option Entry :=
  if headMayRun s then
    match s.cu.queue with
    | e :: _ => if e.code = code ∧ e.cancelled = false then some e else none
    | [] => none
  else none

/-- The queue head takes the slot. -/
def takeHead (e : Entry) (s : State) : State :=
  { s with cu := { s.cu with queue := s.cu.queue.tail, slot := { Slot.free with item := .command e } } }

/-- The command with this code takes the slot and begins by its rule. -/
def runHead (code : Byte) (begin' : Entry → State → State) (s : State) : State :=
  match headFor code s with
  | some e => settle (begin' e (takeHead e s))
  | none => s

/-! ### The gates of R178 -/

/-- The cartridge-state gate of SPIN UP, with its re-identify option. -/
def spinUpGate (reid : Bool) : CartState → Option OutcomeCode
  | .empty => some .notReady
  | .present => none
  | .ready => none
  | .blank => none
  | .refused .typeUnknown => some .refusedCartridge
  | .refused _ => if reid then none else some .refusedCartridge
  | .starting => some .notReady
  | .unloading => some .notReady
  | .released => some .notReady

/-- The cartridge-state gate of SEEK. -/
def seekGate : CartState → Option OutcomeCode
  | .ready => none
  | .blank => none
  | .refused _ => some .refusedCartridge
  | _ => some .notReady

/-- The cartridge-state gate of READ, WRITE, VERIFY and REASSIGN. -/
def dataGate : CartState → Option OutcomeCode
  | .ready => none
  | .blank => some .unformatted
  | .refused _ => some .refusedCartridge
  | _ => some .notReady

/-- The two gates in their order: the first that refuses gives the reply. -/
def gated (gate : Option OutcomeCode) (work : State → State) (s : State) : State :=
  match gate with
  | some o => finish o s
  | none => if class13Held s then finish .faultPending s else work s

/-! ### The commands -/

/-- SPIN UP (R84 to R86). -/
def beginSpinUp (e : Entry) (s : State) : State :=
  let reid := byteAt e.params 0 % 2 == 1
  gated (spinUpGate reid s.cart.state)
    (fun s => if s.cart.state = .present then beginStart s
      else if reid then beginReload s
      else beginSpinOnly s) s

/-- SPIN DOWN (R167): NOT READY in EMPTY. -/
def takeSpinDown (_ : Entry) (s : State) : State :=
  if s.cart.state = .empty then finish .notReady s else beginSpinDown s

/-- SEEK (R70). -/
def takeSeek (e : Entry) (s : State) : State :=
  gated (seekGate s.cart.state)
    (fun s =>
      if (s.cart.type.getD .a).lastCylinder < word16At e.params 0 then finish .outOfRange s
      else beginSeek s) s

/-- READ, WRITE and VERIFY (R113). -/
def takeDataCommand (cmd : DataCommand) (_ : Entry) (s : State) : State :=
  gated (dataGate s.cart.state) (beginData cmd) s

/-- REASSIGN (R102). -/
def takeReassign (_ : Entry) (s : State) : State := gated (dataGate s.cart.state) beginReassign s

/-- FORMAT (R132) makes its own checks. -/
def takeFormat (_ : Entry) (s : State) : State := beginFormat s

/-- REST (R161). -/
def takeRest (e : Entry) (s : State) : State :=
  if s.cart.state ≠ .ready ∧ s.cart.state ≠ .blank then finish .notReady s
  else if 1 < byteAt e.params 0 ∨ 1 < byteAt e.params 2 then finish .badParameter s
  else beginRest s

/-- EJECT (R11), with its force option. -/
def takeEject (e : Entry) (s : State) : State :=
  if s.cart.state = .empty then finish .notReady s
  else beginEject false (byteAt e.params 0 % 2 == 1) s

/-- READ TABLE (R107). -/
def takeReadTable (e : Entry) (s : State) : State :=
  finishWith (readTable e.params s).1 (readTable e.params s).2 s

/-- The value a parameter takes and the settings with it (R170); none for an unknown parameter. -/
def setParameterValue (p v : Nat) (g : Settings) : Option (Nat × Settings) :=
  match p with
  | 1 => some (min v 15, { g with active := { g.active with retry := min v 15 } })
  | 2 => some (clampNat 1 15 v, { g with active := { g.active with timeout := clampNat 1 15 v } })
  | 3 => some (min v 1, { g with active := { g.active with autoStart := v != 0 } })
  | 4 => some (min v 1, { g with active := { g.active with writeVerify := v != 0 } })
  | 5 => some (min v 31, { g with trims := { g.trims with wc := min v 31 } })
  | 6 => some (clampNat 1 63 v, { g with trims := { g.trims with kv := clampNat 1 63 v } })
  | 7 => some (clampNat 1 63 v, { g with trims := { g.trims with kp := clampNat 1 63 v } })
  | 8 => some (clampNat 1 63 v, { g with trims := { g.trims with kd := clampNat 1 63 v } })
  | _ => none

/-- SET PARAMETER (R170). A BAD PARAMETER reply has no value taken (log entry 18). -/
def takeSetParameter (e : Entry) (s : State) : State :=
  match setParameterValue (byteAt e.params 0) (byteAt e.params 1) s.set with
  | some (v, g) => finishWith .done [byte (byteAt e.params 0), byte v] { s with set := g }
  | none => finishWith .badParameter ([byte (byteAt e.params 0)] ++ opt8 none) s

/-- The user area as SAVE SETTINGS writes it (R168, R171, 12.5). -/
def userAreaOf (u : UserSettings) : List Byte :=
  let head := [0x96#8, byte u.retry, byte u.timeout, byte (bit u.autoStart 0 + bit u.writeVerify 1)]
    ++ List.replicate 10 0#8
  head ++ be16 (byteSum head)

/-- SAVE SETTINGS (R171): the area is being written. -/
def takeSaveSettings (_ : Entry) (s : State) : State :=
  setWork .saving { s with set := { s.set with saving := some (userAreaOf s.set.active) } }

/-- SAVE SETTINGS READ BACK (R171). If it differs, the area's contents are free values (log entry
71). -/
def readBackSaved (area : List Byte) (s : State) : State :=
  match s.cu.slot.work, s.set.saving with
  | .saving, some image =>
    if area = image then
      finish .done { s with set := { s.set with userArea := area, image := s.set.active,
                                                saving := none } }
    else finish .settingsWriteFailed { s with
      set := { s.set with
        userArea := (List.range 16).map (Config.failedSaveByte s.freeUsed), saving := none }
      freeUsed := s.freeUsed + 1 }
  | _, _ => s

/-- The read-back of a save, worked out. -/
def savedBack (area : List Byte) (s : State) : State := settle (readBackSaved area s)

/-- LOAD DEFAULTS (R172). -/
def takeLoadDefaults (_ : Entry) (s : State) : State :=
  finish .done { s with set := { s.set with active := UserSettings.builtIn,
                                            trims := factoryTrimsFor s.cart.type } }

/-- A marked command at the queue head takes the slot (R176). A BUTTON EJECT that waits goes first,
but not while a soft reset is in progress. -/
def takeCancelled (s : State) : State :=
  match s.cu.queue with
  | e :: _ =>
    if e.cancelled && slotFree s && (!s.cu.resets.isEmpty || !s.cu.pendEject) then
      finishWith .cancelled [] (takeHead e s)
    else s
  | [] => s

/-! ### The meanings -/

/-- SPIN UP. -/
def execSpinUp (s : State) : Host.Outcome State Fault Refusal :=
  .next (unlessReset (runHead Code.spinUp beginSpinUp) s)

/-- SPIN DOWN. -/
def execSpinDown (s : State) : Host.Outcome State Fault Refusal :=
  .next (unlessReset (runHead Code.spinDown takeSpinDown) s)

/-- SEEK. -/
def execSeek (s : State) : Host.Outcome State Fault Refusal :=
  .next (unlessReset (runHead Code.seek takeSeek) s)

/-- READ. -/
def execRead (s : State) : Host.Outcome State Fault Refusal :=
  .next (unlessReset (runHead Code.read (takeDataCommand .read)) s)

/-- WRITE. -/
def execWrite (s : State) : Host.Outcome State Fault Refusal :=
  .next (unlessReset (runHead Code.write (takeDataCommand .write)) s)

/-- VERIFY. -/
def execVerify (s : State) : Host.Outcome State Fault Refusal :=
  .next (unlessReset (runHead Code.verify (takeDataCommand .verify)) s)

/-- REASSIGN. -/
def execReassign (s : State) : Host.Outcome State Fault Refusal :=
  .next (unlessReset (runHead Code.reassign takeReassign) s)

/-- FORMAT. -/
def execFormat (s : State) : Host.Outcome State Fault Refusal :=
  .next (unlessReset (runHead Code.format takeFormat) s)

/-- REST. -/
def execRest (s : State) : Host.Outcome State Fault Refusal :=
  .next (unlessReset (runHead Code.rest takeRest) s)

/-- EJECT. -/
def execEject (s : State) : Host.Outcome State Fault Refusal :=
  .next (unlessReset (runHead Code.eject takeEject) s)

/-- READ TABLE. -/
def execReadTable (s : State) : Host.Outcome State Fault Refusal :=
  .next (unlessReset (runHead Code.readTable takeReadTable) s)

/-- SET PARAMETER. -/
def execSetParameter (s : State) : Host.Outcome State Fault Refusal :=
  .next (unlessReset (runHead Code.setParameter takeSetParameter) s)

/-- SAVE SETTINGS. -/
def execSaveSettings (s : State) : Host.Outcome State Fault Refusal :=
  .next (unlessReset (runHead Code.saveSettings takeSaveSettings) s)

/-- SAVE SETTINGS READ BACK. -/
def execSaveSettingsReadBack (area : List Byte) (s : State) : Host.Outcome State Fault Refusal :=
  .next (unlessReset (savedBack area) s)

/-- LOAD DEFAULTS. -/
def execLoadDefaults (s : State) : Host.Outcome State Fault Refusal :=
  .next (unlessReset (runHead Code.loadDefaults takeLoadDefaults) s)

/-- A CANCELLED COMMAND TAKES THE SLOT. -/
def execCancelledCommandTakesSlot (s : State) : Host.Outcome State Fault Refusal :=
  .next (unlessReset takeCancelled s)

end Sys2Proof.Machine
end

