-- ==== Sys2Proof/Machine/Internal.lean ====
section
/-! DEFINITION. The internal operations and the soft reset as they take the execution slot (R176), and
the events of the cartridge handler (chapter 1). -/

namespace Sys2Proof.Machine

/-! ### Internal operations at the slot -/

/-- An item other than a queued command takes the slot. -/
def takeItem (i : Item) (s : State) : State :=
  { s with cu := { s.cu with slot := { Slot.free with item := i } } }

/-- AUTO START (R6): with the cartridge not PRESENT or a class 1–3 fault held it ends at once. -/
def takeAutoStart (s : State) : State :=
  if headMayRun s && s.cu.pendAuto then
    let s := takeItem .autoStart { s with cu := { s.cu with pendAuto := false } }
    settle (if s.cart.state ≠ .present ∨ class13Held s = true then finish .done s else beginStart s)
  else s

/-- BUTTON EJECT (R10, R14). While a soft reset is in progress it waits. -/
def takeButtonEject (s : State) : State :=
  if slotFree s && s.cu.resets.isEmpty && s.cu.pendEject then
    settle (beginEject true false
      (takeItem .buttonEject { s with cu := { s.cu with pendEject := false } }))
  else s

/-- TIMED WAKE (R165). -/
def takeTimedWake (s : State) : State :=
  if headMayRun s && s.cu.pendWake then
    settle (beginWake (takeItem .timedWake { s with cu := { s.cu with pendWake := false } }))
  else s

/-- The drain of the soft reset in progress is complete (R184). -/
def drained (s : State) : Bool :=
  slotFree s && !(match s.cu.queue with
    | e :: _ => e.cancelled
    | [] => false)

/-- The PARK stage of the soft reset in progress begins (R184). -/
def takeSoftReset (s : State) : State :=
  match s.cu.resets with
  | [] => s
  | tag :: _ =>
    if drained s then
      let s := takeItem (.softReset tag) (endRest { s with cu := { s.cu with pendAuto := false } })
      settle (setWork .resetPark (requestRetract s))
    else s

/-! ### The cartridge handler -/

/-- The factory trims of a known type go into the active trim set; Gs is not changed (R2). -/
def loadTypeTrims (t : CartType) (s : State) : State :=
  { s with set := { s.set with trims := { t.factoryTrims with gs := s.set.trims.gs } } }

/-- INSERTION (R2, R3). -/
def insertShell (a b w : Bool) (s : State) : State :=
  let s := { s with pins := { s.pins with seated := true, notchA := a, notchB := b, wprot := w } }
  if s.cart.state ≠ .empty then s
  else
    let s := { s with cart := { s.cart with type := typeOfNotches a b, wp := w } }
    match typeOfNotches a b with
    | none => setCause .inserted (setCart (.refused .typeUnknown) s)
    | some t =>
      let s := setCause .inserted (loadTypeTrims t (setCart .present s))
      if s.set.active.autoStart && !class13Held s then { s with cu := { s.cu with pendAuto := true } }
      else s

/-- A shell may be pulled out: PRESENT or REFUSED with the mechanism at rest (R4). -/
def removable (s : State) : Bool :=
  (match s.cart.state with
   | .present => true
   | .refused _ => true
   | _ => false)
  && s.spin.state == .stopped && s.pos.state == .parked

/-- A removal (R4). -/
def removeShell (s : State) : State :=
  let s := shellLeaves s
  { s with cu := { s.cu with pendEject := false } }

/-- SEATED FALLING (R4, R19). -/
def seatedFalls (s : State) : State :=
  let s := { s with pins := { s.pins with seated := false } }
  if s.cart.state = .released then settle (ejectLeaves s)
  else if removable s then removeShell s
  else s

/-- A press is ignored (R9). -/
def pressIgnored (s : State) : Bool :=
  s.cart.state == .empty || s.cart.state == .unloading || s.cart.state == .released || s.cu.pendEject

/-- A BUTTON EJECT request is made (R9): AUTO START is withdrawn, the queue is cancelled, the rest
ends (R164), and the item in the slot is told to end. -/
def requestEject (s : State) : State :=
  let s := endRest { s with cu := { s.cu with pendEject := true, pendAuto := false } }
  settle (tellAbort (cancelQueue s))

/-- EJECT BUTTON PRESS (R9). -/
def pressButton (s : State) : State :=
  if pressIgnored s then s
  else if s.cart.hold then setCause .ejectAsked s
  else requestEject s

/-- RELEASE WINDOW EXPIRY (R20). -/
def windowExpires (s : State) : State :=
  if s.cart.state = .released then settle (ejectJams s) else s

/-! ### The meanings -/

/-- AUTO START. -/
def execAutoStart (s : State) : Host.Outcome State Fault Refusal :=
  .next (unlessReset takeAutoStart s)

/-- BUTTON EJECT. -/
def execButtonEject (s : State) : Host.Outcome State Fault Refusal :=
  .next (unlessReset takeButtonEject s)

/-- TIMED WAKE. -/
def execTimedWake (s : State) : Host.Outcome State Fault Refusal :=
  .next (unlessReset takeTimedWake s)

/-- SOFT RESET PARK. -/
def execSoftResetPark (s : State) : Host.Outcome State Fault Refusal :=
  .next (unlessReset takeSoftReset s)

/-- INSERTION. -/
def execInsertion (notchA notchB wprot : Bool) (s : State) : Host.Outcome State Fault Refusal :=
  .next (unlessReset (insertShell notchA notchB wprot) s)

/-- SEATED FALLING. -/
def execSeatedFalling (s : State) : Host.Outcome State Fault Refusal :=
  .next (unlessReset seatedFalls s)

/-- EJECT BUTTON PRESS. -/
def execEjectButtonPress (s : State) : Host.Outcome State Fault Refusal :=
  .next (unlessReset pressButton s)

/-- RELEASE WINDOW EXPIRY. -/
def execReleaseWindowExpiry (s : State) : Host.Outcome State Fault Refusal :=
  .next (unlessReset windowExpires s)

end Sys2Proof.Machine
end

