-- ==== Sys2Proof/Machine/SpindleEvents.lean ====
section
/-! DEFINITION. The events of the spindle controller (chapter 2): index arrivals with the regulator
step, the lock and the deviation checks, and the expiries of its timers. -/

namespace Sys2Proof.Machine

/-! ### Index arrival -/

/-- The new drive level (R32). -/
def regulate (d p gs : Nat) : Nat :=
  (clampInt 0 255 ((d : Int) + shiftRound ((gs : Int) * ((p : Int) - Config.nominalPeriod)) 4)).toNat

/-- P lies in the nominal period ± w. -/
def inWindow (w p : Nat) : Bool := Config.nominalPeriod - w ≤ p && p ≤ Config.nominalPeriod + w

/-- The lock check (R33), with the entry to AT_SPEED. -/
def Spindle.lockCheck (p : Spindle) : Spindle :=
  if inWindow Config.lockHalf p.period then
    if 4 ≤ p.inCount + 1 then
      { p with state := .atSpeed, deviating := false, inCount := 0, outCount := 0, spinUp := none }
    else { p with inCount := p.inCount + 1 }
  else { p with inCount := 0 }

/-- The deviation check with the flag clear (R35): the spindle after it, and whether SPEED DEVIATION
is raised. -/
def Spindle.deviationCheck (p : Spindle) : Spindle × Bool :=
  if inWindow Config.deviationHalf p.period then ({ p with outCount := 0 }, false)
  else if 2 ≤ p.outCount + 1 then ({ p with outCount := 0, inCount := 0, deviating := true }, true)
  else ({ p with outCount := p.outCount + 1 }, false)

/-- The recovery check with the flag set (R36). -/
def Spindle.recoveryCheck (p : Spindle) : Spindle :=
  if inWindow Config.lockHalf p.period then
    if 4 ≤ p.inCount + 1 then { p with inCount := 0, deviating := false }
    else { p with inCount := p.inCount + 1 }
  else { p with inCount := 0 }

/-- What the state does with an index arrival, P measured (R27, R29, R30, R32 to R36, R38). -/
def Spindle.index (gs : Nat) (p : Spindle) : Spindle × Bool :=
  match p.state with
  | .stopped => (p, false)
  | .kick => ({ p with state := .accel, kick := none }, false)
  | .accel =>
    if p.period ≤ Config.regulateThreshold then
      ({ p with state := .regulate, drive := 200, inCount := 0 }, false)
    else (p, false)
  | .regulate => (Spindle.lockCheck { p with drive := regulate p.drive p.period gs }, false)
  | .atSpeed =>
    if p.deviating then (Spindle.recoveryCheck { p with drive := regulate p.drive p.period gs }, false)
    else Spindle.deviationCheck { p with drive := regulate p.drive p.period gs }
  | .coasting => (p, false)
  | .braking => ({ p with stop := some Config.stopTime }, false)

/-- P is measured and the gap timer restarts (R27). -/
def Spindle.measure (p : Spindle) : Spindle := { p with period := min p.gap Config.gapMax, gap := 0 }

/-- The spindle's part of an index arrival. -/
def indexSpindle (s : State) : State :=
  let r := Spindle.index s.set.trims.gs s.spin.measure
  if r.2 then raiseDeviation { s with spin := r.1 } else { s with spin := r.1 }

/-- INDEX ARRIVAL (R27, R111): the spindle, then the sector events of rotation position 0. -/
def indexArrives (sig : ReadSignal) (s : State) : State := rotate 0 sig (indexSpindle s)

/-! ### Expiries -/

/-- KICK TIMER EXPIRY (R29). -/
def kickExpires (s : State) : State :=
  if s.spin.state = .kick then settle (raise .stallSpinUp s) else s

/-- ACCEL GAP SATURATION (R30). -/
def accelSaturates (s : State) : State :=
  if s.spin.state = .accel then
    settle (raise .stallSpinUp { s with spin := { s.spin with gap := Config.gapMax } })
  else s

/-- SPIN UP TIMER EXPIRY (R31). -/
def spinUpExpires (s : State) : State :=
  match s.spin.state with
  | .kick => settle (raise .stallSpinUp s)
  | .accel => settle (raise .stallSpinUp s)
  | .regulate => settle (raise .stallSpinUp s)
  | _ => s

/-- INDEX LOSS (R34). -/
def indexLost (s : State) : State :=
  if s.spin.state = .regulate ∨ s.spin.state = .atSpeed then
    settle (raise .stallIndexLoss
      { s with spin := { s.spin with gap := max s.spin.gap (Config.gapLimit + 1) } })
  else s

/-- STOP TIMER EXPIRY (R38): STOPPED, and a pending start enters KICK if the positioner is PARKED
(R28). The KICK comes before the report to an item that waits for STOPPED (log entry 59). -/
def stopExpires (s : State) : State :=
  if s.spin.state = .braking then
    let p := s.spin.enterStopped
    settle { s with spin := if p.pendingStart ∧ s.pos.state = .parked then p.enterKick else p }
  else s

/-- BRAKE TIMER EXPIRY (R38): once for each entry to BRAKING. -/
def brakeExpires (s : State) : State :=
  if s.spin.state = .braking ∧ s.spin.brake.isSome then
    settle (raise .stallBrake { s with spin := { s.spin with brake := none, brakeFailed := true } })
  else s

/-! ### The meanings -/

/-- INDEX ARRIVAL. -/
def execIndexArrival (sig : ReadSignal) (s : State) : Host.Outcome State Fault Refusal :=
  .next (unlessReset (indexArrives sig) s)

/-- KICK TIMER EXPIRY. -/
def execKickTimerExpiry (s : State) : Host.Outcome State Fault Refusal :=
  .next (unlessReset kickExpires s)

/-- ACCEL GAP SATURATION. -/
def execAccelGapSaturation (s : State) : Host.Outcome State Fault Refusal :=
  .next (unlessReset accelSaturates s)

/-- SPIN UP TIMER EXPIRY. -/
def execSpinUpTimerExpiry (s : State) : Host.Outcome State Fault Refusal :=
  .next (unlessReset spinUpExpires s)

/-- INDEX LOSS. -/
def execIndexLoss (s : State) : Host.Outcome State Fault Refusal := .next (unlessReset indexLost s)

/-- STOP TIMER EXPIRY. -/
def execStopTimerExpiry (s : State) : Host.Outcome State Fault Refusal :=
  .next (unlessReset stopExpires s)

/-- BRAKE TIMER EXPIRY. -/
def execBrakeTimerExpiry (s : State) : Host.Outcome State Fault Refusal :=
  .next (unlessReset brakeExpires s)

end Sys2Proof.Machine
end

