-- ==== Sys2Proof/Machine/Servo.lean ====
section
/-! DEFINITION. The events of the head positioner and of the cell clock unit (chapters 2 and 3): servo
samples with the seek computation, missing samples, the seek timeout, and the load, retract and
emergency timers. -/

namespace Sys2Proof.Machine

/-! ### The seek computation (R54, R55) -/

/-- The current command's bounds (R48). -/
def clampCurrent (i : Int) : Int := clampInt (-127) 127 i

/-- The sign of a nonzero distance. -/
def signOf (r : Int) : Int := if r < 0 then -1 else 1

/-- The profile velocity Vd (R54 step 1). -/
def profile (t : CartType) (r : Int) : Int :=
  signOf r * (min t.vmax (isqrt (2 * t.decel * r.natAbs)) : Nat)

/-- The coarse formula (R54). -/
def coarseCurrent (t : CartType) (g : Trims) (r vm : Int) : Int :=
  clampCurrent (shiftRound ((g.kv : Int) * (profile t r - vm)) 6)

/-- The fine formula (R55). -/
def fineCurrent (g : Trims) (r vm : Int) : Int :=
  clampCurrent (shiftRound ((g.kp : Int) * r - (g.kd : Int) * vm) 6)

/-- The current by the state chosen for the sample (R56). -/
def seekCurrent (st : PosState) (r vm : Int) (s : State) : Int :=
  if st = .seeking then coarseCurrent (s.cart.type.getD .a) s.set.trims r vm
  else fineCurrent s.set.trims r vm

/-! ### Seek timeout (R60) -/

/-- A seek has run its 400 samples: the restart, or SEEK FAILED (seek). -/
def seekTimesOut (s : State) : State :=
  if s.pos.restartUsed then
    let s := tellRequester .failed s
    raise .seekSeek { s with pos := { s.pos with requester := none } }
  else
    { s with pos := { s.pos with seekCount := 0, restartUsed := true, settle := 0 } }

/-! ### A valid sample in each state -/

/-- The settle count after a sample (R56). -/
def settleNext (st : PosState) (n : Nat) (r : Int) : Nat :=
  if st = .settling ∧ |r| ≤ (Config.settleWindow : Int) then n + 1 else 0

/-- The seek is complete (R56). -/
def seekCompletes (s : State) : State :=
  let s := tellRequester .complete s
  { s with pos := { s.pos with state := .following, requester := none, seekCount := 0,
                               restartUsed := false, offTrack := 0 } }

/-- A sample in SEEKING or SETTLING (R56, R60). A 400th sample that completes the settle completes
the seek. -/
def seekSample (r vm : Int) (s : State) : State :=
  let st := seekState r
  let n := settleNext st s.pos.settle r
  let s := { s with pos := { s.pos with state := st, current := seekCurrent st r vm s, settle := n,
                                        seekCount := s.pos.seekCount + 1 } }
  if Config.settleCount ≤ n then seekCompletes s
  else if Config.seekSamples ≤ s.pos.seekCount then seekTimesOut s
  else s

/-- The positioner settles again at its unchanged target (R57, R58). -/
def resettle (s : State) : State :=
  { s with pos := { s.pos with state := .settling, settle := 0, offTrack := 0, seekCount := 0,
                               restartUsed := false } }

/-- A sample in FOLLOWING (R57, R58): the off-track check, then the current. With a write in progress
one sample beyond the window raises OFF TRACK, and one within it returns the count to 0 as it does without
a write (log entry 80). -/
def followSample (r vm : Int) (s : State) : State :=
  let i := fineCurrent s.set.trims r vm
  let s := { s with pos := { s.pos with current := i } }
  if |r| ≤ (Config.offTrackWindow : Int) then { s with pos := { s.pos with offTrack := 0 } }
  else if s.chan.wgate then resettle (raise .offTrack s)
  else if Config.offTrackCount ≤ s.pos.offTrack + 1 then resettle (depart s)
  else { s with pos := { s.pos with offTrack := s.pos.offTrack + 1 } }

/-- The first sample in LOADING (R53). The mark of an aborted SEEK takes the target from it (R72). The
sample itself counts neither toward the settle nor as a seek sample (log entry 19). -/
def loadSample (r vm : Int) (s : State) : State :=
  let st := seekState r
  { s with pos := { s.pos with state := st, current := seekCurrent st r vm s, load := none,
                               seekCount := 0, restartUsed := false } }

/-- The target that an aborted SEEK leaves to the first sample (R72). -/
def landTarget (cyl : Nat) (s : State) : State :=
  if s.pos.landHere then
    { s with pos := { s.pos with target := some { cyl, offset := 0 }, resume := cyl,
                                 landHere := false } }
  else s

/-- The target position, 0 without a target. The five states in which a sample acts have one. -/
def targetPosition (s : State) : Int :=
  match s.pos.target with
  | some t => t.position
  | none => 0

/-- The measured velocity (R50 step 2): 0 on the first sample after LOADING and after COASTING. -/
def measuredVelocity (x : Int) (s : State) : Int :=
  match s.pos.state, s.pos.xp with
  | .coasting, _ => 0
  | _, none => 0
  | _, some xp => x - xp

/-- The positioner acts on a valid sample by its state (R50). -/
def positionSample (cyl : Nat) (pe : Int) (s : State) : State :=
  let x := 256 * (cyl : Int) + pe
  let vm := measuredVelocity x s
  let st := s.pos.state
  let s := landTarget cyl { s with pos := { s.pos with x, xp := some x, cylinder := cyl } }
  let r := targetPosition s - x
  match st with
  | .loading => loadSample r vm s
  | .seeking => seekSample r vm s
  | .settling => seekSample r vm s
  | .following => followSample r vm s
  | .coasting =>
    let s := { s with pos := { s.pos with missing := 0, state := s.pos.remembered } }
    if s.pos.remembered = .following then followSample r vm s else seekSample r vm s
  | .parked => s
  | .retracting => s
  | .emergency => s

/-! ### Mark strobes -/

/-- The states in which a sample acts on the positioner and the clock (R42, R50). -/
def PosState.flying : PosState → Bool
  | .loading => true
  | .seeking => true
  | .settling => true
  | .following => true
  | .coasting => true
  | .parked => false
  | .retracting => false
  | .emergency => false

/-- A valid sample (R42, R50): its cylinder lies within those of the cartridge's type. -/
def validSample (cyl : Nat) (s : State) : Bool :=
  match s.cart.type with
  | some t => cyl ≤ t.lastCylinder
  | none => false

/-- A good sample for the clock (R45), which restarts its timer (R43). -/
def goodSample (s : State) : State :=
  let n := min 32 (s.clk.good + 1)
  { s with clk := { locked := s.clk.locked || 32 ≤ n, good := n, miss := some Config.missFirst } }

/-- A valid sample at the positioner and at the clock. -/
def takeSample (cyl : Nat) (pe : Int) (s : State) : State :=
  if s.pos.state.flying then positionSample cyl pe (goodSample s) else s

/-- MARK STROBE (R50, R45, R111). An invalid one is ignored. Sample 0, and a sample with the heads
PARKED, do not advance the rotation position. -/
def markStrobes (cyl : Nat) (pe : Int) (withIndex park : Bool) (sig : ReadSignal) (s : State) :
    State :=
  let s := { s with pins := { s.pins with park } }
  if validSample cyl s then
    let still := withIndex || s.pos.state == .parked
    let s := settle (takeSample cyl pe s)
    if still then s else rotateNext sig s
  else s

/-! ### Missing samples (R43, R44, R62, R63) -/

/-- The clock at a declaration (R43, R44). -/
def clockMisses (s : State) : State :=
  { s with clk := { locked := false, good := 0, miss := some Config.missNext } }

/-- SERVO LOSS (R63). -/
def losesServo (s : State) : State := raise .servoLoss s

/-- The positioner enters COASTING, or counts on (R62). -/
def coastOn (s : State) : State :=
  if s.pos.state = .coasting then
    { s with pos := { s.pos with missing := s.pos.missing + 1 } }
  else
    let st := s.pos.state
    let s := depart s
    { s with pos := { s.pos with state := .coasting, current := 0, remembered := st, missing := 1,
                                 settle := 0, offTrack := 0 } }

/-- A declaration counts as a seek sample when a seek is in progress (R60, R62). -/
def missCounts (s : State) : State :=
  if s.pos.remembered = .following then s
  else
    let s := { s with pos := { s.pos with seekCount := s.pos.seekCount + 1 } }
    if Config.seekSamples ≤ s.pos.seekCount then seekTimesOut s else s

/-- The positioner at a declaration (R62, R63): the eighth is SERVO LOSS, also where it would be the
400th sample of a seek (R60; log entry 61). -/
def positionMiss (s : State) : State :=
  if s.pos.state = .coasting ∧ Config.missingLimit ≤ s.pos.missing + 1 then losesServo s
  else missCounts (coastOn s)

/-- The states in which samples can be declared missing (R43). -/
def PosState.tracks (p : PosState) : Bool := p.flying && p != .loading

/-- The channel has no read signal at a declaration. -/
def ReadSignal.none : ReadSignal := { ident := .none, checkOk := false, data := [] }

/-- MISSING SAMPLE DECLARATION (R43, R44, R62, R111). -/
def missDeclared (s : State) : State :=
  if s.pos.state.tracks then rotateNext ReadSignal.none (settle (positionMiss (clockMisses s)))
  else s

/-- SERVO LOSS (R63): the eighth declaration. -/
def servoLost (s : State) : State :=
  if s.pos.state.tracks then rotateNext ReadSignal.none (settle (losesServo (clockMisses s))) else s

/-- SEEK TIMEOUT (R60): a seek is in progress, also under COASTING. -/
def seekExpires (s : State) : State :=
  match s.pos.state with
  | .seeking => settle (seekTimesOut s)
  | .settling => settle (seekTimesOut s)
  | .coasting => if s.pos.remembered = .following then s else settle (seekTimesOut s)
  | _ => s

/-! ### Load and retract timers, and PARK -/

/-- LOAD TIMER EXPIRY (R53). -/
def loadExpires (park : Bool) (s : State) : State :=
  if s.pos.state = .loading then
    let s := tellRequester .failed { s with pins := { s.pins with park } }
    settle (raise .seekLoad { s with pos := { s.pos with requester := none } })
  else s

/-- RETRACT TIMER EXPIRY (R65). -/
def retractExpires (s : State) : State :=
  if s.pos.state = .retracting then settle (enterEmergency s) else s

/-- The entry to PARKED has been reported (R68): what it brings about, and then the held request. -/
def parkReported (s : State) : State := settle (heldActs (settle s))

/-- EMERGENCY TIMER EXPIRY (R67): PARKED without the sensor, then SEEK FAILED (park), whose retract
finds PARKED and discards a held request (R64; log entry 51). -/
def emergencyExpires (s : State) : State :=
  if s.pos.state = .emergency then settle (raise .seekPark (enterParked s)) else s

/-- PARK RISES (R65, R67). In the other states it is not acted on. -/
def parkSeen (s : State) : State :=
  let s := { s with pins := { s.pins with park := true } }
  if s.pos.state = .retracting ∨ s.pos.state = .emergency then parkReported (enterParked s) else s

/-! ### The meanings -/

/-- MARK STROBE. -/
def execMarkStrobe (cylinder : Nat) (pe : Int) (withIndex park : Bool) (sig : ReadSignal)
    (s : State) : Host.Outcome State Fault Refusal :=
  .next (unlessReset (markStrobes cylinder pe withIndex park sig) s)

/-- MISSING SAMPLE DECLARATION. -/
def execMissingSampleDeclaration (s : State) : Host.Outcome State Fault Refusal :=
  .next (unlessReset missDeclared s)

/-- SERVO LOSS. -/
def execServoLoss (s : State) : Host.Outcome State Fault Refusal := .next (unlessReset servoLost s)

/-- SEEK TIMEOUT. -/
def execSeekTimeout (s : State) : Host.Outcome State Fault Refusal :=
  .next (unlessReset seekExpires s)

/-- LOAD TIMER EXPIRY. -/
def execLoadTimerExpiry (park : Bool) (s : State) : Host.Outcome State Fault Refusal :=
  .next (unlessReset (loadExpires park) s)

/-- RETRACT TIMER EXPIRY. -/
def execRetractTimerExpiry (s : State) : Host.Outcome State Fault Refusal :=
  .next (unlessReset retractExpires s)

/-- EMERGENCY TIMER EXPIRY. -/
def execEmergencyTimerExpiry (s : State) : Host.Outcome State Fault Refusal :=
  .next (unlessReset emergencyExpires s)

/-- PARK RISES. -/
def execParkRises (s : State) : Host.Outcome State Fault Refusal := .next (unlessReset parkSeen s)

end Sys2Proof.Machine
end

