-- ==== Sys2Proof/Machine/Waits.lean ====
section
/-! DEFINITION. The write fault (R123), the waits that end in DATA TIMEOUT (R121, R127, R135, R136), the
limit of a copy attempt (R90), the supply warning (R157, R158), the rest timer (R165) and the hard
reset (R23 and the reset rule of each block). -/

namespace Sys2Proof.Machine

/-- WRITE FAULT (R123): the channel cuts the sector and raises the fault. -/
def writeFaults (s : State) : State :=
  if s.chan.wgate then settle (raise .writeFault s) else s

/-- DATA TIMER EXPIRY (R127). -/
def dataTimes (s : State) : State := settle (dataTimerExpires s)

/-- The wait at the gate has run out: of a WRITE's block, of REASSIGN's spare (R121, R104), or of a
sector of FORMAT (R135). A spare's sector that is being written is completed (R127). -/
def gateWaitEnds (s : State) : State :=
  match s.chan.gateWait, s.chan.transfer, s.chan.reassign with
  | some _, some t, _ => endTransfer t .dataTimeout true (stopGateWait s)
  | some _, none, some r =>
    if s.chan.op.isSome then setReassign { r with timedOut := true } (stopGateWait s)
    else writeStageEnds r .dataTimeout s
  | some _, none, none => s
  | none, _, _ =>
    match s.fmt with
    | some f => if f.phase = .writing then expireWait s else s
    | none => s

/-- GATE WAIT TIMER EXPIRY. -/
def gateWaitExpires (s : State) : State := settle (gateWaitEnds s)

/-- FORMAT READ WAIT EXPIRY (R136). -/
def readWaitExpires (s : State) : State :=
  match s.fmt with
  | some f => if f.phase = .verifying then settle (expireWait s) else s
  | none => s

/-- COPY ATTEMPT TIMER EXPIRY (R90). -/
def copyAttemptExpires (s : State) : State := settle (copyTimerExpires s)

/-- SUPWARN FALLS (R157): in WARNING it has fallen already. -/
def supplyWarns (s : State) : State :=
  let s := { s with pins := { s.pins with supwarn := false } }
  if s.fault.warning then s
  else settle (raise .supplyLoss { s with fault := { s.fault with warning := true } })

/-- SUPWARN RISES (R157, R158). -/
def supplyRecovers (s : State) : State :=
  { s with pins := { s.pins with supwarn := true }, fault := { s.fault with warning := false } }

/-- REST TIMER EXPIRY (R165): TIMED WAKE is requested, and the rest state is left as it is. A
BUTTON EJECT that is pending then withdraws the request when it takes the slot (log entry 75). -/
def restExpires (s : State) : State :=
  match s.rest.timer with
  | some _ =>
    { s with rest := { s.rest with timer := none }, cu := { s.cu with pendWake := true } }
  | none => s

/-! ### Hard reset -/

/-- The user area is good (R169). -/
def areaGood (a : List Byte) : Bool :=
  a.length == 16 && byteAt a 0 == 0x96 && byteSum (a.take 14) == word16At a 14
    && byteAt a 1 ≤ 15 && 1 ≤ byteAt a 2 && byteAt a 2 ≤ 15

/-- The four user values of a good area (R169, R196). -/
def areaValues (a : List Byte) : UserSettings :=
  { retry := byteAt a 1, timeout := byteAt a 2, autoStart := byteAt a 3 % 2 == 1,
    writeVerify := byteAt a 3 / 2 % 2 == 1 }

/-- The user area that a hard reset finds: after an interrupted save its bytes are free values
(R171; log entry 3). -/
def areaAtReset (s : State) : List Byte :=
  match s.set.saving with
  | none => s.set.userArea
  | some _ => (List.range 16).map (Config.interruptedSaveByte s.freeUsed)

/-- The user values after a hard reset (R169). -/
def settingsAtReset (a : List Byte) : UserSettings :=
  if areaGood a then areaValues a else UserSettings.builtIn

/-- The cartridge state after a hard reset (R23). -/
def cartAtReset (l : Levels) : CartState :=
  if l.seated then stateForType (typeOfNotches l.notchA l.notchB) else .empty

/-- The spindle after a hard reset (R41): STOPPED, or COASTING and then BRAKING if the heads are
PARKED. -/
def spinAtReset (l : Levels) : Spindle :=
  let p := State.reset.spin
  if l.seated then if l.park then p.enterCoasting.enterBraking else p.enterCoasting else p

/-- The positioner after a hard reset (R73). -/
def posAtReset (l : Levels) : Positioner :=
  let p := State.reset.pos
  if l.park then p else { p with state := .retracting, current := -40, retract := some Config.retractTime }

/-- Every block at its hard-reset values, RST at the level that the row gives (R23, R41, R46, R73,
R93, R130, R131, R159, R160, R169, R186, R187). The user area, the commands that wait outside the part
and the count of free values used are no part of the reset. -/
def resetState (l : Levels) (s : State) : State :=
  let a := areaAtReset s
  let ty := if l.seated then typeOfNotches l.notchA l.notchB else none
  { State.reset with
    pins := { dir := s.pins.dir, seated := l.seated, notchA := l.notchA, notchB := l.notchB,
              wprot := l.wprot, park := l.park, supwarn := l.supwarn, rst := l.rst }
    cu := { State.reset.cu with
      attention := Cause.powerReturn.mask ||| (if areaGood a then 0#16 else Cause.settingsRestored.mask) }
    cart := { State.reset.cart with
      state := cartAtReset l, type := ty, wp := l.seated && l.wprot }
    spin := spinAtReset l
    pos := posAtReset l
    fault := { slot := none, holder := none, warning := !l.supwarn }
    set := { userArea := a, active := settingsAtReset a, image := settingsAtReset a,
             trims := factoryTrimsFor ty, saving := none }
    freeUsed := s.freeUsed + (if s.set.saving.isSome then 1 else 0)
    pending := s.pending }

/-- HARD RESET, at the assertion of RST and again at its release (R193): a low SUPWARN raises SUPPLY
LOSS into the empty slot at once (R159). -/
def hardResets (l : Levels) (s : State) : State :=
  if l.supwarn then resetState l s else settle (raise .supplyLoss (resetState l s))

/-! ### The meanings -/

/-- HARD RESET. -/
def execHardReset (levels : Levels) (s : State) : Host.Outcome State Fault Refusal :=
  .next (hardResets levels s)

/-- WRITE FAULT. -/
def execWriteFault (s : State) : Host.Outcome State Fault Refusal :=
  .next (unlessReset writeFaults s)

/-- DATA TIMER EXPIRY. -/
def execDataTimerExpiry (s : State) : Host.Outcome State Fault Refusal :=
  .next (unlessReset dataTimes s)

/-- GATE WAIT TIMER EXPIRY. -/
def execGateWaitTimerExpiry (s : State) : Host.Outcome State Fault Refusal :=
  .next (unlessReset gateWaitExpires s)

/-- FORMAT READ WAIT EXPIRY. -/
def execFormatReadWaitExpiry (s : State) : Host.Outcome State Fault Refusal :=
  .next (unlessReset readWaitExpires s)

/-- COPY ATTEMPT TIMER EXPIRY. -/
def execCopyAttemptTimerExpiry (s : State) : Host.Outcome State Fault Refusal :=
  .next (unlessReset copyAttemptExpires s)

/-- SUPWARN FALLS. -/
def execSupwarnFalls (s : State) : Host.Outcome State Fault Refusal :=
  .next (unlessReset supplyWarns s)

/-- SUPWARN RISES. -/
def execSupwarnRises (s : State) : Host.Outcome State Fault Refusal :=
  .next (unlessReset supplyRecovers s)

/-- REST TIMER EXPIRY. -/
def execRestTimerExpiry (s : State) : Host.Outcome State Fault Refusal :=
  .next (unlessReset restExpires s)

end Sys2Proof.Machine
end

