-- ==== Sys2Proof/Machine/Tick.lean ====
section
/-! DEFINITION. What the part does by itself when no command waits (DESIGN CHOICE, log entry 4): an
internal step that R176, R177 or R191 says is taken at once, if one is enabled, and otherwise one tick
of 1 µs, with the timers that run out in it. The orders chosen here are the model's. -/

namespace Sys2Proof.Machine

/-! ### Internal steps -/

/-- The unmarked queue head takes the slot by the rule of its code. -/
def runAnyHead (e : Entry) (s : State) : State :=
  if e.code = Code.spinUp then runHead e.code beginSpinUp s
  else if e.code = Code.spinDown then runHead e.code takeSpinDown s
  else if e.code = Code.seek then runHead e.code takeSeek s
  else if e.code = Code.read then runHead e.code (takeDataCommand .read) s
  else if e.code = Code.write then runHead e.code (takeDataCommand .write) s
  else if e.code = Code.verify then runHead e.code (takeDataCommand .verify) s
  else if e.code = Code.reassign then runHead e.code takeReassign s
  else if e.code = Code.format then runHead e.code takeFormat s
  else if e.code = Code.rest then runHead e.code takeRest s
  else if e.code = Code.eject then runHead e.code takeEject s
  else if e.code = Code.readTable then runHead e.code takeReadTable s
  else if e.code = Code.setParameter then runHead e.code takeSetParameter s
  else if e.code = Code.saveSettings then runHead e.code takeSaveSettings s
  else runHead e.code takeLoadDefaults s

/-- A reply waits for a place, and one is free. -/
def replyEnabled (s : State) : Bool :=
  match s.cu.slot.work with
  | .replying _ => placeFree s
  | _ => false

/-- The internal step that is enabled, if any (R176, R177, R191). -/
def internalStep (s : State) : Option State :=
  if replyEnabled s then some (replyTakesPlace s)
  else if s.link.kindWaiting && placeFree s then some (kindTakesPlace s)
  else if slotFree s then
    if !s.cu.resets.isEmpty && drained s then some (takeSoftReset s)
    else if s.cu.resets.isEmpty && s.cu.pendEject then some (takeButtonEject s)
    else
      match s.cu.queue with
      | e :: _ =>
        if e.cancelled then some (takeCancelled s)
        else if headMayRun s then some (runAnyHead e s)
        else none
      | [] =>
        if headMayRun s && s.cu.pendAuto then some (takeAutoStart s)
        else if headMayRun s && s.cu.pendWake then some (takeTimedWake s)
        else none
  else none

/-! ### One tick -/

/-- A running timer has a microsecond less. -/
def Timer.down : Timer → Timer
  | none => none
  | some n => some (n - 1)

/-- Every timer counts down, and the gap timer up to its saturation (R25); of a frame being sent one
more byte may be acknowledged (R188; log entry 16). -/
def countDown (s : State) : State :=
  let s := ackByte s
  { s with
    link := { s.link with gap := Timer.down s.link.gap, quiet := Timer.down s.link.quiet }
    cart := { s.cart with eject := s.cart.eject.map fun e => { e with window := Timer.down e.window } }
    spin := { s.spin with
      gap := min (s.spin.gap + 1) Config.gapMax, kick := Timer.down s.spin.kick,
      spinUp := Timer.down s.spin.spinUp, stop := Timer.down s.spin.stop,
      brake := Timer.down s.spin.brake }
    clk := { s.clk with miss := Timer.down s.clk.miss }
    pos := { s.pos with load := Timer.down s.pos.load, retract := Timer.down s.pos.retract,
                        emergency := Timer.down s.pos.emergency }
    record := { s.record with
      copyWrite := s.record.copyWrite.map fun c => { c with timer := Timer.down c.timer } }
    chan := { s.chan with
      readyTimer := Timer.down s.chan.readyTimer, gateWait := Timer.down s.chan.gateWait
      outstanding := s.chan.outstanding.map fun o => { o with timer := Timer.down o.timer } }
    fmt := s.fmt.map fun f => { f with waits := f.waits.map fun w => (w.1, w.2 - 1) }
    rest := { s.rest with timer := Timer.down s.rest.timer } }

/-- An expiry that has come is worked out. -/
def expire (t : State → Timer) (f : State → State) (s : State) : State :=
  if t s = some 0 then f s else s

/-- The release window of a running eject. -/
def windowTimer (s : State) : Timer := s.cart.eject.bind Eject.window

/-- The data timer of the oldest request. -/
def requestTimer (s : State) : Timer := s.chan.outstanding.head?.bind Outstanding.timer

/-- The attempt timer of a copy write. -/
def attemptTimer (s : State) : Timer := s.record.copyWrite.bind CopyWrite.timer

/-- The expiries of the link and of the spindle. -/
def expireDrive (s : State) : State :=
  let s := expire (fun s => s.link.gap) byteGapExpires s
  let s := expire (fun s => s.link.quiet) quietExpires s
  let s := expire windowTimer windowExpires s
  let s := expire (fun s => s.spin.kick) kickExpires s
  let s := expire (fun s => s.spin.spinUp) spinUpExpires s
  let s := expire (fun s => s.spin.stop) stopExpires s
  let s := expire (fun s => s.spin.brake) brakeExpires s
  let s := if s.spin.state = .accel ∧ s.spin.gap = Config.gapMax then accelSaturates s else s
  if Config.gapLimit < s.spin.gap then indexLost s else s

/-- The expiries of the heads, of the transfers and of the rest. -/
def expireHeads (s : State) : State :=
  let s := expire (fun s => s.clk.miss) missDeclared s
  let s := expire (fun s => s.pos.load) (fun s => loadExpires s.pins.park s) s
  let s := expire (fun s => s.pos.retract) retractExpires s
  let s := expire (fun s => s.pos.emergency) emergencyExpires s
  let s := expire attemptTimer copyAttemptExpires s
  let s := expire requestTimer dataTimes s
  let s := expire (fun s => s.chan.readyTimer) dataTimes s
  let s := expire (fun s => s.chan.gateWait) gateWaitExpires s
  let s := settle s
  expire (fun s => s.rest.timer) restExpires s

/-- One tick of 1 µs. -/
def tick (s : State) : State := expireHeads (expireDrive (countDown s))

/-- The part with no command waiting and RST released. -/
def proceed (s : State) : State :=
  match internalStep s with
  | some s' => s'
  | none => tick s

/-- The part with no command waiting. -/
def idle (s : State) : State := unlessReset proceed s

end Sys2Proof.Machine
end

