-- ==== Sys2Proof/Machine/Dispatch.lean ====
section
/-! DEFINITION. The dispatch: one arm for each row of spec/opcode_table.json. -/

namespace Sys2Proof.Machine

def exec (i : Instr) (s : State) : Host.Outcome State Fault Refusal :=
  match i with
  | .commandFrame body => Sys2Proof.Machine.execCommandFrame body s
  | .dataFrame body => Sys2Proof.Machine.execDataFrame body s
  | .receiveError e => Sys2Proof.Machine.execReceiveError e s
  | .byteGapExpiry => Sys2Proof.Machine.execByteGapExpiry s
  | .discardQuietExpiry => Sys2Proof.Machine.execDiscardQuietExpiry s
  | .busGrant => Sys2Proof.Machine.execBusGrant s
  | .dirLowDuringSend => Sys2Proof.Machine.execDirLowDuringSend s
  | .frameSent => Sys2Proof.Machine.execFrameSent s
  | .kindByteTakesPlace => Sys2Proof.Machine.execKindByteTakesPlace s
  | .replyTakesPlace => Sys2Proof.Machine.execReplyTakesPlace s
  | .hardReset levels => Sys2Proof.Machine.execHardReset levels s
  | .spinUp => Sys2Proof.Machine.execSpinUp s
  | .spinDown => Sys2Proof.Machine.execSpinDown s
  | .seek => Sys2Proof.Machine.execSeek s
  | .read => Sys2Proof.Machine.execRead s
  | .write => Sys2Proof.Machine.execWrite s
  | .verify => Sys2Proof.Machine.execVerify s
  | .reassign => Sys2Proof.Machine.execReassign s
  | .format => Sys2Proof.Machine.execFormat s
  | .rest => Sys2Proof.Machine.execRest s
  | .eject => Sys2Proof.Machine.execEject s
  | .readTable => Sys2Proof.Machine.execReadTable s
  | .setParameter => Sys2Proof.Machine.execSetParameter s
  | .saveSettings => Sys2Proof.Machine.execSaveSettings s
  | .saveSettingsReadBack area => Sys2Proof.Machine.execSaveSettingsReadBack area s
  | .loadDefaults => Sys2Proof.Machine.execLoadDefaults s
  | .sense tag => Sys2Proof.Machine.execSense tag s
  | .clearAttention tag causes => Sys2Proof.Machine.execClearAttention tag causes s
  | .abort tag => Sys2Proof.Machine.execAbort tag s
  | .hold tag => Sys2Proof.Machine.execHold tag s
  | .release tag => Sys2Proof.Machine.execRelease tag s
  | .reset tag => Sys2Proof.Machine.execReset tag s
  | .cancelledCommandTakesSlot => Sys2Proof.Machine.execCancelledCommandTakesSlot s
  | .autoStart => Sys2Proof.Machine.execAutoStart s
  | .buttonEject => Sys2Proof.Machine.execButtonEject s
  | .timedWake => Sys2Proof.Machine.execTimedWake s
  | .softResetPark => Sys2Proof.Machine.execSoftResetPark s
  | .insertion notchA notchB wprot => Sys2Proof.Machine.execInsertion notchA notchB wprot s
  | .seatedFalling => Sys2Proof.Machine.execSeatedFalling s
  | .ejectButtonPress => Sys2Proof.Machine.execEjectButtonPress s
  | .releaseWindowExpiry => Sys2Proof.Machine.execReleaseWindowExpiry s
  | .indexArrival sig => Sys2Proof.Machine.execIndexArrival sig s
  | .kickTimerExpiry => Sys2Proof.Machine.execKickTimerExpiry s
  | .accelGapSaturation => Sys2Proof.Machine.execAccelGapSaturation s
  | .spinUpTimerExpiry => Sys2Proof.Machine.execSpinUpTimerExpiry s
  | .indexLoss => Sys2Proof.Machine.execIndexLoss s
  | .stopTimerExpiry => Sys2Proof.Machine.execStopTimerExpiry s
  | .brakeTimerExpiry => Sys2Proof.Machine.execBrakeTimerExpiry s
  | .markStrobe cylinder pe withIndex park sig => Sys2Proof.Machine.execMarkStrobe cylinder pe withIndex park sig s
  | .missingSampleDeclaration => Sys2Proof.Machine.execMissingSampleDeclaration s
  | .servoLoss => Sys2Proof.Machine.execServoLoss s
  | .seekTimeout => Sys2Proof.Machine.execSeekTimeout s
  | .loadTimerExpiry park => Sys2Proof.Machine.execLoadTimerExpiry park s
  | .retractTimerExpiry => Sys2Proof.Machine.execRetractTimerExpiry s
  | .emergencyTimerExpiry => Sys2Proof.Machine.execEmergencyTimerExpiry s
  | .parkRises => Sys2Proof.Machine.execParkRises s
  | .writeFault => Sys2Proof.Machine.execWriteFault s
  | .dataTimerExpiry => Sys2Proof.Machine.execDataTimerExpiry s
  | .gateWaitTimerExpiry => Sys2Proof.Machine.execGateWaitTimerExpiry s
  | .formatReadWaitExpiry => Sys2Proof.Machine.execFormatReadWaitExpiry s
  | .copyAttemptTimerExpiry => Sys2Proof.Machine.execCopyAttemptTimerExpiry s
  | .supwarnFalls => Sys2Proof.Machine.execSupwarnFalls s
  | .supwarnRises => Sys2Proof.Machine.execSupwarnRises s
  | .restTimerExpiry => Sys2Proof.Machine.execRestTimerExpiry s
  | .byteReceived data dp => Sys2Proof.Machine.execByteReceived data dp s

end Sys2Proof.Machine
end

