-- ==== Sys2Proof/Safety.lean ====
section
/-! DEFINITION. What counts as a safe state of the part, law by law, in the terms of the spec. Each
law is a decidable condition on a state; the certificates say that every step keeps it. -/

namespace Sys2Proof.Machine

/-- The positioner keeps the heads off the platter or is bringing them home (R37). -/
def PosState.home (p : PosState) : Bool := p == .parked || p == .retracting || p == .emergency

/-- The law of R37: the heads fly only over a platter that is AT_SPEED, and a spindle that starts or
brakes has the heads PARKED. -/
def SpindleLaw (s : State) : Prop :=
  match s.spin.state with
  | .atSpeed => True
  | .kick => s.pos.state = .parked
  | .accel => s.pos.state = .parked
  | .regulate => s.pos.state = .parked
  | .braking => s.pos.state = .parked
  | .stopped => s.pos.state.home = true
  | .coasting => s.pos.state.home = true

/-- A sector write is in progress (R122). -/
def writing (s : State) : Bool :=
  match s.chan.op with
  | some (.write _ _) => true
  | _ => false

/-- The law of the write gate (R121, R59, R124): WGATE is asserted exactly while a sector write is in
progress, and then the positioner is FOLLOWING, the clock MARK_LOCKED and the spindle AT_SPEED. With
WGATE off the write current output is 0. -/
def GateLaw (s : State) : Prop :=
  s.chan.wgate = writing s
  ∧ (s.chan.wgate = true →
      s.pos.state = .following ∧ s.clk.locked = true ∧ s.spin.state = .atSpeed)
  ∧ (s.chan.wgate = false → s.chan.writeCurrent = 0)

/-- The law of R175: at most 4 commands wait, and at most 8 places of the outbox are used. The second
clause is the model's: a soft reset in the slot is one of the RESET commands not yet answered. -/
def BoundsLaw (s : State) : Prop :=
  s.cu.queue.length ≤ 4 ∧ placesUsed s ≤ 8
  ∧ ∀ tag, s.cu.slot.item = .softReset tag → s.cu.resets ≠ []

/-- The queued commands that are in the slot. -/
def slotCommands (s : State) : Nat :=
  match s.cu.slot.item with
  | .command _ => 1
  | _ => 0

/-- The replies to queued commands in the outbox. -/
def queuedReplies (s : State) : Nat := s.link.outbox.countP fun r => r.queued

/-- The count of R177. -/
def countBalance (s : State) : Prop :=
  s.cu.accepted = s.cu.repliesSent + queuedReplies s + s.cu.queue.length + slotCommands s

/-- The part is sending a data request of the executing WRITE, one that is not withdrawn (R192). -/
def sendsRequest (s : State) : Bool :=
  match s.link.send with
  | some (.request _ _) => true
  | _ => false

/-- The law of R177: the count; besides, a reply being sent is the oldest of the outbox and a data request
being sent the oldest of the outbound line (R192), and the reply-waiting mark stands for a queued command's
reply. -/
def CountLaw (s : State) : Prop :=
  countBalance s
  ∧ (∀ r, s.link.send = some (.reply r) → s.link.outbox.head? = some r)
  ∧ (∀ tag i, s.link.send = some (.request tag i) → s.link.line.head? = some (tag, i))
  ∧ (∀ r, s.cu.slot.work = .replying r → r.queued = true ∧ slotCommands s = 1)

/-- The ranges of the outputs and counts (R25, R26, R42, R48, R187): of a frame being sent a byte is left to
acknowledge, and with none no byte is counted. -/
def RangeLaw (s : State) : Prop :=
  (∀ f, s.link.send = some f → s.link.acked < f.bytes.length)
  ∧ (s.link.send = none → s.link.acked = 0)
  ∧ s.spin.drive ≤ 255 ∧ s.spin.gap ≤ 1000000 ∧ s.spin.period ≤ 1000000
  ∧ -127 ≤ s.pos.current ∧ s.pos.current ≤ 127
  ∧ s.clk.good ≤ 32 ∧ s.chan.rotation ≤ 31

/-- The law of the clock source (R45): MARK_LOCKED with the count at 32, REFERENCE below it. -/
def ClockLaw (s : State) : Prop := s.clk.good ≤ 32 ∧ (s.clk.locked = true ↔ s.clk.good = 32)

/-- The session is full (R75). -/
def isFull (s : State) : Bool := (fullSession s).isSome

/-- The law of the session (R75): copy status and unsaved flag belong to a full session. -/
def SessionLaw (s : State) : Prop :=
  isFull s = false → s.record.copyStatus = .none ∧ s.record.unsaved = false

/-- The law of the fault slot (R142): a held record counts 1..255. -/
def FaultLaw (s : State) : Prop :=
  ∀ r, s.fault.slot = some r → 1 ≤ r.count ∧ r.count ≤ 255

/-- The law of the zone table (R94, R96): every zone entry in the part is consistent, in the session,
in the working table of a FORMAT and in the copy that a load has kept. The slot that a user check has
in work is a user slot (R137). -/
def ZonesLaw (s : State) : Prop :=
  (∀ r, fullSession s = some r → ∀ z ∈ r.zones, z.consistent r.type = true)
  ∧ (∀ f, s.fmt = some f → (∀ z ∈ f.zones, z.consistent f.type = true)
      ∧ (f.phase = .verifying → f.step ≠ .track
          ∧ (f.userPart = true → userSlot f f.index < f.type.userSlots)))
  ∧ (∀ l c, s.record.load = some l → l.copy0 = some c →
      ∀ z ∈ c.session.zones, z.consistent c.session.type = true)

/-- The stages of REST entry (R162). -/
def Work.rests (w : Work) : Bool := w == .restSave || w == .restPark || w == .restStop

/-- The work during which a rest state may stand: the slot is free, SAVE SETTINGS writes, or a reply
waits. -/
def Work.still : Work → Bool
  | .idle => true
  | .saving => true
  | .replying _ => true
  | _ => false

/-- The copy writes that may be in progress at this stage of the slot: those of a write-back (R88) or of a
FORMAT (R134, R138), while their item waits for them. -/
def copyOwned (s : State) : Prop :=
  match s.cu.slot.work with
  | .reloadSave => True
  | .restSave => True
  | .downSave => True
  | .data => s.chan.gateWait = none ∧ ∃ t, s.chan.transfer = some t ∧ t.phase = .save
  | .reassign => s.chan.gateWait = none ∧ ∃ r, s.chan.reassign = some r ∧ r.phase = .save
  | .format => ∃ f, s.fmt = some f ∧ f.step = .copies
  | .eject => ∃ e, s.cart.eject = some e ∧ e.stage = .writeBack
  | _ => False

/-- Each context belongs to the item in the slot that works on it (R75, R110, R131), and a RELEASED
cartridge to an eject in its stage of leave or jam (R18). The law is the model's own: it says of the
states what R173 says of the slot, that it holds one item. -/
def ContextLaw (s : State) : Prop :=
  (s.cu.slot.item = .free → s.cu.slot.work = .idle)
  ∧ (s.record.load ≠ none → s.cu.slot.work = .startLoad ∨ s.cu.slot.work = .reloadLoad)
  ∧ (s.record.copyWrite ≠ none → copyOwned s)
  ∧ (s.chan.transfer ≠ none → s.cu.slot.work = .data)
  ∧ (s.chan.reassign ≠ none → s.cu.slot.work = .reassign)
  ∧ (s.fmt ≠ none → s.cu.slot.work = .format)
  ∧ (s.cart.state = .released →
      s.cu.slot.work = .eject ∧ ∃ e, s.cart.eject = some e ∧ e.stage = .leaveOrJam)
  ∧ s.cart.origin ≠ some .released

/-- The law of rest control (R160): a rest state stands only with the cartridge READY or BLANK and the
positioner PARKED, RETRACTING or in EMERGENCY, and in STANDBY the spindle is BRAKING or STOPPED. The other
clauses make it a law that every step keeps: during a rest no start is pending in STANDBY, no target
request is held and nothing works in the slot; and REST entry has come so far that the rest it enters
meets the law. -/
def RestLaw (s : State) : Prop :=
  (s.rest.state ≠ .none →
    (s.cart.state = .ready ∨ s.cart.state = .blank) ∧ s.pos.state.home = true ∧ s.pos.held = none
    ∧ s.cu.slot.work.still = true
    ∧ (s.rest.state = .standby →
        (s.spin.state = .braking ∨ s.spin.state = .stopped) ∧ s.spin.pendingStart = false))
  ∧ (s.cu.slot.work.rests = true → s.cart.state = .ready ∨ s.cart.state = .blank)
  ∧ (s.cu.slot.work = .restPark ∨ s.cu.slot.work = .restStop →
      s.pos.state.home = true ∧ s.pos.held = none)
  ∧ (s.cu.slot.work = .restStop → s.pos.state = .parked ∧ s.spin.pendingStart = false
      ∧ (s.spin.state = .braking ∨ s.spin.state = .stopped ∨ s.spin.state = .coasting))
  ∧ (s.pos.state ≠ .retracting → s.pos.state ≠ .emergency → s.pos.held = none)

/-- The law of the latch (R18): while LATCH is asserted the cartridge is RELEASED, the spindle STOPPED and
the positioner PARKED; and the slot holds the eject, in its stage of leave or jam. -/
def LatchLaw (s : State) : Prop :=
  s.cart.latch = true →
    s.cart.state = .released ∧ s.spin.state = .stopped ∧ s.pos.state = .parked
    ∧ s.cu.slot.item ≠ .free ∧ s.cu.slot.work = .eject
    ∧ ∃ e, s.cart.eject = some e ∧ e.stage = .leaveOrJam

/-- A step has worked out every answer between blocks (the model's own transient fields). -/
def NoMail (s : State) : Prop := s.mail = Mail.none

/-- No block works for an item of the slot, and nothing of an ended item is left (R110, R131, R139,
R177). With the outbound line empty no data request is being sent (R192; a clause of `CountLaw`). -/
abbrev NoWork (s : State) : Prop :=
  s.record.load = none ∧ s.record.copyWrite = none ∧ s.chan.transfer = none ∧ s.chan.reassign = none
  ∧ s.fmt = none ∧ s.chan.op = none ∧ s.chan.slot0 = .free ∧ s.chan.slot1 = .free
  ∧ s.chan.outstanding = [] ∧ s.chan.readyTimer = none ∧ s.chan.gateWait = none ∧ s.link.line = []
  ∧ sendsRequest s = false ∧ s.pos.requester = none ∧ s.pos.held = none
  ∧ s.cart.origin = none ∧ s.cart.eject = none
  ∧ s.mail = Mail.none

/-- The slot is free and no work is in hand: the state of the part between two items. -/
abbrev Quiet (s : State) : Prop := s.cu.slot = Slot.free ∧ NoWork s

/-! ### Terms of the statements about single commands -/

/-- The row acts, if its moment has come. -/
def due (now : Prop) [Decidable now] (c : Instr) (s : State) : State :=
  if now then
    match exec c s with
    | .next t => t
    | _ => s
  else s

/-- The queued commands with their codes (R194). -/
def queuedRows : List (Byte × Instr) :=
  [(0x10#8, .spinUp), (0x11#8, .spinDown), (0x12#8, .seek), (0x13#8, .read), (0x14#8, .write),
   (0x15#8, .verify), (0x16#8, .reassign), (0x17#8, .format), (0x18#8, .rest), (0x19#8, .eject),
   (0x1A#8, .readTable), (0x1B#8, .setParameter), (0x1C#8, .saveSettings), (0x1D#8, .loadDefaults)]

/-- A command frame can be received whole (R189, R191, R193): RST is released, the part does not send, the
assembly is not in DISCARD, and the frame has an outbox place. -/
abbrev Receives (s : State) : Prop :=
  s.pins.rst = false ∧ s.link.send = none ∧ s.link.assembly ≠ .discard
  ∧ (s.link.heldFrame = true ∨ placesUsed s < 8)

/-- A frame has been received whole (R189, R191): DIR was low, the assembly is IDLE, and the place held
for the frame is given up. -/
def received (s : State) : State :=
  { s with
    pins := { s.pins with dir := false }
    link := { s.link with assembly := .idle, gap := none, quiet := none, heldFrame := false,
                          kindWaiting := false } }

/-- A receive error that leads to DISCARD (R190). -/
def discarded (s : State) : State :=
  { s with
    pins := { s.pins with dir := false }
    cu := { s.cu with attention := s.cu.attention ||| 0x0200#16 }
    link := { s.link with assembly := .discard, gap := none, quiet := some 100000,
                          heldFrame := false, kindWaiting := false } }

/-- A reply stands at the end of the outbox. -/
def replied (r : Reply) (s : State) : State :=
  { s with link := { s.link with outbox := s.link.outbox ++ [r] } }

/-- The unmarked command `e` with this code is at the queue head and takes the slot now (R176); RST is
released. -/
abbrev Waiting (code : Byte) (e : Entry) (s : State) : Prop :=
  s.pins.rst = false ∧ Quiet s ∧ s.cu.resets = [] ∧ s.cu.pendEject = false
  ∧ s.cu.queue.head? = some e ∧ e.code = code
  ∧ e.cancelled = false

/-- The command `e` has left the queue and works in the slot, at this stage. -/
def begun (e : Entry) (w : Work) (s : State) : State :=
  { s with cu := { s.cu with queue := s.cu.queue.tail
                             slot := { Slot.free with item := .command e, work := w } } }

/-- The command `e` has left the queue and is answered at once (R177): its reply is in the outbox and
the slot is free, or with no place free the reply waits in the slot. -/
def answered (e : Entry) (o : OutcomeCode) (fields : List Byte) (s : State) : State :=
  let r : Reply := { tag := e.tag, code := e.code, outcome := o, fields, queued := true }
  if placesUsed s < 8 then replied r { s with cu := { s.cu with queue := s.cu.queue.tail } }
  else begun e (.replying r) s

/-- Every command of the queue is marked cancelled (R175). -/
def marked (s : State) : State :=
  { s with cu := { s.cu with queue := s.cu.queue.map fun e => { e with cancelled := true } } }

/-- The rest has ended (R164). -/
def rested (s : State) : State :=
  { s with rest := { s.rest with state := .none, timer := none }
           cu := { s.cu with pendWake := false } }

/-- What the slot holds after a fault of this class is raised now, and attention FAULT (R143, R144). -/
def recorded (cls : FaultClass) (s : State) : State :=
  { s with
    fault := { s.fault with slot := some (offerTo s.fault.slot (formRecord cls s)) }
    cu := { s.cu with attention := s.cu.attention ||| 0x0020#16 } }

/-- The holder has given up its record, if it held one (R154, R155): it is offered to the slot, with attention
FAULT (R144). -/
def released (s : State) : State :=
  match s.fault.holder with
  | none => s
  | some h => { s with
      fault := { s.fault with slot := some (offerTo s.fault.slot h), holder := none }
      cu := { s.cu with attention := s.cu.attention ||| 0x0020#16 } }

/-- The sector write at this place is cut (R124, R155): the gate closes, the block, the spare or the sector of
a FORMAT is torn (R105, R139), and the holder gives up its record. -/
def severed (p : Place) (s : State) : State :=
  let shut : Channel := { s.chan with op := none, wgate := false, writeCurrent := 0 }
  released (if s.record.copyWrite.isSome then { s with chan := shut } else { s with
    chan := { shut with
      transfer := s.chan.transfer.map fun t => { t with torn := some (t.first + t.idx) }
      reassign := s.chan.reassign.map fun r => { r with torn := true } }
    fmt := s.fmt.map fun f => { f with torn := some p } })

/-- The answers that the end of a sector write with this fault leaves under way (R112, R146). -/
def wroteWith (x : SectorResult) (c : FaultClass) (s : State) : State :=
  { s with mail := { Mail.none with sector := some x, note := if executing s then some c else none } }

/-- A spindle that turned, or was to turn, brakes (R38), its start withdrawn (R37). -/
def brakes (p : Spindle) : Spindle :=
  { p with state := .braking, drive := 0, deviating := false, kick := none, spinUp := none,
           stop := some 1000000, brake := some 10000000, brakeFailed := false,
           pendingStart := false }

/-- A stopped spindle has entered KICK (R29). -/
def kicks (p : Spindle) : Spindle :=
  { p with state := .kick, drive := 255, inCount := 0, outCount := 0, kick := some 3000000,
           spinUp := some 15000000, deviating := false, pendingStart := false }

/-- A spindle AT_SPEED that is let run down (R39). -/
def coasts (p : Spindle) : Spindle :=
  { p with state := .coasting, drive := 0, deviating := false, kick := none, spinUp := none }

/-- The positioner has entered RETRACTING with PARK low, and the clock has fallen back (R65, R46). -/
def retracts (s : State) : State :=
  { s with
    clk := { locked := false, good := 0, miss := none }
    pos := { s.pos with
      state := .retracting, current := -40, target := none, requester := none, settle := 0,
      offTrack := 0, missing := 0, seekCount := 0, restartUsed := false, load := none,
      retract := some 300000, landHere := false } }

/-- The positioner has entered EMERGENCY with PARK low, and the clock has fallen back (R66, R46). -/
def inEmergency (s : State) : State :=
  { s with
    clk := { locked := false, good := 0, miss := none }
    pos := { s.pos with
      state := .emergency, current := -60, target := none, requester := none, held := none,
      settle := 0, offTrack := 0, missing := 0, seekCount := 0, restartUsed := false, load := none,
      retract := none, emergency := some 2000000, landHere := false } }

/-- The positioner has entered PARKED, and the clock has fallen back (R68, R46). -/
def parks (s : State) : State :=
  { s with
    clk := { locked := false, good := 0, miss := none }
    pos := { s.pos with
      state := .parked, current := 0, target := none, requester := none, held := none, settle := 0,
      offTrack := 0, missing := 0, seekCount := 0, restartUsed := false, load := none,
      retract := none, emergency := none, landHere := false } }

/-- The item in the slot has ended (R110, R126, R131, R139, R177): its contexts are absent, its timers
stopped, the buffer is empty, no request of its own is outstanding, and it waits for no target. A request
held during a retract stays held (R51). -/
def cleared (s : State) : State :=
  { s with
    link := { s.link with line := [], send := s.link.send.map Outbound.withdraw }
    pos := { s.pos with requester := none, held := s.pos.held.map fun h => (h.1, none) }
    chan := { s.chan with transfer := none, reassign := none, slot0 := .free, slot1 := .free
                          outstanding := [], readyTimer := none, gateWait := none }
    fmt := none
    cart := { s.cart with origin := none, eject := none }
    mail := Mail.none }

/-- The command `e` in the slot has ended (R177): its reply is in the outbox and the slot is free, or with
no place free the reply waits in the slot. -/
def ended (e : Entry) (o : OutcomeCode) (fields : List Byte) (s : State) : State :=
  let r : Reply := { tag := e.tag, code := e.code, outcome := o, fields, queued := true }
  if placesUsed s < 8 then replied r { cleared s with cu := { s.cu with slot := Slot.free } }
  else { cleared s with cu := { s.cu with slot := { s.cu.slot with work := .replying r } } }

/-- An internal operation has ended: it makes no reply (R177). -/
def finished (s : State) : State := { cleared s with cu := { s.cu with slot := Slot.free } }

/-- The item in the slot has ended: a queued command is answered, an internal operation makes no reply
(R177). -/
def itemEnded (i : Item) (o : OutcomeCode) (fields : List Byte) (s : State) : State :=
  match i with
  | .command e => ended e o fields s
  | _ => finished s

/-- The result fields of a READ, VERIFY or WRITE with this context (R195). -/
def dataFields (t : Transfer) : List Byte :=
  [byte t.count, byte t.done] ++
    match t.cmd with
    | .write => opt32 t.torn ++ [byte t.reassigned, byte t.result.code]
    | _ => opt32 t.failing

/-- The code of a READ, WRITE or VERIFY (R194). -/
def dataCode : DataCommand → Byte
  | .read => 0x13#8
  | .write => 0x14#8
  | .verify => 0x15#8

/-- No frame is left that an ended data command waits for (R118, R126). -/
def framesGone (t : Transfer) (s : State) : Prop :=
  match t.cmd with
  | .read => (∀ i d, s.link.send ≠ some (.data i d)) ∧ readyFrame s = none
  | .write => s.chan.outstanding = []
  | .verify => True

/-- A READ, WRITE or VERIFY works no more (R114, R126): it waits for no target and at no gate, and a WRITE
keeps of its buffer only the slots whose request has been sent whole. -/
def cutShort (t : Transfer) (s : State) : State :=
  let slot (b : BufSlot) : BufSlot :=
    match t.cmd, b with
    | .write, .awaiting i => if s.link.line.any (fun l => l.2 == i) then .free else .awaiting i
    | .write, _ => .free
    | _, b => b
  { s with
    chan := { s.chan with slot0 := slot s.chan.slot0, slot1 := slot s.chan.slot1, gateWait := none }
    link :=
      match t.cmd with
      | .write => { s.link with line := [], send := s.link.send.map Outbound.withdraw }
      | _ => s.link
    pos := { s.pos with requester := none, held := s.pos.held.map fun h => (h.1, none) } }

/-- A data command with this context has ended with this outcome (R118, R126): it is answered from `s` at
once if no frame of its is left, and otherwise waits for its frames in `v`. -/
def answersData (e : Entry) (t : Transfer) (o : OutcomeCode) (s v u : State) : Prop :=
  (framesGone t s → u = ended e o (dataFields t) s)
  ∧ (¬ framesGone t s →
      u = { v with chan := { v.chan with transfer := some { t with outcome := o, phase := .drain } } })

/-- A data command with its reassignment mark has ended with this outcome, and its write-back has begun
(R126). -/
def savesData (t : Transfer) (o : OutcomeCode) (s u : State) : Prop :=
  u.chan.transfer = some { t with outcome := o, phase := .save } ∧ u.chan.gateWait = none
  ∧ u.record.copyWrite ≠ none ∧ u.record.session = s.record.session ∧ u.cu = s.cu

/-- No read offset is in use (R114). -/
abbrev Level (s : State) : Prop := ∀ g, s.pos.target = some g → g.offset = 0

/-- A write-back asked for now begins (R88, R89): a full session on a cartridge that is not
write-protected, the heads FOLLOWING with no sector in work and no offset in use. -/
abbrev Saveable (s : State) : Prop :=
  s.cart.wp = false ∧ s.pos.state = .following ∧ s.chan.op = none ∧ isFull s = true ∧ Level s

/-- The class 1–3 faults (R142). -/
def classes13 : List FaultClass := [.supplyLoss, .stallSpinUp, .stallIndexLoss, .stallBrake, .servoLoss]

/-- The three forms of SEEK FAILED (R152). -/
def seekFailures : List FaultClass := [.seekLoad, .seekSeek, .seekPark]

/-- A fault's End has reached the items of the slot (R146). -/
def noted (cls : FaultClass) (s : State) : State := { s with mail := { s.mail with note := some cls } }

/-- The write-back that the item asked for has this result (R91). -/
def savedAs (r : RecordResult) (s : State) : State := { s with mail := { s.mail with saved := some r } }

/-- The channel answers about the sector in work (R112, R122, R124). -/
def sectorIs (r : SectorResult) (s : State) : State :=
  { s with mail := { s.mail with sector := some r } }

/-- The item in the slot stands at this stage, between two events, and no record is read or written. -/
abbrev Stage (i : Item) (w : Work) (s : State) : Prop :=
  s.cu.slot.item = i ∧ s.cu.slot.work = w ∧ s.mail = Mail.none ∧ s.record.load = none
  ∧ s.record.copyWrite = none

/-- The positioner takes a target from PARKED (R52). -/
def loads (t : Target) (q : Option Requester) (s : State) : State :=
  { s with pos := { s.pos with
      state := .loading, current := 20, target := some t, requester := q, settle := 0, offTrack := 0
      missing := 0, seekCount := 0, restartUsed := false, xp := none, load := some 500000
      resume := t.cyl, landHere := false } }

/-- The load conditions of R52. -/
abbrev Loadable (s : State) : Prop :=
  s.spin.state = .atSpeed ∧ class13Held s = false ∧ s.cart.type ≠ none

/-- The bytes of a frame are received one after another with correct parity (R188, R189). -/
def receiveBytes : List Byte → State → State
  | [], s => s
  | b :: bs, s => receiveBytes bs (byteReceived b (oddParity b) s)

end Sys2Proof.Machine
end

