-- ==== Sys2Proof/Certificates/Slice0/Obligations.lean ====
section
/-! DEFINITION. The statements for the provers. First the machine as a whole (the step, the laws that
every step keeps, the rules of the manual over all commands), then the computations and tables, then
each family of commands: what a command does, and with it what it leaves unchanged, as an equation for
the whole next state. `settle` (Machine/Settle.lean) is what the executing item then makes of the
event; on a part with no work in hand it changes nothing (`settle_quiet` of Laws/Ops.lean). -/

open Sys2Proof Sys2Proof.Machine

/-! ### The machine as a whole -/

/-- A step takes the command at the front of the queue. With no command waiting the part takes an
enabled internal step, or else a tick of 1 µs; the order in which it does so is the model's choice (log
entry 4). While RST stays asserted it does neither (log entry 48). The internal step is what a row of the
table does, and which row it is goes by R177, R191 and R176; that the queue head goes before AUTO START and
TIMED WAKE is the model's choice (log entry 4). In a tick every running timer has a microsecond less and the
gap timer one more (R25), and then each row whose moment has come acts; their order within the tick is the
model's choice too (log entry 4), and a frame being sent may have one more byte acknowledged (log entry 16).
The waits of a FORMAT act by `settle`. -/
def Obligations.StepTakesTheFrontCommand : Prop :=
  (∀ (c : Instr) (rest : List Instr) (s : State),
    step { s with pending := c :: rest } = exec c { s with pending := rest })
  ∧ (∀ s : State, s.pending = [] →
      (s.pins.rst = false → ∀ t, internalStep s = some t → step s = .next t)
      ∧ (s.pins.rst = false → internalStep s = none → step s = .next (tick s))
      ∧ (s.pins.rst = true → step s = .next s))
  ∧ (∀ s : State, s.pins.rst = false →
      let runs (c : Instr) : Prop := ∃ t, internalStep s = some t ∧ exec c s = .next t
      let reply := placesUsed s < 8 ∧ ∃ r, s.cu.slot.work = .replying r
      let kind := placesUsed s < 8 ∧ s.link.kindWaiting = true
      let free := ¬ reply ∧ ¬ kind ∧ s.cu.slot.item = .free
      let ready := free ∧ s.cu.resets = [] ∧ s.cu.pendEject = false
      let marked := ∃ e, s.cu.queue.head? = some e ∧ e.cancelled = true
      (reply → runs .replyTakesPlace)
      ∧ (¬ reply → kind → runs .kindByteTakesPlace)
      ∧ (¬ reply → ¬ kind → s.cu.slot.item ≠ .free → internalStep s = none)
      ∧ (free → s.cu.resets ≠ [] → ¬ marked → runs .softResetPark)
      ∧ (free → s.cu.resets = [] → s.cu.pendEject = true → runs .buttonEject)
      ∧ (free → marked → s.cu.resets ≠ [] ∨ s.cu.pendEject = false → runs .cancelledCommandTakesSlot)
      ∧ (∀ e code c, ready → s.cu.queue.head? = some e → e.cancelled = false → e.code = code →
          (code, c) ∈ queuedRows → runs c)
      ∧ (ready → s.cu.queue = [] → s.cu.pendAuto = true → runs .autoStart)
      ∧ (ready → s.cu.queue = [] → s.cu.pendAuto = false → s.cu.pendWake = true → runs .timedWake)
      ∧ (ready → s.cu.queue = [] → s.cu.pendAuto = false → s.cu.pendWake = false →
          internalStep s = none))
  ∧ ∀ s : State, s.pins.rst = false →
      let less (t : Timer) : Timer := t.map fun n => n - 1
      countDown s = { s with
        link := { s.link with
          gap := less s.link.gap, quiet := less s.link.quiet
          acked := match s.link.send with
            | some f =>
              if Config.hostAcknowledges s.freeUsed = true then min (s.link.acked + 1) (f.bytes.length - 1)
              else s.link.acked
            | none => s.link.acked }
        freeUsed := s.freeUsed + (if s.link.send = none then 0 else 1)
        cart := { s.cart with eject := s.cart.eject.map fun e => { e with window := less e.window } }
        spin := { s.spin with
          gap := min (s.spin.gap + 1) 1000000, kick := less s.spin.kick, spinUp := less s.spin.spinUp
          stop := less s.spin.stop, brake := less s.spin.brake }
        clk := { s.clk with miss := less s.clk.miss }
        pos := { s.pos with
          load := less s.pos.load, retract := less s.pos.retract, emergency := less s.pos.emergency }
        record := { s.record with
          copyWrite := s.record.copyWrite.map fun c => { c with timer := less c.timer } }
        chan := { s.chan with
          readyTimer := less s.chan.readyTimer, gateWait := less s.chan.gateWait
          outstanding := s.chan.outstanding.map fun o => { o with timer := less o.timer } }
        fmt := s.fmt.map fun f => { f with waits := f.waits.map fun w => (w.1, w.2 - 1) }
        rest := { s.rest with timer := less s.rest.timer } }
      ∧ tick s =
        let s := countDown s
        let s := due (s.link.gap = some 0) .byteGapExpiry s
        let s := due (s.link.quiet = some 0) .discardQuietExpiry s
        let s := due (∃ e ∈ s.cart.eject, e.window = some 0) .releaseWindowExpiry s
        let s := due (s.spin.kick = some 0) .kickTimerExpiry s
        let s := due (s.spin.spinUp = some 0) .spinUpTimerExpiry s
        let s := due (s.spin.stop = some 0) .stopTimerExpiry s
        let s := due (s.spin.brake = some 0) .brakeTimerExpiry s
        let s := due (s.spin.state = .accel ∧ s.spin.gap = 1000000) .accelGapSaturation s
        let s := due (50000 < s.spin.gap) .indexLoss s
        let s := due (s.clk.miss = some 0) .missingSampleDeclaration s
        let s := due (s.pos.load = some 0) (.loadTimerExpiry s.pins.park) s
        let s := due (s.pos.retract = some 0) .retractTimerExpiry s
        let s := due (s.pos.emergency = some 0) .emergencyTimerExpiry s
        let s := due (∃ c ∈ s.record.copyWrite, c.timer = some 0) .copyAttemptTimerExpiry s
        let s := due (∃ o ∈ s.chan.outstanding.head?, o.timer = some 0) .dataTimerExpiry s
        let s := due (s.chan.readyTimer = some 0) .dataTimerExpiry s
        let s := due (s.chan.gateWait = some 0) .gateWaitTimerExpiry s
        due ((settle s).rest.timer = some 0) .restTimerExpiry (settle s)

/-- Every command and every step answer a next state in every state (totality), and leave the commands
that wait outside the part as they are: a command takes none of them, and a step the one at the front. That
the part has no condition in which it stops is the model's reading of chapter 8, which records each fault
and goes on. -/
def Obligations.EveryCommandCompletes : Prop :=
  (∀ (c : Instr) (s : State), ∃ t, exec c s = .next t ∧ t.pending = s.pending)
  ∧ ∀ s : State, ∃ t, step s = .next t ∧ t.pending = s.pending.tail

/-- The state after a hard reset meets every law, no work is in hand in it, and a hard reset with the
same levels leaves it as it is. The levels and the unwritten settings memory of `State.reset` are the
model's choice (log entries 1 and 2). -/
def Obligations.ResetMeetsTheLaws : Prop :=
  SpindleLaw State.reset ∧ GateLaw State.reset ∧ BoundsLaw State.reset ∧ CountLaw State.reset
  ∧ RangeLaw State.reset ∧ ClockLaw State.reset ∧ SessionLaw State.reset ∧ FaultLaw State.reset
  ∧ ZonesLaw State.reset ∧ NoMail State.reset ∧ Quiet State.reset ∧ ContextLaw State.reset
  ∧ RestLaw State.reset ∧ LatchLaw State.reset
  ∧ ∀ l : Levels, l.seated = false → l.notchA = false → l.notchB = false → l.wprot = false →
      l.park = true → l.supwarn = true → l.rst = false → exec (.hardReset l) State.reset = .next State.reset

/-- R37: the heads fly only over a platter AT_SPEED, and a platter that starts or brakes has the heads
PARKED. Every step keeps it. -/
def Obligations.SpindleLawKept : Prop :=
  ∀ s t : State, SpindleLaw s → step s = .next t → SpindleLaw t

/-- R121, R59, R124: WGATE is asserted exactly while a sector is being written, with the positioner
FOLLOWING, the clock MARK_LOCKED and the spindle AT_SPEED. Every step keeps it. -/
def Obligations.WriteGateLawKept : Prop :=
  ∀ s t : State, GateLaw s → step s = .next t → GateLaw t

/-- R175, R177: at most 4 commands wait and at most 8 outbox places are used; and the accepted queued
commands are the replies sent, the replies in the outbox, the commands in the queue and the one in the
slot. R192: a reply being sent is the oldest of the outbox, and a data request being sent the oldest of the
outbound line. Every step keeps each. -/
def Obligations.QueueOutboxAndCountKept : Prop :=
  (∀ s t : State, BoundsLaw s → step s = .next t → BoundsLaw t)
  ∧ ∀ s t : State, CountLaw s → step s = .next t → CountLaw t

/-- R94: every zone entry stays consistent, through reassignments, retirements, loads and formats. Every
step keeps it. -/
def Obligations.ZoneTableLawKept : Prop :=
  ∀ s t : State, NoMail s → ZonesLaw s → step s = .next t → ZonesLaw t

/-- R26, R48, R25, R187: the drive level stays within 0..255 and the actuator current within −127..+127,
the period and the gap timer at most 1,000,000, the good-sample count at most 32 and the rotation
position at most 31, and of a frame being sent a byte is left to acknowledge. R45: the clock is MARK_LOCKED
exactly with 32 good samples. R75, R142: copy status and unsaved flag belong to a full session, and a held
fault record counts 1..255. The last law is the model's own: no answer between blocks is left under way.
Every step keeps each. -/
def Obligations.RangesClockSessionAndFaultLawsKept : Prop :=
  (∀ s t : State, RangeLaw s → step s = .next t → RangeLaw t)
  ∧ (∀ s t : State, ClockLaw s → step s = .next t → ClockLaw t)
  ∧ (∀ s t : State, SessionLaw s → step s = .next t → SessionLaw t)
  ∧ (∀ s t : State, FaultLaw s → step s = .next t → FaultLaw t)
  ∧ ∀ s t : State, NoMail s → step s = .next t → NoMail t

/-- R160: a rest state stands only with the cartridge READY or BLANK and the positioner PARKED, RETRACTING
or in EMERGENCY, and in STANDBY the spindle is BRAKING or STOPPED. Every step keeps it, where each context
belongs to the item in the slot (`ContextLaw`), which every step keeps too. -/
def Obligations.RestLawKept : Prop :=
  (∀ s t : State, NoMail s → ContextLaw s → step s = .next t → ContextLaw t)
  ∧ ∀ s t : State, NoMail s → ContextLaw s → RestLaw s → step s = .next t → RestLaw t

/-- R18: while LATCH is asserted the cartridge is RELEASED, the spindle STOPPED and the positioner PARKED.
Every step keeps it, where each context belongs to the item in the slot. -/
def Obligations.LatchLawKept : Prop :=
  ∀ s t : State, ContextLaw s → LatchLaw s → step s = .next t → LatchLaw t

/-- R52, R156: while the fault slot holds a class 1–3 fault, before the step and after it, nothing but a
hard reset takes the positioner out of PARKED; and no sector write begins on a write-protected cartridge
(R121). -/
def Obligations.FaultAndWriteProtectGuard : Prop :=
  (∀ s t : State, s.pos.state = .parked → class13Held s = true →
     (∀ l rest, s.pending ≠ .hardReset l :: rest) →
     step s = .next t → class13Held t = true → t.pos.state = .parked)
  ∧ ∀ s t : State, s.cart.wp = true → s.chan.wgate = false → step s = .next t → t.chan.wgate = false

/-- The rows that the next statement leaves out: CLEAR ATTENTION and a hard reset, which empty the fault
slot (R145), and every COMMAND_FRAME and BYTE_RECEIVED, since the frame that such a row completes may be a
CLEAR ATTENTION. -/
def mayEmptyFaultSlot : Instr → Bool
  | .clearAttention _ _ => true
  | .commandFrame _ => true
  | .byteReceived _ _ => true
  | .hardReset _ => true
  | _ => false

/-- R144, R145: a step of any other row, and a step with no command waiting, keeps the record of the fault
slot, or replaces it by one of higher priority; the count does not fall. -/
def Obligations.FaultRecordKept : Prop :=
  ∀ (s t : State) (r : FaultRecord), FaultLaw s → s.fault.slot = some r →
    (∀ c rest, s.pending = c :: rest → mayEmptyFaultSlot c = false) → step s = .next t →
    ∃ r', t.fault.slot = some r' ∧ r.count ≤ r'.count
      ∧ (r'.cls.priority < r.cls.priority ∨ r' = { r with count := r'.count })

/-! ### The seek computation, the regulator and the clock -/

/-- R54: the current of a sample that finds |r| > 512. `v` is the velocity of R50: 0 on the first sample
after LOADING and after COASTING, and X − Xp otherwise. The target is that of the seek, or the sample's
own cylinder after an aborted SEEK (R72). The one sample excluded is the second timeout of
the seek (R60), whose retract sets the current afresh. -/
def Obligations.CoarseSeekCurrent : Prop :=
  ∀ (s : State) (ty : CartType) (tgt : Target) (cyl : Nat) (pe xp v : Int),
    s.cart.type = some ty →
    (if s.pos.landHere then some { cyl, offset := 0 } else s.pos.target) = some tgt →
    (s.pos.state = .loading ∧ v = 0 ∧ s.pos.xp = none
      ∨ s.pos.state = .coasting ∧ (s.pos.remembered = .seeking ∨ s.pos.remembered = .settling) ∧ v = 0
      ∨ (s.pos.state = .seeking ∨ s.pos.state = .settling) ∧ s.pos.xp = some xp
          ∧ v = 256 * (cyl : Int) + pe - xp) →
    (s.pos.seekCount + 1 < 400 ∨ s.pos.restartUsed = false) →
    let r : Int := 256 * (tgt.cyl : Int) + tgt.offset - (256 * (cyl : Int) + pe)
    512 < |r| →
    let a : Nat := match ty with
      | .a => 40
      | .b => 80
    let vmax : Nat := match ty with
      | .a => 1280
      | .b => 2560
    let vd : Int := (if r < 0 then -1 else 1) * (min vmax (Nat.sqrt (2 * a * r.natAbs)) : Nat)
    let p : Int := (s.set.trims.kv : Int) * (vd - v)
    let q : Int := p / 64 + (if 32 ≤ p - 64 * (p / 64) then 1 else 0)
    (takeSample cyl pe s).pos.current = max (-127) (min 127 q)
    ∧ (takeSample cyl pe s).pos.state = .seeking

/-- R55: the current of a sample in SETTLING (|r| ≤ 512) and in FOLLOWING. `v` is the velocity of R50.
The one sample excluded is the second timeout of a seek (R60). -/
def Obligations.FineSeekCurrent : Prop :=
  ∀ (s : State) (tgt : Target) (cyl : Nat) (pe xp v : Int),
    (if s.pos.landHere then some { cyl, offset := 0 } else s.pos.target) = some tgt →
    let r : Int := 256 * (tgt.cyl : Int) + tgt.offset - (256 * (cyl : Int) + pe)
    (s.pos.state = .following ∧ s.pos.xp = some xp ∧ v = 256 * (cyl : Int) + pe - xp
      ∨ s.pos.state = .coasting ∧ s.pos.remembered = .following ∧ v = 0
      ∨ |r| ≤ 512 ∧ (s.pos.seekCount + 1 < 400 ∨ s.pos.restartUsed = false)
          ∧ (s.pos.state = .loading ∧ s.pos.xp = none ∧ v = 0
            ∨ s.pos.state = .coasting ∧ (s.pos.remembered = .seeking ∨ s.pos.remembered = .settling)
                ∧ v = 0
            ∨ (s.pos.state = .seeking ∨ s.pos.state = .settling) ∧ s.pos.xp = some xp
                ∧ v = 256 * (cyl : Int) + pe - xp)) →
    let p : Int := (s.set.trims.kp : Int) * r - (s.set.trims.kd : Int) * v
    let q : Int := p / 64 + (if 32 ≤ p - 64 * (p / 64) then 1 else 0)
    (takeSample cyl pe s).pos.current = max (-127) (min 127 q)

/-- INDEX ARRIVAL. The order of the parts is the model's (log entry 11): the spindle first, then rotation
position 0 (R111) with the end of sector 15 and the start of sector 0; with no work in hand nothing else
follows. R27, R32, R33, R35, R30, R36, R38: what it does to the spindle in each state, the deviating flag
clear or set; `d` is the new drive level of the regulator step. R35, R144, R153, R154: the arrival that sets the
flag raises SPEED DEVIATION: into the holder while WGATE is asserted, and otherwise into the fault slot with
attention FAULT; every other arrival changes the spindle alone. -/
def Obligations.IndexArrivalActs : Prop :=
  (∀ (sig : ReadSignal) (s : State), s.pins.rst = false →
      let u := indexSpindle s
      exec (.indexArrival sig) s = .next (settle (sectorStart 0 (settle (sectorEnds 0 sig
        { u with chan := { u.chan with rotation := 0 } }))))
      ∧ (Quiet s → exec (.indexArrival sig) s
          = .next { u with chan := { u.chan with rotation := 0 } }))
  ∧ ∀ s : State,
        let p := min s.spin.gap 1000000
        let e : Int := (s.set.trims.gs : Int) * ((p : Int) - 25000)
        let q : Int := e / 16 + (if 8 ≤ e - 16 * (e / 16) then 1 else 0)
        let d : Nat := (max 0 (min 255 ((s.spin.drive : Int) + q))).toNat
        let m : Spindle := { s.spin with period := p, gap := 0 }
        let lock := 24875 ≤ p ∧ p ≤ 25125
        let dev := p < 24750 ∨ 25250 < p
        let u := (indexSpindle s).spin
        let raises := s.spin.state = .atSpeed ∧ s.spin.deviating = false ∧ dev ∧ 2 ≤ s.spin.outCount + 1
        (s.spin.state = .stopped → u = m) ∧ (s.spin.state = .coasting → u = m)
        ∧ (s.spin.state = .braking → u = { m with stop := some 1000000 })
        ∧ (s.spin.state = .kick → u = { m with state := .accel, kick := none })
        ∧ (s.spin.state = .accel → p ≤ 25500 → u = { m with state := .regulate, drive := 200, inCount := 0 })
        ∧ (s.spin.state = .accel → 25500 < p → u = m)
        ∧ (s.spin.state = .regulate → ¬ lock → u = { m with drive := d, inCount := 0 })
        ∧ (s.spin.state = .regulate → lock → s.spin.inCount + 1 < 4 →
            u = { m with drive := d, inCount := s.spin.inCount + 1 })
        ∧ (s.spin.state = .regulate → lock → 4 ≤ s.spin.inCount + 1 →
            u = { m with drive := d, state := .atSpeed, deviating := false, inCount := 0, outCount := 0,
                         spinUp := none })
        ∧ (s.spin.state = .atSpeed → s.spin.deviating = false → ¬ dev →
            u = { m with drive := d, outCount := 0 })
        ∧ (s.spin.state = .atSpeed → s.spin.deviating = false → dev → s.spin.outCount + 1 < 2 →
            u = { m with drive := d, outCount := s.spin.outCount + 1 })
        ∧ (s.spin.state = .atSpeed → s.spin.deviating = false → dev → 2 ≤ s.spin.outCount + 1 →
            u = { m with drive := d, outCount := 0, inCount := 0, deviating := true })
        ∧ (s.spin.state = .atSpeed → s.spin.deviating = true → ¬ lock →
            u = { m with drive := d, inCount := 0 })
        ∧ (s.spin.state = .atSpeed → s.spin.deviating = true → lock → s.spin.inCount + 1 < 4 →
            u = { m with drive := d, inCount := s.spin.inCount + 1 })
        ∧ (s.spin.state = .atSpeed → s.spin.deviating = true → lock → 4 ≤ s.spin.inCount + 1 →
            u = { m with drive := d, inCount := 0, deviating := false })
        ∧ (¬ raises → indexSpindle s = { s with spin := u })
        ∧ (raises → s.chan.wgate = true → indexSpindle s = { s with
            spin := u, fault := { s.fault with holder := some (formRecord .speedDeviation s) } })
        ∧ (raises → s.chan.wgate = false →
            indexSpindle s = recorded .speedDeviation { s with spin := u })

/-- R36: the recovery check, with the deviating flag set, and with it the regulator step of R32. It raises
no fault and sets no attention cause, and the write gate opens with the flag clear. -/
def Obligations.DeviationRecovers : Prop :=
  ∀ s : State, s.spin.state = .atSpeed → s.spin.deviating = true →
    let p := min s.spin.gap 1000000
    let e : Int := (s.set.trims.gs : Int) * ((p : Int) - 25000)
    let q : Int := e / 16 + (if 8 ≤ e - 16 * (e / 16) then 1 else 0)
    let u := indexSpindle s
    (24875 ≤ p → p ≤ 25125 → s.spin.inCount + 1 < 4 →
      u.spin.inCount = s.spin.inCount + 1 ∧ u.spin.deviating = true)
    ∧ (24875 ≤ p → p ≤ 25125 → 4 ≤ s.spin.inCount + 1 → u.spin.inCount = 0 ∧ u.spin.deviating = false)
    ∧ (p < 24875 ∨ 25125 < p → u.spin.inCount = 0 ∧ u.spin.deviating = true)
    ∧ u.spin.drive = (max 0 (min 255 ((s.spin.drive : Int) + q))).toNat
    ∧ u.spin.period = p ∧ u.spin.gap = 0
    ∧ u.spin.state = .atSpeed ∧ u.fault = s.fault ∧ u.cu = s.cu
    ∧ ∀ cyl, copyGate cyl u
        = (onTarget cyl 0 s && s.clk.locked && !u.spin.deviating && !s.cart.wp)

/-! ### Tables, records and frames -/

/-- R99: the spare scan gives the first clear spare of the bitmap, W when there is none; the list does not
enter into it. R100, R94: a reassignment of offset o: the refusals, the spare marked set, the entry
inserted in order or replaced in place, and nothing else of the zone changed; the zone entry stays
consistent. -/
def Obligations.ReassignmentMovesOneOffset : Prop :=
  (∀ (t : CartType) (z : Zone),
     let w : Nat := match t with
       | .a => 8
       | .b => 32
     let k := spareScan t z
     k ≤ w ∧ (∀ i, i < k → z.spares.getLsbD i = true) ∧ (k < w → z.spares.getLsbD k = false)
     ∧ ∀ l, spareScan t { z with list := l } = k)
  ∧ (∀ (wp : Bool) (t : CartType) (o : Nat) (z : Zone),
     (wp = true → reassignZone wp t o z = .refused .writeProtected)
     ∧ (wp = false → spareScan t z = t.spareWidth → reassignZone wp t o z = .refused .sparesExhausted)
     ∧ (wp = false → spareScan t z < t.spareWidth → rising z.list = true →
         ∃ z', reassignZone wp t o z = .moved (spareScan t z) z'
           ∧ spareOf z' o = some (spareScan t z)
           ∧ (∀ o', o' ≠ o → spareOf z' o' = spareOf z o')
           ∧ rising z'.list = true
           ∧ (∀ i, z'.spares.getLsbD i = (z.spares.getLsbD i || decide (i = spareScan t z)))
           ∧ z'.list.length = z.list.length + (if (spareOf z o).isNone then 1 else 0)))
  ∧ ∀ (t : CartType) (o k : Nat) (z z' : Zone), o < t.userSlots → z.consistent t = true →
      reassignZone false t o z = .moved k z' → z'.consistent t = true

/-- R96: on a consistent zone table, distinct blocks lie in distinct sectors, all of them on the
cylinders from 1 to the last one. -/
def Obligations.TranslationIsInjective : Prop :=
  ∀ (t : CartType) (zones : List Zone), (∀ z ∈ zones, z.consistent t = true) →
    (∀ l, l < t.capacity →
      1 ≤ (translate t zones l).1.cyl ∧ (translate t zones l).1.cyl ≤ t.lastCylinder
      ∧ (translate t zones l).1.head ≤ 1 ∧ (translate t zones l).1.sector ≤ 15)
    ∧ ∀ l m, l < t.capacity → m < t.capacity →
        (translate t zones l).1 = (translate t zones m).1 → l = m

/-- R78: which of two generations is newer, and that a write-back that wrote a copy advances the
session's generation by one modulo 65,536. R82, R83: the choice of copy, for each pair of
classifications. -/
def Obligations.ChoiceOfCopy : Prop :=
  (∀ g1 g2 : BitVec 16, newer g1 g2 = true ↔
    1 ≤ (g1.toNat + 65536 - g2.toNat) % 65536 ∧ (g1.toNat + 65536 - g2.toNat) % 65536 ≤ 32767)
  ∧ (∀ g : BitVec 16, newer g g = false)
  ∧ (∀ g1 g2 : BitVec 16, (g1.toNat + 65536 - g2.toNat) % 65536 = 32768 →
      newer g1 g2 = false ∧ newer g2 g1 = false)
  ∧ (∀ (s : State) (r : Session), s.record.session = .full r →
      ∃ r1 r2, (applyWriteBack .both s).record.session = .full r1
        ∧ (applyWriteBack .one s).record.session = .full r2
        ∧ r1.generation.toNat = (r.generation.toNat + 1) % 65536
        ∧ r2.generation.toNat = (r.generation.toNat + 1) % 65536)
  ∧ (∀ c0 c1 : RecordCopy, newer c1.session.generation c0.session.generation = true →
    chooseCopy (some c0) (some c1) = some (1, c1, .degraded))
  ∧ (∀ c0 c1 : RecordCopy, newer c1.session.generation c0.session.generation = false →
      c0.session.generation ≠ c1.session.generation →
      chooseCopy (some c0) (some c1) = some (0, c0, .degraded))
  ∧ (∀ c0 c1 : RecordCopy, c0.session.generation = c1.session.generation →
      chooseCopy (some c0) (some c1) = some (0, c0, .good))
  ∧ (∀ c : RecordCopy, chooseCopy (some c) none = some (0, c, .degraded)
      ∧ chooseCopy none (some c) = some (1, c, .degraded))
  ∧ chooseCopy none none = none
  ∧ (∀ (n : CartType) (r0 r1 : CopyReport) (c0 c1 : Option RecordCopy) (i : Nat) (c : RecordCopy)
      (st : CopyStatus), chooseCopy c0 c1 = some (i, c, st) →
      choiceFinding n r0 r1 c0 c1
        = if c.inProgress = true then (.blank, .typeOnly n, .none)
          else if c.session.type = n then (.ready, .full c.session, st)
          else (.refused .typeConflict, .absent, .none))
  ∧ ∀ (n : CartType) (r0 r1 : CopyReport),
      choiceFinding n r0 r1 none none
        = if r0.cls = .absent ∧ r1.cls = .absent then (.blank, .typeOnly n, .none)
          else (.refused .recordDamaged, .absent, .none)

/-- R144: what the fault slot holds after a fault is raised, and after two are raised together in either
order. -/
def Obligations.FaultSlotTakesRecord : Prop :=
  ∀ (cls : FaultClass) (s : State),
    let u := offer (formRecord cls s) s
    (s.fault.slot = none → u.fault.slot = some { formRecord cls s with count := 1 })
    ∧ (∀ h, s.fault.slot = some h → cls.priority < h.cls.priority →
        u.fault.slot = some { formRecord cls s with count := min 255 (h.count + 1) })
    ∧ (∀ h, s.fault.slot = some h → h.cls.priority ≤ cls.priority →
        u.fault.slot = some { h with count := min 255 (h.count + 1) })
    ∧ u.cu.attention = s.cu.attention ||| 0x0020#16
    ∧ u.fault.holder = s.fault.holder
    ∧ (∃ r, u.fault.slot = some r ∧ r.cls.priority ≤ cls.priority
        ∧ ∀ h, s.fault.slot = some h → r.cls.priority ≤ h.cls.priority)
    ∧ ∀ (slot : Option FaultRecord) (r1 r2 : FaultRecord),
        (r1.cls.priority ≠ r2.cls.priority →
          offerTo (some (offerTo slot r1)) r2 = offerTo (some (offerTo slot r2)) r1)
        ∧ (r1.cls.priority = r2.cls.priority →
          offerTo (some (offerTo slot r1)) r2
            = { offerTo slot r1 with count := min 255 ((offerTo slot r1).count + 1) })

/-- R77, R80, R81, R196: a record image, whatever stands behind it in its last sector, is found VALID at
a load and gives back the session that it was built from. -/
def Obligations.RecordReadsBack : Prop :=
  ∀ (t : CartType) (lock inProgress : Bool) (generation : BitVec 16) (serial : BitVec 32)
    (zones : List Zone) (rest : List Byte),
    zones.length = t.zoneCount →
    (∀ z ∈ zones, z.consistent t = true ∧ z.spares.toNat < 2 ^ t.spareWidth) →
    let image := recordImage t lock inProgress generation serial zones ++ rest
    headerFinding image = none
    ∧ (finalFinding image).1.cls = .valid
    ∧ (finalFinding image).2
      = some { session := { type := t, lock, generation, serial, zones }, inProgress }

/-- R188, R189, R120: the bytes of a command frame, or of a data frame, received one after another from
IDLE with correct parity, are that frame. -/
def Obligations.BytesMakeFrames : Prop :=
  (∀ (body : List Byte) (s : State), s.pins.rst = false → 2 ≤ body.length → body.length ≤ 14 →
     s.link.assembly = .idle → s.link.send = none → placesUsed s < 8 →
     exec (.commandFrame body) s = .next (receiveBytes (frameBytes 0xA1#8 body) s))
  ∧ (∀ (body : List Byte) (s : State), s.pins.rst = false → body.length = 512 → s.link.assembly = .idle →
       s.link.send = none →
       exec (.dataFrame body) s = .next (receiveBytes (frameBytes 0xA4#8 body) s))

/-- R180, R194 and the layout of section 12.3: the 39 fields of SENSE, each offset of the table with the
values that it names. Bits that the table does not name are 0, and so are bytes 11 to 22 with the fault
slot empty. That the items which R1 and R173 call reported have no byte beyond these is the model's reading
(log entry 79). -/
def Obligations.SenseLayout : Prop :=
  ∀ s : State,
    let f := senseFields s
    let flag (b : Bool) (v : Nat) : Nat := if b then v else 0
    let cartByte (c : CartState) : Byte := match c with
      | .empty => 0#8
      | .present => 1#8
      | .starting => 2#8
      | .ready => 3#8
      | .blank => 4#8
      | .refused _ => 5#8
      | .unloading => 6#8
      | .released => 7#8
    let reason : Byte := match s.cart.state with
      | .refused .typeUnknown => 1#8
      | .refused .typeConflict => 2#8
      | .refused .recordDamaged => 3#8
      | _ => 0#8
    let origin : Byte := match s.cart.state, s.cart.origin with
      | .unloading, some o => cartByte o
      | .released, some o => cartByte o
      | _, _ => 0xFF#8
    let type : Nat := match s.cart.type with
      | none => 0
      | some .a => 1
      | some .b => 2
    let spindle : Byte := match s.spin.state with
      | .stopped => 0#8
      | .kick => 1#8
      | .accel => 2#8
      | .regulate => 3#8
      | .atSpeed => 4#8
      | .coasting => 5#8
      | .braking => 6#8
    let heads : Byte := match s.pos.state with
      | .parked => 0#8
      | .loading => 1#8
      | .seeking => 2#8
      | .settling => 3#8
      | .following => 4#8
      | .coasting => 5#8
      | .retracting => 6#8
      | .emergency => 7#8
    let rest : Byte := match s.rest.state with
      | .none => 0#8
      | .idle => 1#8
      | .standby => 2#8
    let minutes : Nat := match s.rest.timer with
      | none => 0
      | some n => (n + 59999999) / 60000000
    let fault : List Byte := match s.fault.slot with
      | none => List.replicate 12 0#8
      | some r =>
        let class' : Byte × Byte := match r.cls with
          | .supplyLoss => (1#8, 0#8)
          | .stallSpinUp => (2#8, 1#8)
          | .stallIndexLoss => (2#8, 2#8)
          | .stallBrake => (2#8, 3#8)
          | .servoLoss => (3#8, 0#8)
          | .offTrack => (4#8, 0#8)
          | .writeFault => (5#8, 0#8)
          | .seekLoad => (6#8, 1#8)
          | .seekSeek => (6#8, 2#8)
          | .seekPark => (6#8, 3#8)
          | .speedDeviation => (7#8, 0#8)
          | .dataCheck => (8#8, 0#8)
        [byte (1 + flag r.tag.isSome 2 + flag r.lba.isSome 4), class'.1, class'.2,
          byte (r.cyl / 256), byte r.cyl, byte r.head, r.tag.getD 0#8]
        ++ be32 (r.lba.getD 0) ++ [byte r.count]
    let slot : List Byte := match s.cu.slot.item with
      | .free => [0#8, 0#8, 0#8]
      | .command e => [1#8, e.code, e.tag]
      | .autoStart => [2#8, 0#8, 0#8]
      | .buttonEject => [3#8, 0#8, 0#8]
      | .timedWake => [4#8, 0#8, 0#8]
      | .softReset tag => [5#8, 0x35#8, tag]
    let format : List Byte := match s.fmt with
      | none => [0#8, 0#8, 0#8]
      | some g => (match g.phase with
          | .preparing => 1#8
          | .marking => 2#8
          | .writing => 3#8
          | .verifying => 4#8
          | .finishing => 5#8) :: be16 g.cylinder
    let status : Byte := match s.record.copyStatus with
      | .none => 0#8
      | .good => 1#8
      | .degraded => 2#8
    let session : Byte × List Byte := match s.record.session with
      | .full r => (2#8, be32 r.serial.toNat ++ be16 r.generation.toNat)
      | _ => (0#8, List.replicate 6 0#8)
    f.length = 39
    ∧ f.take 4 = [cartByte s.cart.state, reason, origin,
        byte (type + flag s.cart.wp 4 + flag s.cart.hold 8)]
    ∧ (f.drop 4).take 7 = [spindle, heads,
        byte (flag s.spin.deviating 1 + flag s.clk.locked 2 + flag (!s.cu.resets.isEmpty) 4
          + flag s.cu.pendAuto 8 + flag s.cu.pendEject 16 + flag s.cu.pendWake 32),
        rest, byte minutes, byte (s.cu.attention.toNat / 256), byte s.cu.attention.toNat]
    ∧ (f.drop 11).take 12 = fault
    ∧ (f.drop 23).take 5
        = [byte s.cu.queue.length, byte (s.cu.queue.countP fun e => e.cancelled)] ++ slot
    ∧ (f.drop 28).take 3 = format
    ∧ f.drop 31 = status :: (session.1 ||| byte (flag s.record.unsaved 1)) :: session.2

/-! ### The drive link -/

/-- R174: COMMAND_FRAME. A queued command is accepted if the queue has room; one with an unknown code, a
wrong parameter length or a full queue is answered and changes nothing else; a body outside 2..14 bytes
is a receive error at its length (R189, R190); an immediate command's frame is that command. A frame whose
kind byte finds no place is `PlacesTaken`. -/
def Obligations.CommandFrameTaken : Prop :=
  (∀ (code tag : Byte) (params : List Byte) (s : State), Receives s →
     paramLength code = some params.length → code.toNat < 0x30 → s.cu.queue.length < 4 →
     exec (.commandFrame (code :: tag :: params)) s = .next { received s with
       cu := { s.cu with queue := s.cu.queue ++ [{ code, tag, params, cancelled := false }]
                         accepted := s.cu.accepted + 1 } })
  ∧ ((∀ (code tag : Byte) (params : List Byte) (s : State), Receives s → params.length ≤ 12 →
       (paramLength code = none →
         exec (.commandFrame (code :: tag :: params)) s = .next (replied
           { tag, code, outcome := .unknownCommand, fields := [], queued := false } (received s)))
       ∧ (∀ n, paramLength code = some n → n ≠ params.length →
           exec (.commandFrame (code :: tag :: params)) s = .next (replied
             { tag, code, outcome := .badParameter, fields := [], queued := false } (received s)))
       ∧ (paramLength code = some params.length → code.toNat < 0x30 → 4 ≤ s.cu.queue.length →
           exec (.commandFrame (code :: tag :: params)) s = .next (replied
             { tag, code, outcome := .queueFull, fields := [], queued := false } (received s))))
     ∧ ∀ (body : List Byte) (s : State), body.length < 2 ∨ 14 < body.length → Receives s →
         exec (.commandFrame body) s = .next (discarded s))
  ∧ (∀ (tag a b : Byte) (s : State),
       exec (.commandFrame [0x30#8, tag]) s = exec (.sense tag) s
       ∧ exec (.commandFrame [0x31#8, tag, a, b]) s
           = exec (.clearAttention tag (BitVec.ofNat 16 (a.toNat * 256 + b.toNat))) s
       ∧ exec (.commandFrame [0x32#8, tag]) s = exec (.abort tag) s
       ∧ exec (.commandFrame [0x33#8, tag]) s = exec (.hold tag) s
       ∧ exec (.commandFrame [0x34#8, tag]) s = exec (.release tag) s
       ∧ exec (.commandFrame [0x35#8, tag]) s = exec (.reset tag) s)

/-- R120, R126, R189, R190: DATA_FRAME answers the oldest outstanding request of a WRITE, is discarded for
a WRITE that has ended, and is PROTOCOL with no request outstanding. R190: RECEIVE_ERROR, BYTE_GAP_EXPIRY
and DISCARD_QUIET_EXPIRY; in DISCARD frames and errors only start the quiet time again, and while the part
sends nothing is received. A row taken while its timer or assembly is not in the state that it names is
void (log entries 5 and 7); DIR is low when a frame comes (log entry 15). -/
def Obligations.DataFramesAndErrorsTaken : Prop :=
  (∀ (d : List Byte) (s : State), s.pins.rst = false → s.link.send = none → s.link.assembly ≠ .discard →
    (∀ o rest t, d.length = 512 → s.chan.outstanding = o :: rest → s.chan.transfer = some t →
      t.phase ≠ .save → t.phase ≠ .drain →
      exec (.dataFrame d) s = .next (settle (requestData (setSlotOf o.idx (.holding o.idx d)
        { received s with chan := { s.chan with outstanding := rest } }))))
    ∧ (∀ o rest, d.length = 512 → s.chan.outstanding = o :: rest →
        (∀ t, s.chan.transfer = some t → t.phase = .save ∨ t.phase = .drain) →
        exec (.dataFrame d) s = .next (settle (setSlotOf o.idx .free
          { received s with chan := { s.chan with outstanding := rest } })))
    ∧ (d.length = 512 → s.chan.outstanding = [] →
        exec (.dataFrame d) s = .next (settle { received s with
          cu := { s.cu with attention := s.cu.attention ||| 0x0200#16 } }))
    ∧ (d.length ≠ 512 → exec (.dataFrame d) s = .next (discarded s)))
  ∧ ∀ (e : RecvError) (body : List Byte) (s : State), s.pins.rst = false →
    let idleLink : Link := { s.link with assembly := .idle, gap := none, quiet := none,
                                         heldFrame := false, kindWaiting := false }
    let quieter : State := { s with pins := { s.pins with dir := false }
                                    link := { s.link with quiet := some 100000 } }
    (s.link.send = none → s.link.assembly ≠ .discard → exec (.receiveError e) s = .next (discarded s))
    ∧ (s.link.send = none → s.link.assembly = .discard →
        exec (.receiveError e) s = .next quieter ∧ exec (.commandFrame body) s = .next quieter
        ∧ exec (.dataFrame body) s = .next quieter)
    ∧ (s.link.send.isSome = true → exec (.receiveError e) s = .next s
        ∧ exec (.commandFrame body) s = .next s ∧ exec (.dataFrame body) s = .next s)
    ∧ (midFrame s = true → exec .byteGapExpiry s = .next { s with
        link := idleLink
        cu := { s.cu with attention := s.cu.attention ||| 0x0200#16 } })
    ∧ (midFrame s = false → exec .byteGapExpiry s = .next s)
    ∧ (s.link.assembly = .discard → exec .discardQuietExpiry s = .next { s with link := idleLink })
    ∧ (s.link.assembly ≠ .discard → exec .discardQuietExpiry s = .next s)

/-- R192, R190, R191: BUS_GRANT: the frame that is sent, the receive error of a frame cut short, and the
end of DISCARD and of a waiting kind byte. Two readings are the model's: a grant in the middle of a received
frame is a receive error and sends the waiting frame besides (log entry 20), and a waiting reply goes first
also where DIR has cut a data request or a data frame short (log entry 77). -/
def Obligations.BusGrantSends : Prop :=
  ∀ s : State, s.pins.rst = false →
    let l : Link := { s.link with assembly := .idle, gap := none, quiet := none, heldFrame := false,
                                  kindWaiting := false }
    let a : BitVec 16 := if midFrame s then s.cu.attention ||| 0x0200#16 else s.cu.attention
    let u : State := { s with
      pins := { s.pins with dir := true }
      link := l
      cu := { s.cu with attention := a } }
    (s.link.send.isSome = true → exec .busGrant s = .next s)
    ∧ (∀ r rest, s.link.send = none → s.link.outbox = r :: rest →
        exec .busGrant s = .next { u with link := { l with send := some (.reply r), acked := 0 } })
    ∧ (∀ tag i rest, s.link.send = none → s.link.outbox = [] → s.link.line = (tag, i) :: rest →
        exec .busGrant s = .next { u with link := { l with send := some (.request tag i), acked := 0 } })
    ∧ (∀ i d, s.link.send = none → s.link.outbox = [] → s.link.line = [] →
        readyFrame s = some (i, d) →
        exec .busGrant s = .next { u with
          link := { l with send := some (.data i d), acked := 0 }
          chan := { s.chan with readyTimer := none } })
    ∧ (s.link.send = none → req s = false → exec .busGrant s = .next u)

/-- R192, R177, R127, R115: FRAME_SENT for each kind of frame, and DIR_LOW_DURING_SEND, after which the
frame stands at the front of its line still. That a request of a WRITE which has ended meanwhile leaves no
request outstanding, and that a data frame without its READ only frees its slot, are the model's readings
(log entry 46). -/
def Obligations.FramesLeave : Prop :=
  ∀ s : State, s.pins.rst = false →
    let l : Link := { s.link with send := none, acked := 0 }
    (exec .dirLowDuringSend s = .next { s with pins := { s.pins with dir := false }, link := l })
    ∧ (s.link.send = none → exec .frameSent s = .next s)
    ∧ (∀ r, s.link.send = some (.reply r) → exec .frameSent s = .next (settle { s with
        link := { l with outbox := s.link.outbox.tail }
        cu := { s.cu with repliesSent := s.cu.repliesSent + (if r.queued then 1 else 0) } }))
    ∧ (∀ tag i rest, s.link.send = some (.request tag i) → s.link.line = (tag, i) :: rest →
        exec .frameSent s = .next (settle { s with
          link := { l with line := rest }
          chan := { s.chan with outstanding := s.chan.outstanding
            ++ [{ idx := i, timer := some (s.set.active.timeout * 1000000) }] } }))
    ∧ (∀ tag i, s.link.send = some (.withdrawn tag i)
        ∨ s.link.send = some (.request tag i) ∧ s.link.line.head? ≠ some (tag, i) →
        exec .frameSent s = .next (settle { s with link := l }))
    ∧ (∀ i d, s.link.send = some (.data i d) → s.chan.transfer = none →
        exec .frameSent s = .next (settle (setSlotOf i .free { s with link := l })))
    ∧ (∀ i d t, s.link.send = some (.data i d) → s.chan.transfer = some t →
        let u := setTransfer { t with done := t.done + 1 } (setSlotOf i .free { s with link := l })
        exec .frameSent s = .next (settle
          (if (readyFrame u).isSome then
            { u with chan := { u.chan with readyTimer := some (s.set.active.timeout * 1000000) } }
           else u)))

/-- R187, R188, R193, R195, R26: the outputs. ATN, REQ and the phase mode of the spindle follow the state;
the frame being sent is driven byte by byte, with odd parity, the kind byte first, and with no frame sent
the lines are released. In a tick the host may acknowledge one byte, at a pace that is a free value, but for
the last, whose acknowledgement is FRAME_SENT (log entry 16). While RST is asserted every output of the link
is released, and no row but HARD_RESET and no tick changes anything (log entry 48). -/
def Obligations.OutputsFollow : Prop :=
  ∀ s : State,
    (atn s = true ↔ s.pins.rst = false ∧ s.cu.attention ≠ 0#16)
    ∧ (req s = true ↔ s.pins.rst = false
        ∧ (s.link.outbox ≠ [] ∨ s.link.line ≠ [] ∨ readyFrame s ≠ none))
    ∧ (s.link.send = none ∨ s.pins.rst = true → driven s = none)
    ∧ (∀ f b, s.link.send = some f → s.pins.rst = false → f.bytes[s.link.acked]? = some b →
        ∃ dp, driven s = some (b, dp)
          ∧ ((List.range 8).countP (fun i => b.getLsbD i) + (if dp then 1 else 0)) % 2 = 1)
    ∧ (∀ f, s.link.send = some f → RangeLaw s →
        (countDown s).link.acked
          = (if Config.hostAcknowledges s.freeUsed = true ∧ s.link.acked + 1 < f.bytes.length then
              s.link.acked + 1 else s.link.acked)
        ∧ (countDown s).link.send = some f ∧ (countDown s).freeUsed = s.freeUsed + 1)
    ∧ (s.link.send = none → (countDown s).link.acked = s.link.acked
        ∧ (countDown s).freeUsed = s.freeUsed)
    ∧ (∀ r : Reply, (Outbound.reply r).bytes
        = 0xA8#8 :: be16 (3 + r.fields.length) ++ r.tag :: r.code :: r.outcome.code :: r.fields)
    ∧ (∀ tag i, (Outbound.request tag i).bytes = [0xAB#8, 0#8, 2#8, tag, byte i]
        ∧ (Outbound.withdrawn tag i).bytes = [0xAB#8, 0#8, 2#8, tag, byte i])
    ∧ (∀ i d, d.length = 512 → (Outbound.data i d).bytes = 0xA4#8 :: 2#8 :: 0#8 :: d)
    ∧ (s.spin.state.phase = .float ↔ s.spin.state = .stopped ∨ s.spin.state = .coasting)
    ∧ (s.spin.state.phase = .short ↔ s.spin.state = .braking)
    ∧ (s.pins.rst = true → (∀ c : Instr, (∀ l, c ≠ .hardReset l) → exec c s = .next s)
        ∧ (s.pending = [] → step s = .next s))

/-- R191, R177: KIND_BYTE_TAKES_PLACE and REPLY_TAKES_PLACE, and the frame, of any length, that finds no
place: its kind byte waits, and DISCARD is not entered (log entry 14). Each is void where nothing waits
(log entry 5). -/
def Obligations.PlacesTaken : Prop :=
  ∀ s : State, s.pins.rst = false →
    (s.link.kindWaiting = true → placesUsed s < 8 →
      exec .kindByteTakesPlace s = .next { s with link := { s.link with
        assembly := .kind .command, gap := some 100000, heldFrame := true, kindWaiting := false } })
    ∧ (s.link.kindWaiting = false ∨ 8 ≤ placesUsed s → exec .kindByteTakesPlace s = .next s)
    ∧ (∀ r, s.cu.slot.work = .replying r → placesUsed s < 8 →
        exec .replyTakesPlace s
          = .next (replied r { s with cu := { s.cu with slot := Slot.free } }))
    ∧ (∀ r, s.cu.slot.work = .replying r → 8 ≤ placesUsed s → exec .replyTakesPlace s = .next s)
    ∧ ((∀ r, s.cu.slot.work ≠ .replying r) → exec .replyTakesPlace s = .next s)
    ∧ ∀ body : List Byte, s.link.send = none → s.link.assembly ≠ .discard →
        s.link.heldFrame = false → 8 ≤ placesUsed s →
        exec (.commandFrame body) s
          = .next { s with link := { s.link with kindWaiting := true } }

/-- R188 to R191: BYTE_RECEIVED for each state of the assembly but a frame's last byte, which
`BytesMakeFrames` covers. While the part sends no byte is taken, and a byte shows DIR low (log entries 7
and 15). A kind byte with wrong parity is a receive error at once, also with no outbox place free: the
model's reading (log entry 78). -/
def Obligations.ByteTaken : Prop :=
  ∀ (b : Byte) (s : State), s.pins.rst = false →
    let u : State := { s with pins := { s.pins with dir := false } }
    let on (a : Assembly) : State := { u with link := { s.link with assembly := a, gap := some 100000 } }
    (∀ dp, s.link.send.isSome = true → exec (.byteReceived b dp) s = .next s)
    ∧ (s.link.send = none → s.link.assembly ≠ .discard →
        exec (.byteReceived b (!oddParity b)) s = .next (discarded u))
    ∧ (∀ dp, s.link.send = none → s.link.assembly = .discard →
        exec (.byteReceived b dp) s = .next { u with link := { s.link with quiet := some 100000 } })
    ∧ (s.link.send = none → s.link.assembly = .idle →
        (b = 0xA1#8 → placesUsed s < 8 →
          exec (.byteReceived b (oddParity b)) s = .next { u with link := { s.link with
            assembly := .kind .command, gap := some 100000, heldFrame := true,
            kindWaiting := false } })
        ∧ (b = 0xA1#8 → 8 ≤ placesUsed s →
            exec (.byteReceived b (oddParity b)) s
              = .next { u with link := { s.link with kindWaiting := true } })
        ∧ (b = 0xA4#8 →
            exec (.byteReceived b (oddParity b)) s = .next { u with link := { s.link with
              assembly := .kind .data, gap := some 100000, kindWaiting := false } })
        ∧ (b ≠ 0xA1#8 → b ≠ 0xA4#8 →
            exec (.byteReceived b (oddParity b)) s = .next (discarded u)))
    ∧ (∀ k, s.link.send = none → s.link.assembly = .kind k →
        exec (.byteReceived b (oddParity b)) s = .next (on (.length k b)))
    ∧ (∀ k hi, s.link.send = none → s.link.assembly = .length k hi →
        (lengthFits k (hi.toNat * 256 + b.toNat) = true →
          exec (.byteReceived b (oddParity b)) s
            = .next (on (.body k (hi.toNat * 256 + b.toNat) [])))
        ∧ (lengthFits k (hi.toNat * 256 + b.toNat) = false →
            exec (.byteReceived b (oddParity b)) s = .next (discarded u)))
    ∧ ∀ k n bs, s.link.send = none → s.link.assembly = .body k n bs → bs.length + 1 < n →
        exec (.byteReceived b (oddParity b)) s = .next (on (.body k n (bs ++ [b])))

/-! ### The immediate commands -/

/-- R180, R8: SENSE changes nothing; HOLD sets the removal hold but in EMPTY; RELEASE clears it. R182,
R145: CLEAR ATTENTION, and the SUPPLY LOSS that it raises again while the supply warning stands. That a BAD
PARAMETER reply carries the attention set as it stands is the model's choice (log entry 52). -/
def Obligations.ImmediateCommandsAnswered : Prop :=
  (∀ (tag : Byte) (s : State), Receives s →
     exec (.sense tag) s = .next (replied
       { tag, code := 0x30#8, outcome := .done, fields := senseFields s, queued := false } (received s))
     ∧ (s.cart.state = .empty → exec (.hold tag) s = .next (replied
         { tag, code := 0x33#8, outcome := .notReady, fields := [], queued := false } (received s)))
     ∧ (s.cart.state ≠ .empty → exec (.hold tag) s = .next (replied
         { tag, code := 0x33#8, outcome := .done, fields := [], queued := false }
         { received s with cart := { s.cart with hold := true } }))
     ∧ exec (.release tag) s = .next (replied
         { tag, code := 0x34#8, outcome := .done, fields := [], queued := false }
         { received s with cart := { s.cart with hold := false } }))
  ∧ ∀ (tag : Byte) (causes : BitVec 16) (s : State), Receives s →
    let kept : BitVec 16 := s.cu.attention &&& ~~~causes
    let reply (a : BitVec 16) : Reply :=
      { tag, code := 0x31#8, outcome := .done, fields := be16 a.toNat, queued := false }
    let u : State := { received s with cu := { s.cu with attention := kept } }
    let e : State := { u with fault := { s.fault with slot := none } }
    (causes &&& 0xFC00#16 ≠ 0#16 → exec (.clearAttention tag causes) s = .next (replied
      { tag, code := 0x31#8, outcome := .badParameter, fields := be16 s.cu.attention.toNat,
        queued := false } (received s)))
    ∧ (causes &&& 0xFC00#16 = 0#16 → causes.getLsbD 5 = false →
        exec (.clearAttention tag causes) s = .next (settle (replied (reply kept) u)))
    ∧ (causes &&& 0xFC00#16 = 0#16 → causes.getLsbD 5 = true → s.fault.warning = false →
        exec (.clearAttention tag causes) s = .next (settle (replied (reply kept) e)))
    ∧ (causes &&& 0xFC00#16 = 0#16 → causes.getLsbD 5 = true → s.fault.warning = true →
        let w := raise .supplyLoss e
        exec (.clearAttention tag causes) s = .next (settle (replied (reply w.cu.attention) w))
        ∧ w.cu.attention.getLsbD 5 = true
        ∧ (s.fault.holder = none →
            w.fault.slot = some { formRecord .supplyLoss s with count := 1 }))

/-- R179: ABORT marks the queue, tells the executing item, and is answered with what it did. R183, R185:
RESET joins the list, acts as ABORT without a reply, and the first of the list withdraws a pending AUTO
START. That the reply enters before the executing item ends, that the answer byte is 1 for each executing
item not yet marked whose work has not ended, and that RESET acts at its reception alone are the model's
readings (log entries 22, 23 and 50). -/
def Obligations.AbortAndResetTell : Prop :=
  (∀ (tag : Byte) (s : State), Receives s →
     let u := marked (received s)
     let reply : Reply :=
       { tag, code := 0x32#8, outcome := .done, queued := false
         fields := [byte (s.cu.queue.countP fun e => !e.cancelled),
                    if abortReaches s then 1#8 else 0#8] }
     (abortReaches s = false → exec (.abort tag) s = .next (settle (replied reply u)))
     ∧ (abortReaches s = true → exec (.abort tag) s = .next (settle (replied reply { u with
         cu := { u.cu with slot := { s.cu.slot with abortPending := true } }
         chan := { s.chan with
           transfer := s.chan.transfer.map fun t => { t with abortPending := true }
           reassign := s.chan.reassign.map fun r => { r with abortPending := true } }
         fmt := s.fmt.map fun f => { f with abortPending := true } }))))
  ∧ (∀ (tag : Byte) (s : State), Receives s →
       let u : State := { received s with cu := { s.cu with
         queue := s.cu.queue.map fun e => { e with cancelled := true }
         resets := s.cu.resets ++ [tag]
         pendAuto := if s.cu.resets = [] then false else s.cu.pendAuto } }
       (abortReaches s = false → exec (.reset tag) s = .next (settle u))
       ∧ (abortReaches s = true → exec (.reset tag) s = .next (settle { u with
           cu := { u.cu with slot := { s.cu.slot with abortPending := true } }
           chan := { s.chan with
             transfer := s.chan.transfer.map fun t => { t with abortPending := true }
             reassign := s.chan.reassign.map fun r => { r with abortPending := true } }
           fmt := s.fmt.map fun f => { f with abortPending := true } })))

/-! ### The queued commands -/

/-- R178: the two gates of SPIN UP, SEEK, READ, WRITE, VERIFY and REASSIGN. The first that refuses gives
the reply, and the command is answered without work. Then the table: the states in which each command
passes the cartridge-state gate, and the reply in the others. -/
def Obligations.GatesRefuse : Prop :=
  (∀ (e : Entry) (s : State) (c : Instr) (code : Byte) (gate : CartState → Option OutcomeCode),
     (c, code, gate) ∈ [(Instr.spinUp, 0x10#8, spinUpGate (byteAt e.params 0 % 2 == 1)),
       (.seek, 0x12#8, seekGate), (.read, 0x13#8, dataGate), (.write, 0x14#8, dataGate),
       (.verify, 0x15#8, dataGate), (.reassign, 0x16#8, dataGate)] →
     Waiting code e s →
     (∀ o, gate s.cart.state = some o →
       exec c s = .next (answered e o (resultFields e s) s))
     ∧ (gate s.cart.state = none → class13Held s = true →
         exec c s = .next (answered e .faultPending (resultFields e s) s)))
  ∧ ((∀ reid, spinUpGate reid .empty = some .notReady ∧ spinUpGate reid .present = none
       ∧ spinUpGate reid .ready = none ∧ spinUpGate reid .blank = none
       ∧ spinUpGate reid (.refused .typeUnknown) = some .refusedCartridge)
     ∧ (∀ r, r ≠ .typeUnknown → spinUpGate true (.refused r) = none
         ∧ spinUpGate false (.refused r) = some .refusedCartridge)
     ∧ seekGate .empty = some .notReady ∧ seekGate .present = some .notReady ∧ seekGate .ready = none
     ∧ seekGate .blank = none ∧ (∀ r, seekGate (.refused r) = some .refusedCartridge)
     ∧ dataGate .empty = some .notReady ∧ dataGate .present = some .notReady ∧ dataGate .ready = none
     ∧ dataGate .blank = some .unformatted ∧ ∀ r, dataGate (.refused r) = some .refusedCartridge)

/-- R84, R85, R86: SPIN UP past its gates: a start on a PRESENT cartridge, the wait for the spindle in
READY and BLANK, and a reload. The first clause gives a start from rest in full. -/
def Obligations.SpinUpBegins : Prop :=
  ∀ (e : Entry) (s : State), Waiting 0x10#8 e s →
    spinUpGate (byteAt e.params 0 % 2 == 1) s.cart.state = none → class13Held s = false →
    (s.cart.state = .present → s.spin.state = .stopped → s.pos.state = .parked →
      exec .spinUp s = .next (begun e .startSpin { s with
        cart := { s.cart with state := .starting }
        cu := { s.cu with pendAuto := false }
        spin := kicks s.spin }))
    ∧ (s.cart.state = .present →
        exec .spinUp s = .next (settle (begun e .startSpin (startRequest { s with
          cart := { s.cart with state := .starting }, cu := { s.cu with pendAuto := false } }))))
    ∧ (s.cart.state ≠ .present → byteAt e.params 0 % 2 = 0 → s.spin.state = .atSpeed →
        exec .spinUp s = .next (answered e .done [byte s.cart.state.code] (rested s)))
    ∧ (s.cart.state ≠ .present → byteAt e.params 0 % 2 = 0 → s.spin.state ≠ .atSpeed →
        exec .spinUp s = .next (begun e .spinOnly (startRequest (rested s))))
    ∧ (s.cart.state ≠ .present → byteAt e.params 0 % 2 = 1 → s.record.unsaved = false →
        s.spin.state ≠ .atSpeed →
        exec .spinUp s = .next (begun e .reloadSpin (startRequest (rested s))))
    ∧ (s.cart.state ≠ .present → byteAt e.params 0 % 2 = 1 → s.record.unsaved = false →
        s.spin.state = .atSpeed →
        exec .spinUp s = .next (settle (begun e .reloadSpin (rested s))))
    ∧ (s.cart.state ≠ .present → byteAt e.params 0 % 2 = 1 → s.record.unsaved = true →
        exec .spinUp s = .next (settle (setWork .reloadSave (beginWriteBack
          (begun e .idle (rested s))))))

/-- R70, R71, R51, R52: SEEK past its gates: the range check, the start of a spindle that is not AT_SPEED,
the head load from PARKED, the answer when the head is there already, and the target request otherwise.

R51, R52: the target request of any block in every state of the positioner. An earlier requester is told ENDED;
that this is another block than the one that asks is the model's reading (log entry 83). -/
def Obligations.SeekBegins : Prop :=
  (∀ (e : Entry) (s : State) (t : CartType), Waiting 0x12#8 e s → seekGate s.cart.state = none →
    class13Held s = false → s.cart.type = some t →
    let cyl := word16At e.params 0
    (t.lastCylinder < cyl →
      exec .seek s = .next (answered e .outOfRange (be16 cyl ++ be16 s.pos.cylinder) s))
    ∧ (cyl ≤ t.lastCylinder → s.spin.state ≠ .atSpeed →
        exec .seek s = .next (begun e .seekSpin (startRequest (rested s))))
    ∧ (cyl ≤ t.lastCylinder → s.spin.state = .atSpeed →
        exec .seek s = .next (settle (begun e .seekSpin (rested s))))
    ∧ (cyl ≤ t.lastCylinder → s.spin.state = .atSpeed → s.pos.state = .parked →
        exec .seek s = .next (begun e .seekTarget { rested s with pos := { s.pos with
          state := .loading, current := 20, target := some { cyl, offset := 0 }
          requester := some .seek, settle := 0, offTrack := 0, missing := 0, seekCount := 0
          restartUsed := false, xp := none, load := some 500000, resume := cyl
          landHere := false } }))
    ∧ (cyl ≤ t.lastCylinder → s.spin.state = .atSpeed → s.pos.state = .following →
        s.pos.target = some { cyl, offset := 0 } →
        exec .seek s = .next (answered e .done (be16 cyl ++ be16 s.pos.cylinder)
          { rested s with pos := { s.pos with resume := cyl } }))
    ∧ (cyl ≤ t.lastCylinder → s.spin.state = .atSpeed → s.pos.state ≠ .parked →
        ¬ (s.pos.state = .following ∧ s.pos.target = some { cyl, offset := 0 }) →
        exec .seek s = .next (begun e .seekTarget
          (requestTarget { cyl, offset := 0 } (some .seek) (rested s)))))
  ∧ ∀ (t : Target) (q : Option Requester) (s : State), s.mail = Mail.none →
    let u := requestTarget t q s
    let at' (p : Positioner) : State := { s with pos := p }
    let takes (p : Positioner) : State :=
      if s.pos.requester = none ∨ s.pos.requester = q then at' p else tell .ended (at' p)
    let answers (o : TargetOutcome) (v : State) : State := if q = none then v else tell o v
    let present := s.pos.target = some t
    let side : PosState :=
      if |256 * (t.cyl : Int) + t.offset - s.pos.x| ≤ 512 then .settling else .seeking
    let fresh : Positioner := { s.pos with
      target := some t, requester := q, settle := 0, offTrack := 0, seekCount := 0, restartUsed := false
      resume := t.cyl, landHere := false }
    let keeps : State := at' { s.pos with held := some (t, q) }
    (s.pos.state = .parked → Loadable s → u = loads t q s)
    ∧ (s.pos.state = .parked → s.spin.state ≠ .atSpeed → u = answers (.notLoaded .notAtSpeed) s)
    ∧ (s.pos.state = .parked → s.spin.state = .atSpeed → class13Held s = true →
        u = answers (.notLoaded .faultHeld) s)
    ∧ (s.pos.state = .parked → s.spin.state = .atSpeed → class13Held s = false → s.cart.type = none →
        u = answers (.notLoaded .typeUnknown) s)
    ∧ (s.pos.state = .loading →
        u = takes { s.pos with target := some t, requester := q, resume := t.cyl, landHere := false })
    ∧ (s.pos.state = .seeking ∨ s.pos.state = .settling →
        (present → u = takes { s.pos with requester := q, resume := t.cyl })
        ∧ (¬ present → u = takes { fresh with state := side }))
    ∧ (s.pos.state = .following →
        (present → u = answers .complete (at' { s.pos with resume := t.cyl }))
        ∧ (¬ present → s.chan.op = none → u = at' { fresh with state := side })
        ∧ (∀ b, s.chan.op = some (.read b) → ¬ present →
            u = sectorIs .interrupted { at' { fresh with state := side } with
              chan := { s.chan with op := none, wgate := false, writeCurrent := 0 } }))
    ∧ (s.pos.state = .coasting → u = takes { fresh with remembered := side })
    ∧ (s.pos.state = .retracting ∨ s.pos.state = .emergency →
        (s.pos.held.bind (·.2) = none → u = keeps)
        ∧ (s.pos.held.bind (·.2) ≠ none → u = tell .ended keeps))

/-- R113, R98, R120: READ, WRITE and VERIFY in READY past their gates: the three checks, and the transfer
context of a command that passes, with a WRITE's first data requests. -/
def Obligations.DataCommandsBegin : Prop :=
  ∀ (e : Entry) (s : State) (r : Session) (c : Instr) (code : Byte) (cmd : DataCommand),
    (c, code, cmd) ∈ [(Instr.read, 0x13#8, DataCommand.read), (.write, 0x14#8, .write),
      (.verify, 0x15#8, .verify)] →
    Waiting code e s → s.cart.state = .ready → class13Held s = false → fullSession s = some r →
    let first := word32At e.params 0
    let n := min (byteAt e.params 4) 16
    let tail : List Byte := if cmd = .write then [0#8, 0#8] else []
    let fields (k : Nat) : List Byte := [byte k, 0#8, 0xFF#8, 0xFF#8, 0xFF#8, 0xFF#8] ++ tail
    let ctx : Transfer :=
      { cmd, tag := e.tag, first, count := n, idx := 0, done := 0
        place := { cyl := 0, head := 0, sector := 0 }, spare := none, attempt := 1, offset := 0
        firstPass := false, recovered := false, failing := none, torn := none, reassigned := 0
        abortPending := false, phase := .spin, limit := s.set.active.retry
        verifyOn := s.set.active.writeVerify, nextRequest := 0, chain := false, mark := false
        outcome := .done, timedOut := false, result := .notMade }
    let passes := byteAt e.params 4 ≠ 0 ∧ first + n ≤ r.type.capacity
      ∧ (cmd = .write → s.cart.wp = false)
    (byteAt e.params 4 = 0 → exec c s = .next (answered e .badParameter (fields 0) s))
    ∧ (byteAt e.params 4 ≠ 0 → r.type.capacity < first + n →
        exec c s = .next (answered e .outOfRange (fields n) s))
    ∧ (byteAt e.params 4 ≠ 0 → first + n ≤ r.type.capacity → cmd = .write → s.cart.wp = true →
        exec c s = .next (answered e .writeProtected (fields n) s))
    ∧ (passes → cmd ≠ .write → s.spin.state ≠ .atSpeed →
        exec c s = .next (begun e .data { startRequest (rested s) with
          chan := { s.chan with transfer := some ctx } }))
    ∧ (passes → cmd = .write → s.spin.state ≠ .atSpeed →
        exec c s = .next (begun e .data { startRequest (rested s) with
          chan := { s.chan with
            transfer := some { ctx with nextRequest := min n 2 }
            slot0 := .awaiting 0
            slot1 := if 2 ≤ n then .awaiting 1 else .free }
          link := { s.link with line := (e.tag, 0) :: (if 2 ≤ n then [(e.tag, 1)] else []) } }))
    ∧ (passes → s.spin.state = .atSpeed →
        exec c s = .next (settle (begun e .data (requestData (setTransfer ctx (rested s))))))

/-- R102, R110: REASSIGN in READY past its gates: the three checks, and the context of one that passes,
with the spare that the block has already. -/
def Obligations.ReassignBegins : Prop :=
  ∀ (e : Entry) (s : State) (r : Session), Waiting 0x16#8 e s → s.cart.state = .ready →
    class13Held s = false → fullSession s = some r →
    let lba := word32At e.params 0
    let fields : List Byte := be32 lba ++ [0xFF#8, 0#8, 0#8]
    let full := spareScan r.type (zoneAt r.zones (lba / r.type.userSlots)) = r.type.spareWidth
    let ctx : Reassign :=
      { tag := e.tag, lba, place := { cyl := 0, head := 0, sector := 0 }, attempt := 1, offset := 0
        firstPass := false, allocated := false
        spare := spareOf (zoneAt r.zones (lba / r.type.userSlots)) (lba % r.type.userSlots)
        dataLost := false, torn := false, abortPending := false, phase := .spin
        limit := s.set.active.retry, outcome := .done, timedOut := false, result := .notMade }
    (r.type.capacity ≤ lba → exec .reassign s = .next (answered e .outOfRange fields s))
    ∧ (lba < r.type.capacity → s.cart.wp = true →
        exec .reassign s = .next (answered e .writeProtected fields s))
    ∧ (lba < r.type.capacity → s.cart.wp = false → full →
        exec .reassign s = .next (answered e .sparesExhausted fields s))
    ∧ (lba < r.type.capacity → s.cart.wp = false → ¬ full → s.spin.state ≠ .atSpeed →
        exec .reassign s = .next (begun e .reassign { startRequest (rested s) with
          chan := { s.chan with reassign := some ctx } }))
    ∧ (lba < r.type.capacity → s.cart.wp = false → ¬ full → s.spin.state = .atSpeed →
        exec .reassign s = .next (settle (begun e .reassign (setReassign ctx (rested s)))))

/-- R132, R133: FORMAT: the five checks in their order, and the context of one that passes. -/
def Obligations.FormatBegins : Prop :=
  ∀ (e : Entry) (s : State), Waiting 0x17#8 e s →
    let absent : List Byte := List.replicate 7 0#8 ++ List.replicate 5 0xFF#8
    let no (o : OutcomeCode) : Prop := exec .format s = .next (answered e o absent s)
    let admitted := s.cart.state = .blank ∨ s.cart.state = .ready
      ∨ s.cart.state = .refused .recordDamaged
    let options := byteAt e.params 4 ≤ 1 ∧ byteAt e.params 5 ≤ 1
    let locked := s.cart.state = .ready ∧ ∃ r, fullSession s = some r ∧ r.lock = true
    let ctx : Format :=
      { serial := BitVec.ofNat 32 (word32At e.params 0), lock := byteAt e.params 4 == 1
        verify := byteAt e.params 5 == 1, type := s.cart.type.getD .a, phase := .preparing
        cylinder := 0, zones := [], retired := 0, reassigned := 0, exhausted := none
        abortPending := false, step := .spin, head := 0, seen := [], zone := 0, index := 0
        userPart := false, waits := [], torn := none }
    (s.cart.state = .empty ∨ s.cart.state = .present → no .notReady)
    ∧ (s.cart.state = .refused .typeConflict ∨ s.cart.state = .refused .typeUnknown →
        no .refusedCartridge)
    ∧ (admitted → class13Held s = true → no .faultPending)
    ∧ (admitted → class13Held s = false → ¬ options → no .badParameter)
    ∧ (admitted → class13Held s = false → options → s.cart.wp = true → no .writeProtected)
    ∧ (admitted → class13Held s = false → options → s.cart.wp = false → locked → no .formatLocked)
    ∧ (admitted → class13Held s = false → options → s.cart.wp = false → ¬ locked →
        s.spin.state ≠ .atSpeed →
        exec .format s = .next (begun e .format { startRequest (rested s) with fmt := some ctx }))
    ∧ (admitted → class13Held s = false → options → s.cart.wp = false → ¬ locked →
        s.spin.state = .atSpeed →
        exec .format s = .next (settle (begun e .format (setFormat ctx (rested s)))))

/-- R161, R162, R160: REST: its checks, the write-back of an unsaved session, and the rest of a drive
whose heads are PARKED already. R167: SPIN DOWN: refused in EMPTY, its write-back stage, and the end of the
session on a drive at rest. The stages after these are `RestAndEjectStages`. With a class 1–3 fault held the
SPIN DOWN of an unsaved session has the result NONE WRITTEN and leaves the copy status as it was: the
model's choice (log entry 76). -/
def Obligations.RestAndSpinDownBegin : Prop :=
  (∀ (e : Entry) (s : State), Waiting 0x18#8 e s →
     let standby := byteAt e.params 0 = 1
     let options := byteAt e.params 0 ≤ 1 ∧ byteAt e.params 2 ≤ 1
     let home := s.cart.state = .ready ∨ s.cart.state = .blank
     let timer : Timer := if byteAt e.params 1 = 0 then none else some (byteAt e.params 1 * 60000000)
     (¬ home → exec .rest s = .next (answered e .notReady [0#8] s))
     ∧ (home → ¬ options → exec .rest s = .next (answered e .badParameter [0#8] s))
     ∧ (home → options → s.record.unsaved = true → exec .rest s = .next (settle
         (setWork .restSave (beginWriteBack (begun e .idle (rested s))))))
     ∧ (home → options → s.record.unsaved = false → exec .rest s = .next (settle
         (setWork .restPark (requestRetract (begun e .idle (rested s))))))
     ∧ (home → options → s.record.unsaved = false → s.pos.state = .parked → ¬ standby →
         exec .rest s = .next (answered e .done [0#8] { rested s with
           rest := { state := .idle, wakeActive := true, timer } }))
     ∧ (home → options → s.record.unsaved = false → s.pos.state = .parked → standby →
         s.spin.state = .stopped →
         exec .rest s = .next (answered e .done [0#8] { rested s with
           rest := { state := .standby, wakeActive := byteAt e.params 2 == 1, timer }
           spin := { s.spin with pendingStart := false, spinUp := none } })))
  ∧ ∀ (e : Entry) (s : State), Waiting 0x11#8 e s →
    let u := begun e .idle (rested s)
    (s.cart.state = .empty → exec .spinDown s = .next (answered e .notReady [0#8] s))
    ∧ (s.cart.state ≠ .empty → s.record.unsaved = false →
        exec .spinDown s = .next (settle (setWork .downPark (requestRetract u))))
    ∧ (s.cart.state ≠ .empty → s.record.unsaved = true → class13Held s = true →
        exec .spinDown s = .next (settle (setWork .downPark (requestRetract { u with
          cu := { u.cu with slot := { u.cu.slot with result := .neither } } }))))
    ∧ (s.cart.state ≠ .empty → s.record.unsaved = true → class13Held s = false →
        s.spin.state = .atSpeed →
        exec .spinDown s = .next (settle (setWork .downSave (beginWriteBack u))))
    ∧ (s.cart.state ≠ .empty → s.record.unsaved = true → class13Held s = false →
        s.spin.state ≠ .atSpeed →
        exec .spinDown s = .next (begun e .downSpin (startRequest (rested s))))
    ∧ (s.cart.state ≠ .empty → s.record.unsaved = false → s.pos.state = .parked →
        s.spin.state = .stopped →
        exec .spinDown s = .next (answered e .done [0#8] { rested s with
          cart := { s.cart with state := stateForType s.cart.type }
          cu := { s.cu with pendWake := false
                            pendAuto := s.cart.type.isSome && s.cu.pendAuto }
          spin := { s.spin with pendingStart := false, spinUp := none }
          record := { s.record with session := .absent, copyStatus := .none, unsaved := false } }))

/-- R11, R12, R16 to R19: EJECT: refused in EMPTY, and the sequence on a drive at rest: LATCH is asserted
and the release window opens, or the shell that is gone has left. On any other drive the sequence begins by
`beginEject`, where a held class 1–3 fault leaves the copy status: the model's choice (log entry 76). -/
def Obligations.EjectReleases : Prop :=
  ∀ (e : Entry) (s : State), Waiting 0x19#8 e s →
    (s.cart.state = .empty → exec .eject s = .next (answered e .notReady [] s))
    ∧ (s.cart.state ≠ .empty → exec .eject s = .next (settle
        (beginEject false (byteAt e.params 0 % 2 == 1) (begun e .idle s))))
    ∧ (s.cart.state ≠ .empty → s.record.unsaved = false → s.pos.state = .parked →
        s.spin.state = .stopped → s.spin.brakeFailed = false → s.pins.seated = true →
        exec .eject s = .next (begun e .eject { rested s with
          cart := { s.cart with
            state := .released, latch := true, origin := some s.cart.state
            eject := some { button := false, force := byteAt e.params 0 % 2 == 1
                            stage := .leaveOrJam, window := some 2000000 } }
          cu := { s.cu with pendWake := false, pendAuto := false } }))
    ∧ (s.cart.state ≠ .empty → s.record.unsaved = false → s.pos.state = .parked →
        s.spin.state = .stopped → s.spin.brakeFailed = false → s.pins.seated = false →
        exec .eject s = .next (answered e .done [] { rested s with
          cart := { s.cart with state := .empty, type := none, wp := false, hold := false
                                latch := false }
          record := { s.record with session := .absent, copyStatus := .none, report := LoadReport.none }
          cu := { s.cu with pendWake := false, pendAuto := false
                            attention := s.cu.attention ||| 0x0002#16 } }))

/-- R107, R170, R172: READ TABLE, SET PARAMETER and LOAD DEFAULTS are answered at once, and use neither
the spindle nor the heads. READ TABLE: the checks of R107 in their order, and the layouts of R108, R109,
R172 and section 12.4. A BAD PARAMETER reply of SET PARAMETER carries 0xFF for the value taken, which is the
model's choice (log entry 18). R171 and section 12.5: SAVE SETTINGS holds the slot while the area is
written; its read-back answers it. What a save that failed leaves in the area is a free value (log entry
71). -/
def Obligations.TablesAndSettingsAnswered : Prop :=
  (∀ (e : Entry) (s : State), Waiting 0x1A#8 e s →
     let n := byteAt e.params 0
     let z := byteAt e.params 1
     let k := byteAt e.params 2
     let no (o : OutcomeCode) : Prop := exec .readTable s = .next (answered e o [byte n] s)
     let yes (f : List Byte) : Prop := exec .readTable s = .next (answered e .done (byte n :: f) s)
     let flag (b : Bool) : Byte := if b then 1#8 else 0#8
     let typeByte (t : CartType) : Byte := match t with
       | .a => 1#8
       | .b => 2#8
     let w (t : CartType) : Nat := match t with
       | .a => 8
       | .b => 32
     let bitmap (t : CartType) : Nat := match t with
       | .a => 1
       | .b => 4
     let zones (t : CartType) : Nat := match t with
       | .a => 16
       | .b => 32
     let reason (r : RefusedReason) : Byte := match r with
       | .typeUnknown => 1#8
       | .typeConflict => 2#8
       | .recordDamaged => 3#8
     let copy (c : CopyReport) : List Byte :=
       [(match c.cls with
          | .notRead => 0#8
          | .absent => 1#8
          | .damaged => 2#8
          | .valid => 3#8),
        (match c.reason with
          | .none => 0#8
          | .unreadable => 1#8
          | .noMark => 2#8
          | .version => 3#8
          | .type => 4#8
          | .zoneCount => 5#8
          | .length => 6#8
          | .sum => 7#8
          | .list => 8#8)]
       ++ (match c.header with
          | none => List.replicate 5 0#8
          | some h => 1#8 :: be16 h.generation.toNat ++ [h.type, h.flags])
     let report (state why : Byte) : Prop :=
       yes ([state, why, (match s.cart.type with
          | none => 0#8
          | some t => typeByte t)]
        ++ copy s.record.report.copy0 ++ copy s.record.report.copy1
        ++ [match s.record.report.chosen with
          | none => 0xFF#8
          | some c => byte c])
     let user (u : UserSettings) : List Byte :=
       [byte u.retry, byte u.timeout, flag u.autoStart, flag u.writeVerify]
     (4 < n → no .badParameter)
     ∧ (n = 0 → s.cart.state = .blank → report 4#8 0#8)
     ∧ (n = 0 → ∀ r, s.cart.state = .refused r → report 5#8 (reason r))
     ∧ (n = 0 → s.cart.state ≠ .ready → s.cart.state ≠ .blank → (∀ r, s.cart.state ≠ .refused r) →
         no .notReady)
     ∧ (n = 1 ∨ n = 2 → s.cart.state ≠ .ready → no .notReady)
     ∧ (∀ r : Session, s.cart.state = .ready → fullSession s = some r →
         let zone := zoneAt r.zones z
         let listed := (zone.list.drop k).take 8
         (n = 0 → yes ([3#8, typeByte r.type, flag r.lock, byte r.zones.length]
           ++ be16 r.generation.toNat ++ be32 r.serial.toNat
           ++ be16 (16 + (r.zones.map fun x => bitmap r.type + 1 + 3 * x.list.length).sum)
           ++ [(match s.record.copyStatus with
               | .none => 0#8
               | .good => 1#8
               | .degraded => 2#8), flag s.record.unsaved]))
         ∧ (n = 1 ∨ n = 2 → zones r.type ≤ z → no .outOfRange)
         ∧ (n = 1 → z < zones r.type → yes (byte z :: be32 zone.spares.toNat
             ++ [byte zone.list.length,
                 byte ((List.range (w r.type)).countP (fun i => zone.spares.getLsbD i)
                   - zone.list.length),
                 byte (spareScan r.type zone)]))
         ∧ (n = 2 → z < zones r.type → zone.list.length < k → no .outOfRange)
         ∧ (n = 2 → z < zones r.type → k ≤ zone.list.length →
             listed.length = min 8 (zone.list.length - k)
             ∧ yes ([byte z, byte zone.list.length, byte listed.length]
                 ++ listed.flatMap fun x =>
                   be16 x.offset ++ [byte x.spare] ++ be16 (z * r.type.userSlots + x.offset))))
     ∧ (n = 3 → yes (user s.set.active ++ user s.set.image))
     ∧ (n = 4 → yes ([18#8, 24#8, 12#8, 96#8, 24#8, 20#8, 10#8, 80#8, 3#8,
         byte s.set.trims.wc, byte s.set.trims.kv, byte s.set.trims.kp, byte s.set.trims.kd,
         byte s.set.trims.gs])))
  ∧ (∀ (e : Entry) (s : State),
     let v := byteAt e.params 1
     let set (g : Settings) (x : Nat) : Prop := exec .setParameter s = .next
       (answered e .done [byte (byteAt e.params 0), byte x] { s with set := g })
     (Waiting 0x1D#8 e s → exec .loadDefaults s = .next (answered e .done [] { s with
         set := { s.set with
           active := { retry := 8, timeout := 2, autoStart := false, writeVerify := false }
           trims := (s.cart.type.getD .a).factoryTrims } }))
     ∧ (Waiting 0x1B#8 e s →
         (byteAt e.params 0 = 1 →
           set { s.set with active := { s.set.active with retry := min v 15 } } (min v 15))
         ∧ (byteAt e.params 0 = 2 →
             set { s.set with active := { s.set.active with timeout := max 1 (min v 15) } }
               (max 1 (min v 15)))
         ∧ (byteAt e.params 0 = 3 →
             set { s.set with active := { s.set.active with autoStart := decide (v ≠ 0) } } (min v 1))
         ∧ (byteAt e.params 0 = 4 →
             set { s.set with active := { s.set.active with writeVerify := decide (v ≠ 0) } } (min v 1))
         ∧ (byteAt e.params 0 = 5 →
             set { s.set with trims := { s.set.trims with wc := min v 31 } } (min v 31))
         ∧ (byteAt e.params 0 = 6 →
             set { s.set with trims := { s.set.trims with kv := max 1 (min v 63) } } (max 1 (min v 63)))
         ∧ (byteAt e.params 0 = 7 →
             set { s.set with trims := { s.set.trims with kp := max 1 (min v 63) } } (max 1 (min v 63)))
         ∧ (byteAt e.params 0 = 8 →
             set { s.set with trims := { s.set.trims with kd := max 1 (min v 63) } } (max 1 (min v 63)))
         ∧ (byteAt e.params 0 = 0 ∨ 8 < byteAt e.params 0 →
             exec .setParameter s = .next
               (answered e .badParameter [byte (byteAt e.params 0), 0xFF#8] s))))
  ∧ (∀ (e : Entry) (s : State) (area image : List Byte),
       let u := s.set.active
       let head : List Byte := [0x96#8, byte u.retry, byte u.timeout,
         byte ((if u.autoStart then 1 else 0) + (if u.writeVerify then 2 else 0))]
         ++ List.replicate 10 0#8
       let uncertain : List Byte := (List.range 16).map (Config.failedSaveByte s.freeUsed)
       let reply (o : OutcomeCode) : Reply :=
         { tag := e.tag, code := e.code, outcome := o, fields := [], queued := true }
       let back := s.pins.rst = false ∧ NoWork s ∧ s.cu.slot.item = .command e ∧ e.code = 0x1C#8
         ∧ s.cu.slot.work = .saving ∧ s.set.saving = some image
       (Waiting 0x1C#8 e s →
         exec .saveSettings s = .next (begun e .saving { s with
           set := { s.set with
             saving := some (head ++ be16 ((head.map BitVec.toNat).sum % 65536)) } }))
       ∧ (back → area = image → placesUsed s < 8 →
           exec (.saveSettingsReadBack area) s = .next (replied (reply .done) { s with
             cu := { s.cu with slot := Slot.free }
             set := { s.set with userArea := area, image := s.set.active, saving := none } }))
       ∧ (back → area ≠ image → placesUsed s < 8 →
           exec (.saveSettingsReadBack area) s = .next (replied (reply .settingsWriteFailed) { s with
             cu := { s.cu with slot := Slot.free }
             set := { s.set with userArea := uncertain, saving := none }
             freeUsed := s.freeUsed + 1 }))
       ∧ (back → area ≠ image → 8 ≤ placesUsed s →
           exec (.saveSettingsReadBack area) s = .next { s with
             cu := { s.cu with slot := { s.cu.slot with work := .replying (reply .settingsWriteFailed) } }
             set := { s.set with userArea := uncertain, saving := none }
             freeUsed := s.freeUsed + 1 })
       ∧ (back → area = image → 8 ≤ placesUsed s →
           exec (.saveSettingsReadBack area) s = .next { s with
             cu := { s.cu with slot := { s.cu.slot with work := .replying (reply .done) } }
             set := { s.set with userArea := area, image := s.set.active, saving := none } }))

/-- R176, R177: a marked command at the queue head is answered CANCELLED, but a pending BUTTON EJECT goes
before it while no soft reset is in progress; and a row whose command may not
take the slot does nothing (log entry 7). -/
def Obligations.CancelledAnswered : Prop :=
  ∀ (e : Entry) (s : State), s.pins.rst = false → s.cu.queue.head? = some e →
    (Quiet s → e.cancelled = true → s.cu.resets ≠ [] ∨ s.cu.pendEject = false →
      exec .cancelledCommandTakesSlot s = .next (answered e .cancelled [] s))
    ∧ (s.cu.resets = [] → s.cu.pendEject = true → exec .cancelledCommandTakesSlot s = .next s)
    ∧ (e.cancelled = false → exec .cancelledCommandTakesSlot s = .next s)
    ∧ (s.cu.slot.item ≠ .free → exec .cancelledCommandTakesSlot s = .next s)
    ∧ ∀ c ∈ [Instr.spinUp, .spinDown, .seek, .read, .write, .verify, .reassign, .format, .rest, .eject,
        .readTable, .setParameter, .saveSettings, .loadDefaults],
        s.cu.slot.item ≠ .free ∨ s.cu.resets ≠ [] ∨ s.cu.pendEject = true ∨ e.cancelled = true →
        exec c s = .next s

/-! ### Internal operations, the soft reset and the cartridge handler -/

/-- R5, R6, R176: AUTO START at the slot. R165, R156, R176: TIMED WAKE at the slot. R184, R160, R172: SOFT
RESET PARK, and with the heads PARKED already the RESTORE stage after it. A row whose item may not take the
slot does nothing (log entry 7). -/
def Obligations.InternalOperationsRun : Prop :=
  (∀ s : State, s.pins.rst = false → Quiet s →
     let may := s.cu.resets = [] ∧ s.cu.pendEject = false ∧ s.cu.pendAuto = true
     let u : State := { s with cu := { s.cu with pendAuto := false } }
     let started (p : Spindle) : State := { u with
       cu := { u.cu with slot := { Slot.free with item := .autoStart, work := .startSpin } }
       cart := { s.cart with state := .starting }
       spin := p }
     (may → s.cart.state ≠ .present ∨ class13Held s = true → exec .autoStart s = .next u)
     ∧ (may → s.cart.state = .present → class13Held s = false → s.spin.state ≠ .atSpeed →
         exec .autoStart s = .next (started (startRequest s).spin))
     ∧ (may → s.cart.state = .present → class13Held s = false → s.spin.state = .atSpeed →
         exec .autoStart s = .next (settle (started s.spin)))
     ∧ (¬ may → exec .autoStart s = .next s))
  ∧ (∀ s : State, s.pins.rst = false → Quiet s →
       let may := s.cu.resets = [] ∧ s.cu.pendEject = false ∧ s.cu.pendWake = true
       let slot : Slot := { Slot.free with item := .timedWake, work := .wakeSpin }
       let waking (v : State) : State := { v with cu := { v.cu with slot } }
       (may → s.rest.state = .none → exec .timedWake s
         = .next { s with cu := { s.cu with pendWake := false } })
       ∧ (may → s.rest.state ≠ .none → class13Held s = true →
           exec .timedWake s = .next { rested s with
             cu := { s.cu with pendWake := false, attention := s.cu.attention ||| 0x0040#16 } })
       ∧ (may → s.rest.state ≠ .none → class13Held s = false → s.spin.state ≠ .atSpeed →
           exec .timedWake s = .next (waking (startRequest (rested s))))
       ∧ (may → s.rest.state ≠ .none → class13Held s = false → s.spin.state = .atSpeed →
           s.rest.wakeActive = false →
           exec .timedWake s = .next { rested s with
             cu := { s.cu with pendWake := false, attention := s.cu.attention ||| 0x0040#16 } })
       ∧ (may → s.rest.state ≠ .none → class13Held s = false → s.spin.state = .atSpeed →
           exec .timedWake s = .next (settle (waking (rested s))))
       ∧ (¬ may → exec .timedWake s = .next s))
  ∧ (∀ (s : State) (tag : Byte) (rest : List Byte), s.pins.rst = false → Quiet s →
       s.cu.resets = tag :: rest →
       let drained := ∀ e, s.cu.queue.head? = some e → e.cancelled = false
       let u : State := { rested s with cu := { s.cu with
         pendAuto := false, pendWake := false
         slot := { Slot.free with item := .softReset tag } } }
       (drained → s.pos.state = .parked →
         exec .softResetPark s = .next (replied
           { tag, code := 0x35#8, outcome := .done, fields := [], queued := false }
           { rested s with
             cu := { s.cu with pendAuto := false, pendWake := false, resets := rest
                               attention := s.cu.attention &&& 0xFDFF#16 }
             set := { s.set with active := s.set.image
                                 trims := (s.cart.type.getD .a).factoryTrims } }))
       ∧ (drained → exec .softResetPark s = .next (settle (setWork .resetPark (requestRetract u))))
       ∧ (¬ drained → exec .softResetPark s = .next s))

/-- R9, R164: EJECT BUTTON PRESS: ignored, EJECT ASKED under the removal hold, or a BUTTON EJECT request.
R10, R12, R14, R16 to R18, R176: BUTTON EJECT at the slot; its first clause gives the sequence on a drive
at rest with nothing unsaved, its third an unsaved session with the platter not AT_SPEED; by its second a
held class 1–3 fault meets the write-back AT_SPEED only once it has begun, the model's choice (log entry
60). R20: RELEASE
WINDOW EXPIRY: the shell has jammed. A BUTTON EJECT that may not take the slot, and the expiry outside
RELEASED, do nothing (log entries 5 and 7). -/
def Obligations.ButtonEjects : Prop :=
  (∀ s : State, s.pins.rst = false →
     let ignored := s.cart.state = .empty ∨ s.cart.state = .unloading ∨ s.cart.state = .released
       ∨ s.cu.pendEject = true
     let u : State := { rested s with cu := { s.cu with
       pendEject := true, pendAuto := false, pendWake := false
       queue := s.cu.queue.map fun e => { e with cancelled := true } } }
     (ignored → exec .ejectButtonPress s = .next s)
     ∧ (¬ ignored → s.cart.hold = true → exec .ejectButtonPress s
         = .next { s with cu := { s.cu with attention := s.cu.attention ||| 0x0004#16 } })
     ∧ (¬ ignored → s.cart.hold = false → abortReaches s = false →
         exec .ejectButtonPress s = .next (settle u))
     ∧ (¬ ignored → s.cart.hold = false → abortReaches s = true →
         exec .ejectButtonPress s = .next (settle { u with
           cu := { u.cu with slot := { s.cu.slot with abortPending := true } }
           chan := { s.chan with
             transfer := s.chan.transfer.map fun t => { t with abortPending := true }
             reassign := s.chan.reassign.map fun r => { r with abortPending := true } }
           fmt := s.fmt.map fun f => { f with abortPending := true } })))
  ∧ (∀ s : State, s.pins.rst = false → Quiet s →
       let may := s.cu.resets = [] ∧ s.cu.pendEject = true
       let slot : Slot := { Slot.free with item := .buttonEject, work := .eject }
       let u : State := { s with cu := { s.cu with
         pendEject := false, slot := { Slot.free with item := .buttonEject } } }
       (may → s.record.unsaved = false → s.pos.state = .parked → s.spin.state = .stopped →
         s.spin.brakeFailed = false → s.pins.seated = true →
         exec .buttonEject s = .next { rested s with
           cart := { s.cart with
             state := .released, latch := true, origin := some s.cart.state
             eject := some { button := true, force := false, stage := .leaveOrJam
                             window := some 2000000 } }
           cu := { s.cu with pendEject := false, pendWake := false, pendAuto := false, slot } })
       ∧ (may → exec .buttonEject s = .next (settle (beginEject true false u)))
       ∧ (may → s.record.unsaved = true → s.cart.wp = false → s.spin.state ≠ .atSpeed →
           s.pos.state = .retracting →
           exec .buttonEject s = .next { rested s with
             cart := { s.cart with
               state := .unloading, origin := some s.cart.state
               eject := some { button := true, force := false, stage := .park, window := none } }
             cu := { s.cu with pendEject := false, pendWake := false, pendAuto := false, slot
                               attention := s.cu.attention ||| 0x0080#16 } })
       ∧ (¬ may → exec .buttonEject s = .next s))
  ∧ (∀ s : State, s.pins.rst = false →
       let lost : BitVec 16 := if s.record.unsaved then 0x0080#16 else 0#16
       let jammed : State := { s with
         cart := { s.cart with state := stateForType s.cart.type, latch := false }
         record := { s.record with session := .absent, copyStatus := .none, unsaved := false
                                   report := LoadReport.none }
         cu := { s.cu with attention := s.cu.attention ||| lost ||| 0x0008#16
                           pendAuto := s.cart.type.isSome && s.cu.pendAuto } }
       (s.cart.state = .released → exec .releaseWindowExpiry s
         = .next (settle (finish .ejectJammed jammed)))
       ∧ (s.cart.state ≠ .released → exec .releaseWindowExpiry s = .next s))

/-- R2, R3: INSERTION. R4, R7, R19: SEATED FALLING: a removal, the end of an eject, and no effect
otherwise. -/
def Obligations.ShellComesAndGoes : Prop :=
  (∀ (a b w : Bool) (s : State), s.pins.rst = false →
     let p : Pins := { s.pins with seated := true, notchA := a, notchB := b, wprot := w }
     let att : BitVec 16 := s.cu.attention ||| 0x0001#16
     let trims (wc kv kp kd : Nat) : Settings :=
       { s.set with trims := { wc, kv, kp, kd, gs := s.set.trims.gs } }
     let auto := s.cu.pendAuto || (s.set.active.autoStart && !class13Held s)
     (s.cart.state = .empty → a = true → b = false →
       exec (.insertion a b w) s = .next { s with
         pins := p
         cart := { s.cart with state := .present, type := some .a, wp := w }
         set := trims 18 24 12 96
         cu := { s.cu with attention := att, pendAuto := auto } })
     ∧ (s.cart.state = .empty → a = false → b = true →
         exec (.insertion a b w) s = .next { s with
           pins := p
           cart := { s.cart with state := .present, type := some .b, wp := w }
           set := trims 24 20 10 80
           cu := { s.cu with attention := att, pendAuto := auto } })
     ∧ (s.cart.state = .empty → a = b →
         exec (.insertion a b w) s = .next { s with
           pins := p
           cart := { s.cart with state := .refused .typeUnknown, type := none, wp := w }
           cu := { s.cu with attention := att, pendAuto := false } })
     ∧ (s.cart.state ≠ .empty → exec (.insertion a b w) s = .next { s with pins := p }))
  ∧ (∀ s : State, s.pins.rst = false →
       let p : Pins := { s.pins with seated := false }
       let removable := (s.cart.state = .present ∨ ∃ r, s.cart.state = .refused r)
         ∧ s.spin.state = .stopped ∧ s.pos.state = .parked
       let lost : BitVec 16 := if s.record.unsaved then 0x0080#16 else 0#16
       let gone : State := { s with
         pins := p
         cart := { s.cart with state := .empty, type := none, wp := false, hold := false
                               latch := false }
         record := { s.record with session := .absent, copyStatus := .none, unsaved := false
                                   report := LoadReport.none }
         cu := { s.cu with pendAuto := false, attention := s.cu.attention ||| lost ||| 0x0002#16 } }
       (removable → exec .seatedFalling s
         = .next { gone with cu := { gone.cu with pendEject := false } })
       ∧ (s.cart.state = .released → exec .seatedFalling s = .next (settle (finish .done gone)))
       ∧ (s.cart.state ≠ .released → ¬ removable → exec .seatedFalling s = .next { s with pins := p }))

/-! ### The spindle -/

/-- R29, R30, R31, R148: the expiries of a start raise SPINDLE STALL (spin-up): the record, the stop of
the spindle, the marked queue, and the End of the executing item. R34, R148: INDEX LOSS: in REGULATE the
spindle brakes; in AT_SPEED with the heads PARKED too, and with the heads flying it coasts while they
retract. R38, R28, R148: STOP TIMER EXPIRY and BRAKE TIMER EXPIRY. Each is void in the other states, and
the counts are set to what the event says of them (log entry 5); the KICK of a pending start comes before
the reports of STOPPED (log entry 59). -/
def Obligations.SpindleTimersAct : Prop :=
  (∀ s : State, s.pins.rst = false →
     let stall (v : State) : State := noteEnd .stallSpinUp (marked { recorded .stallSpinUp v with
       spin := brakes v.spin })
     let starting := s.spin.state = .kick ∨ s.spin.state = .accel ∨ s.spin.state = .regulate
     (SpindleLaw s → GateLaw s → s.pos.held = none →
       (s.spin.state = .kick → exec .kickTimerExpiry s = .next (settle (stall s)))
       ∧ (s.spin.state = .accel → exec .accelGapSaturation s
           = .next (settle (stall { s with spin := { s.spin with gap := 1000000 } })))
       ∧ (starting → exec .spinUpTimerExpiry s = .next (settle (stall s))))
     ∧ (s.spin.state ≠ .kick → exec .kickTimerExpiry s = .next s)
     ∧ (s.spin.state ≠ .accel → exec .accelGapSaturation s = .next s)
     ∧ (¬ starting → exec .spinUpTimerExpiry s = .next s))
  ∧ (∀ s : State, s.pins.rst = false →
     let v : State := { s with spin := { s.spin with gap := max s.spin.gap 50001 } }
     let turning := s.spin.state = .regulate ∨ s.spin.state = .atSpeed
     (turning → exec .indexLoss s = .next (settle (raise .stallIndexLoss v)))
     ∧ (turning → GateLaw s → s.pos.state = .parked → s.pos.held = none →
         exec .indexLoss s = .next (settle (noteEnd .stallIndexLoss
           (marked { recorded .stallIndexLoss v with spin := brakes v.spin }))))
     ∧ (s.spin.state = .atSpeed → Quiet s → s.pos.state = .following → s.pins.park = false →
         exec .indexLoss s = .next (retracts (marked { recorded .stallIndexLoss v with
           spin := { coasts v.spin with pendingStart := false } })))
     ∧ (¬ turning → exec .indexLoss s = .next s))
  ∧ ∀ s : State, s.pins.rst = false →
    let p : Spindle := { s.spin with state := .stopped, drive := 0, deviating := false, stop := none
                                     brake := none, brakeFailed := false }
    let v : State := { s with spin := { s.spin with brake := none, brakeFailed := true
                                                    pendingStart := false, spinUp := none } }
    let again := s.spin.pendingStart = true ∧ s.pos.state = .parked
    (s.spin.state = .braking → again → exec .stopTimerExpiry s
      = .next (settle { s with spin := kicks p }))
    ∧ (s.spin.state = .braking → ¬ again → exec .stopTimerExpiry s
        = .next (settle { s with spin := p }))
    ∧ (s.spin.state ≠ .braking → exec .stopTimerExpiry s = .next s)
    ∧ (SpindleLaw s → GateLaw s → s.pos.held = none → s.spin.state = .braking → s.spin.brake ≠ none →
        exec .brakeTimerExpiry s
          = .next (settle (noteEnd .stallBrake (marked (recorded .stallBrake v)))))
    ∧ (s.spin.state ≠ .braking ∨ s.spin.brake = none → exec .brakeTimerExpiry s = .next s)

/-! ### The head positioner and the clock -/

/-- R50, R45, R57, R111: MARK STROBE. A strobe that names no cylinder of the cartridge is ignored, and so
is every strobe with the type unknown (log entry 49); a valid sample is taken by the positioner and the
clock while the heads fly, and then the rotation position advances, but for sample 0 and with the heads
PARKED. That the sample is worked out before the position advances, and that the position advances in
RETRACTING and EMERGENCY too, are the model's readings (log entries 11 and 12). The first part says what a
sample does whatever the state makes of it, and ends with a sample on track in FOLLOWING.

R53, R54 to R60, R62, R72: the second part says what the sample does to the positioner, with any work in hand
and in full with none. `r` is the distance to the target and `vm` the measured velocity. In a seek |r| chooses
the state and the formula, the settle count rises within 32, and the fourth such sample completes the seek, also
where it is the 400th (R60); otherwise the 400th restarts the seek or is its second timeout. On a track |r|
beyond 48 raises the off-track count, and the third such sample begins a new settle; with a sector write in
progress the first one cuts it, raises OFF TRACK and begins that settle, and the WRITE is answered FAULTED with
the torn block. The model's readings and choices: the first sample of a load counts in neither count (log entry
19), a SEEK FAILED has the tag of the command in the slot (81), and the off-track count returns to 0 on track
whether or not WGATE is asserted (80). -/
def Obligations.MarkStrobeActs : Prop :=
  (∀ (cyl : Nat) (pe : Int) (idx park : Bool) (sig : ReadSignal) (s : State), s.pins.rst = false →
    let p : State := { s with pins := { s.pins with park } }
    let valid := ∃ ty, s.cart.type = some ty ∧ cyl ≤ ty.lastCylinder
    let x : Int := 256 * (cyl : Int) + pe
    let t := takeSample cyl pe s
    let count : Clock := { locked := s.clk.locked || decide (31 ≤ s.clk.good)
                           good := min 32 (s.clk.good + 1), miss := some 1200 }
    (¬ valid → exec (.markStrobe cyl pe idx park sig) s = .next p)
    ∧ (valid → s.pos.state = .parked → Quiet s → exec (.markStrobe cyl pe idx park sig) s = .next p)
    ∧ (valid → s.pos.state ≠ .parked → exec (.markStrobe cyl pe idx park sig) s
        = .next (if idx then settle (takeSample cyl pe p)
                 else rotateNext sig (settle (takeSample cyl pe p))))
    ∧ (s.pos.state.flying = false → t = s)
    ∧ (s.pos.state.flying = true → s.pos.held = none →
        t.pos.cylinder = cyl ∧ t.pos.x = x ∧ t.pos.xp = some x
        ∧ (t.pos.state.flying = true → t.clk = count))
    ∧ ∀ tgt xp, valid → Quiet s → s.pos.state = .following → s.pos.landHere = false →
        s.pos.target = some tgt → s.pos.xp = some xp → |tgt.position - x| ≤ 48 →
        exec (.markStrobe cyl pe idx park sig) s = .next { p with
          clk := count
          pos := { s.pos with x, xp := some x, cylinder := cyl, offTrack := 0
                              current := fineCurrent s.set.trims (tgt.position - x) (x - xp) }
          chan := { s.chan with
            rotation := if idx then s.chan.rotation else max s.chan.rotation
              (min 31 (s.chan.rotation + 1)) } })
  ∧ ∀ (cyl : Nat) (pe : Int) (idx park : Bool) (sig : ReadSignal) (s : State) (tgt : Target) (ty : CartType),
    s.pins.rst = false → s.cart.type = some ty → cyl ≤ ty.lastCylinder →
    (if s.pos.landHere then some { cyl, offset := 0 } else s.pos.target) = some tgt →
    let x : Int := 256 * (cyl : Int) + pe
    let r : Int := 256 * (tgt.cyl : Int) + tgt.offset - x
    let coasts := s.pos.state = .coasting
    let vm : Int := if coasts then 0 else match s.pos.xp with
      | some xp => x - xp
      | none => 0
    let v (q : Positioner) : State := { s with
      pins := { s.pins with park }
      clk := { locked := s.clk.locked || decide (31 ≤ s.clk.good)
               good := min 32 (s.clk.good + 1), miss := some 1200 }
      pos := { q with
        x, xp := some x, cylinder := cyl, target := some tgt
        missing := if coasts then 0 else s.pos.missing
        resume := if s.pos.landHere then cyl else s.pos.resume, landHere := false } }
    let next (u : State) : Prop := exec (.markStrobe cyl pe idx park sig) s
      = .next (if idx then settle u else rotateNext sig (settle u))
    let quiet (u : State) : Prop := Quiet s → exec (.markStrobe cyl pe idx park sig) s
      = .next { u with chan := { u.chan with
          rotation := if idx then s.chan.rotation else max s.chan.rotation
            (min 31 (s.chan.rotation + 1)) } }
    let informs (o : TargetOutcome) (u : State) : State :=
      if s.pos.requester = none then u else tell o u
    let i : Int := if |r| ≤ 512 then fineCurrent s.set.trims r vm else coarseCurrent ty s.set.trims r vm
    let n := if |r| ≤ 32 then s.pos.settle + 1 else 0
    let k := s.pos.seekCount + 1
    let chosen : Positioner := { s.pos with
      state := if |r| ≤ 512 then .settling else .seeking, current := i }
    let going : Positioner := { chosen with settle := n, seekCount := k }
    let complete : Positioner := { going with
      state := .following, requester := none, seekCount := 0, restartUsed := false, offTrack := 0 }
    let restarted : Positioner := { going with seekCount := 0, restartUsed := true, settle := 0 }
    let failed : State := v { going with requester := none }
    let seeks := s.pos.state = .seeking ∨ s.pos.state = .settling
      ∨ coasts ∧ s.pos.remembered ≠ .following
    let follows := s.pos.state = .following ∨ coasts ∧ s.pos.remembered = .following
    let on : Positioner := { s.pos with state := .following, current := fineCurrent s.set.trims r vm }
    let again : Positioner := { on with
      state := .settling, settle := 0, offTrack := 0, seekCount := 0, restartUsed := false }
    -- the first sample of a load, and the samples of a seek
    (s.pos.state = .loading →
      let u := v { chosen with load := none, seekCount := 0, restartUsed := false }
      next u ∧ quiet u)
    ∧ (seeks → n < 4 → k < 400 → next (v going) ∧ quiet (v going))
    ∧ (seeks → 4 ≤ n → next (informs .complete (v complete)) ∧ quiet (v complete))
    ∧ (seeks → n < 4 → 400 ≤ k → s.pos.restartUsed = false →
        next (v restarted) ∧ quiet (v restarted))
    ∧ (seeks → n < 4 → 400 ≤ k → s.pos.restartUsed = true →
        next (raise .seekSeek (informs .failed failed))
        ∧ (park = false → quiet (retracts (recorded .seekSeek failed))))
    -- the samples on a track
    ∧ (follows → |r| ≤ 48 → next (v { on with offTrack := 0 }) ∧ quiet (v { on with offTrack := 0 }))
    ∧ (follows → 48 < |r| → s.chan.wgate = false → s.pos.offTrack + 1 < 3 →
        let u := v { on with offTrack := s.pos.offTrack + 1 }
        next u ∧ quiet u)
    ∧ (follows → 48 < |r| → s.chan.wgate = false → 3 ≤ s.pos.offTrack + 1 →
        (s.chan.op = none → next (v again))
        ∧ (∀ b, s.chan.op = some (.read b) → next (sectorIs .interrupted { v again with
            chan := { s.chan with op := none, writeCurrent := 0 } }))
        ∧ quiet (v again))
    ∧ (∀ b d, s.chan.op = some (.write b d) → follows → 48 < |r| → s.chan.wgate = true →
        s.mail = Mail.none →
        next { wroteWith .cut .offTrack (severed b (recorded .offTrack (v on))) with pos := (v again).pos })
    ∧ (∀ b d, s.chan.op = some (.write b d) → ∀ t : Transfer, s.chan.transfer = some t →
        ∀ e : Entry, follows → 48 < |r| → s.chan.wgate = true → Stage (.command e) .data s →
        e.code = 0x14#8 → t.cmd = .write → t.phase = .sector → t.mark = false →
        s.chan.outstanding = [] → tgt.offset = 0 → placesUsed s < 8 →
        ∃ u, exec (.markStrobe cyl pe idx park sig) s = .next u ∧ u.cu.slot = Slot.free
          ∧ u.link.outbox = s.link.outbox ++ [{
              tag := e.tag, code := e.code, outcome := .faulted, queued := true
              fields := [byte t.count, byte t.done] ++ be32 (t.first + t.idx)
                ++ [byte t.reassigned, byte t.result.code] }]
          ∧ u.pos = { (v again).pos with
              requester := none, held := s.pos.held.map fun h => (h.1, none) })

/-- R43, R44, R62, R63, R60, R111: MISSING SAMPLE DECLARATION, SERVO LOSS and SEEK TIMEOUT, with any work in
hand: the settle and the rotation that follow are those of the item in the slot; on a part with no work in
hand the last clauses give the whole next state. Outside the states in which samples can be missing, or
outside a seek, each is void, and the rows stand for the eighth declaration and the 400th sample (log entry
5). The sample is worked out before the position advances (log entry 11). The eighth declaration is SERVO
LOSS also where it would be the 400th sample (log entry 61). -/
def Obligations.MissingSamplesAct : Prop :=
  ∀ s : State, s.pins.rst = false →
    let tracks := s.pos.state = .seeking ∨ s.pos.state = .settling ∨ s.pos.state = .following
      ∨ s.pos.state = .coasting
    let seeks := s.pos.state = .seeking ∨ s.pos.state = .settling
    let inSeek := seeks ∨ s.pos.state = .coasting ∧ s.pos.remembered ≠ .following
    let v : State := { s with clk := { locked := false, good := 0, miss := some 781 } }
    let next (u : State) : Prop := exec .missingSampleDeclaration s
      = .next (rotateNext ReadSignal.none (settle u))
    let m : State := { v with
      chan := { s.chan with rotation := max s.chan.rotation (min 31 (s.chan.rotation + 1)) } }
    let coast (n : Nat) (p : Positioner) : Positioner := { p with
      state := .coasting, current := 0, remembered := s.pos.state, missing := 1, settle := 0
      offTrack := 0, seekCount := n }
    let timedOut (u : State) : State :=
      if s.pos.restartUsed = false then
        { u with pos := { u.pos with seekCount := 0, restartUsed := true, settle := 0 } }
      else
        let t := if s.pos.requester = none then u else tell .failed u
        raise .seekSeek { t with pos := { t.pos with requester := none } }
    (¬ tracks → exec .missingSampleDeclaration s = .next s ∧ exec .servoLoss s = .next s)
    ∧ (tracks → exec .servoLoss s = .next (rotateNext ReadSignal.none (settle (raise .servoLoss v))))
    ∧ (tracks → Quiet s → s.pins.park = false → exec .servoLoss s
        = .next (retracts (marked (recorded .servoLoss m))))
    ∧ (s.pos.state = .coasting → 8 ≤ s.pos.missing + 1 →
        exec .missingSampleDeclaration s = exec .servoLoss s)
    ∧ (s.pos.state = .following →
        next { depart v with pos := coast s.pos.seekCount s.pos })
    ∧ (seeks → s.chan.op = none → s.pos.seekCount + 1 < 400 →
        next { v with pos := coast (s.pos.seekCount + 1) s.pos })
    ∧ (seeks → s.chan.op = none → 400 ≤ s.pos.seekCount + 1 →
        next (timedOut { v with pos := coast (s.pos.seekCount + 1) s.pos }))
    ∧ (s.pos.state = .coasting → s.pos.missing + 1 < 8 → s.pos.remembered = .following →
        next { v with pos := { s.pos with missing := s.pos.missing + 1 } })
    ∧ (s.pos.state = .coasting → s.pos.missing + 1 < 8 → s.pos.remembered ≠ .following →
        s.pos.seekCount + 1 < 400 →
        next { v with pos := { s.pos with missing := s.pos.missing + 1
                                          seekCount := s.pos.seekCount + 1 } })
    ∧ (s.pos.state = .coasting → s.pos.missing + 1 < 8 → s.pos.remembered ≠ .following →
        400 ≤ s.pos.seekCount + 1 →
        next (timedOut { v with pos := { s.pos with missing := s.pos.missing + 1
                                                    seekCount := s.pos.seekCount + 1 } }))
    ∧ (Quiet s → s.pos.state = .following →
        exec .missingSampleDeclaration s = .next { m with pos := coast s.pos.seekCount s.pos })
    ∧ (Quiet s → seeks → s.pos.seekCount + 1 < 400 →
        exec .missingSampleDeclaration s = .next { m with pos := coast (s.pos.seekCount + 1) s.pos })
    ∧ (Quiet s → s.pos.state = .coasting → s.pos.missing + 1 < 8 → s.pos.remembered = .following →
        exec .missingSampleDeclaration s
          = .next { m with pos := { s.pos with missing := s.pos.missing + 1 } })
    ∧ (¬ inSeek → exec .seekTimeout s = .next s)
    ∧ (inSeek → exec .seekTimeout s = .next (settle (timedOut s)))
    ∧ (inSeek → s.pos.restartUsed = true → Quiet s → s.pins.park = false →
        exec .seekTimeout s = .next (retracts (recorded .seekSeek s)))

/-- R53, R65 to R68, R39, R40, R64, R152: LOAD TIMER EXPIRY, RETRACT TIMER EXPIRY, EMERGENCY TIMER EXPIRY
and PARK RISES, with any work in hand, and each on a part with no work in hand in full. Each is void in the
other states of the heads (log entry 5). That SEEK FAILED (park) is raised, and discards a held request,
before the request can act is the model's reading (log entry 51). -/
def Obligations.HeadTimersAct : Prop :=
  ∀ (park : Bool) (s : State), s.pins.rst = false →
    let p : State := { s with pins := { s.pins with park } }
    let v : State := { s with pins := { s.pins with park := true } }
    let home := s.pos.state = .retracting ∨ s.pos.state = .emergency
    let told (u : State) : State := { u with
      spin := if s.spin.state = .coasting then
          { brakes s.spin with pendingStart := s.spin.pendingStart }
        else if s.spin.state = .stopped ∧ s.spin.pendingStart = true then kicks s.spin
        else s.spin }
    let home' (u : State) : State := { told (parks u) with
      pos := { (parks u).pos with held := s.pos.held } }
    (s.pos.state ≠ .loading → exec (.loadTimerExpiry park) s = .next s)
    ∧ (s.pos.state = .loading → exec (.loadTimerExpiry park) s = .next (settle (raise .seekLoad
        (let u := if s.pos.requester = none then p else tell .failed p
         { u with pos := { u.pos with requester := none } }))))
    ∧ (s.pos.state = .loading → Quiet s → s.spin.state = .atSpeed →
        exec (.loadTimerExpiry park) s = .next (if park then parks (recorded .seekLoad p)
          else retracts (recorded .seekLoad p)))
    ∧ (s.pos.state ≠ .retracting → exec .retractTimerExpiry s = .next s)
    ∧ (s.pos.state = .retracting → exec .retractTimerExpiry s = .next (settle (enterEmergency s)))
    ∧ (s.pos.state = .retracting → Quiet s → s.pins.park = false →
        exec .retractTimerExpiry s = .next { inEmergency s with
          spin := if s.spin.state = .atSpeed then coasts s.spin else s.spin })
    ∧ (s.pos.state ≠ .emergency → exec .emergencyTimerExpiry s = .next s)
    ∧ (s.pos.state = .emergency → exec .emergencyTimerExpiry s
        = .next (settle (raise .seekPark (home' s))))
    ∧ (s.pos.state = .emergency → Quiet s →
        exec .emergencyTimerExpiry s = .next (recorded .seekPark (told (parks s))))
    ∧ (¬ home → exec .parkRises s = .next v)
    ∧ (home → exec .parkRises s = .next (settle (heldActs (settle (home' v)))))
    ∧ (home → s.pos.held = none →
        exec .parkRises s = .next (settle (settle (told (parks v)))))
    ∧ (home → ∀ t q, s.pos.held = some (t, q) → Quiet { s with pos := { s.pos with held := none } } →
        s.spin.state = .atSpeed →
        exec .parkRises s = .next (if class13Held s = false ∧ s.cart.type ≠ none then
          loads t q (parks v) else parks v))
    ∧ (home → Quiet s → exec .parkRises s = .next (told (parks v)))

/-! ### Sectors, faults, waits and the supply -/

/-- R112, R114 to R119, R121, R122, R125, R126, R144: the stages of a READ, a VERIFY and a WRITE. In order:
the end of the sector of a block, the heads on its target; the wait for the frames of an ended command; the
start of a sector; the stages before a block's sector; the write-back of a WRITE.

A good read is buffered or counted, and the last one ends the command DONE, or RECOVERED after a retry; a
failed one goes to the next attempt with that attempt's offset, and the last one raises DATA CHECK and is
answered with the failing block. A write ends with the gate closed; the block is done, or is read back if
write verify is on. A read-back that compares ends the block; one that does not moves the block to a new spare,
or ends the command SPARES EXHAUSTED. `q` is the rotation position at which the sector ends.

At the start of the block's own sector a read begins on target with the clock locked, a READ's if a buffer
slot is free; with the clock on REFERENCE the first pass only sets the mark, and a later one is a failed
attempt. A write begins at the write gate with its data in hand, and otherwise its gate wait runs. A command
waits for AT_SPEED, translates its block, and asks for the target or goes on at once if it is there; R114's
table gives the end for each outcome but COMPLETE, and R126's the end for each result of the write-back. A fault
or SEEK FAILED that ends that write-back gives the reply as log entry 33 says. -/
def Obligations.BlockEndsWithItsSector : Prop :=
  (∀ (s : State) (e : Entry) (t : Transfer) (q : Nat) (sig : ReadSignal) (d : List Byte),
    s.chan.transfer = some t → t.abortPending = false → t.timedOut = false →
    s.mail = Mail.none → s.record.copyWrite = none → s.record.load = none →
    s.cu.slot.item = .command e → s.cu.slot.work = .data → onTarget t.place.cyl t.offset s = true →
    let u := settle (sectorEnds q sig s)
    let good := sig.ident = some (t.place.cyl, t.place.head, t.place.sector) ∧ sig.checkOk = true
      ∧ sig.data.length = 512
    let ends := s.chan.op = some (.read t.place) ∧ endsAt q (.read t.place) = true
    let reads := t.cmd ≠ .write ∧ t.phase = .sector ∧ t.chain = false ∧ t.mark = false
      ∧ t.failing = none ∧ ends
    let more := t.idx + 1 < t.count
    let how (r : Bool) : OutcomeCode := if r then .recovered else .done
    let late := t.recovered || decide (2 ≤ t.attempt)
    let after (p : Transfer → Prop) : Prop := ∃ t', u.chan.transfer = some t' ∧ p t'
    let answers (o : OutcomeCode) (f : List Byte) : Prop := u.cu.slot = Slot.free
      ∧ u.chan.transfer = none ∧ u.link.outbox = s.link.outbox ++ [{
          tag := e.tag, code := e.code, outcome := o, fields := f, queued := true }]
    let buffered : Transfer → Prop := fun t' => t'.done = t.done ∧ t'.recovered = late
      ∧ (more → t'.idx = t.idx + 1) ∧ (¬ more → t'.phase = .drain ∧ t'.outcome = how late)
    (reads → good → t.cmd = .read → s.chan.slot0 = .free → s.chan.slot1 = .free →
      u.chan.op = none ∧ u.chan.slot0 = .holding t.idx sig.data
      ∧ u.chan.readyTimer = some (s.set.active.timeout * 1000000) ∧ after buffered)
    ∧ (∀ j x, s.chan.slot0 = .holding j x → reads → good → t.cmd = .read → s.chan.slot1 = .free →
        u.chan.op = none ∧ u.chan.slot0 = .holding j x ∧ u.chan.slot1 = .holding t.idx sig.data
        ∧ u.chan.readyTimer = s.chan.readyTimer ∧ after buffered)
    ∧ (reads → good → t.cmd = .verify → more → u.chan.op = none ∧ after fun t' =>
        t'.idx = t.idx + 1 ∧ t'.done = t.done + 1 ∧ t'.recovered = late)
    ∧ (reads → good → t.cmd = .verify → ¬ more → e.code = 0x15#8 → placesUsed s < 8 →
        answers (how late) [byte t.count, byte (t.done + 1), 0xFF#8, 0xFF#8, 0xFF#8, 0xFF#8])
    ∧ (reads → ¬ good → t.attempt ≤ t.limit → u.chan.op = none ∧ u.chan.slot0 = s.chan.slot0
        ∧ u.chan.slot1 = s.chan.slot1 ∧ u.fault.slot = s.fault.slot
        ∧ after fun t' => t'.idx = t.idx ∧ t'.attempt = t.attempt + 1
            ∧ t'.offset = attemptOffset (t.attempt + 1))
    ∧ (reads → ¬ good → t.limit < t.attempt → e.code = 0x13#8 ∨ e.code = 0x15#8 → placesUsed s < 8 →
        s.chan.slot0 = .free → s.chan.slot1 = .free → (∀ i x, s.link.send ≠ some (.data i x)) →
        u.fault.slot = some (offerTo s.fault.slot (formRecord .dataCheck s))
        ∧ answers .dataCheck ([byte t.count, byte t.done] ++ be32 (t.first + t.idx)))
    ∧ (let writes := t.cmd = .write ∧ t.phase = .sector ∧ s.chan.op = some (.write t.place d)
         ∧ endsAt q (.write t.place d) = true ∧ s.fault.holder = none
       let torn := if t.torn = some (t.first + t.idx) then none else t.torn
       (writes → u.chan.op = none ∧ u.chan.wgate = false ∧ u.chan.writeCurrent = 0)
       ∧ (writes → t.verifyOn = false → more → after fun t' =>
           t'.idx = t.idx + 1 ∧ t'.done = t.done + 1 ∧ t'.torn = torn)
       ∧ (writes → t.verifyOn = false → ¬ more → t.mark = true → s.cart.wp = false →
           (∃ r, s.record.session = .full r) → after fun t' =>
             t'.done = t.done + 1 ∧ t'.phase = .save ∧ t'.outcome = how t.recovered)
       ∧ (writes → t.verifyOn = false → ¬ more → t.mark = false → s.chan.outstanding = [] →
           e.code = 0x14#8 → placesUsed s < 8 →
           answers (how t.recovered) ([byte t.count, byte (t.done + 1)] ++ opt32 torn
             ++ [byte t.reassigned, byte t.result.code]))
       ∧ (writes → t.verifyOn = true → after fun t' => t' = { t with torn := torn, phase := .back }))
    ∧ (let backs := t.cmd = .write ∧ t.phase = .back ∧ ends
       let same := good ∧ holdingData t.idx s = some sig.data
       let table := s.record.session
       let moves (r : Session) : Moved (List Zone) :=
         reassignLba s.cart.wp r.type r.zones (t.first + t.idx)
       (backs → same → more → u.record = s.record ∧ after fun t' =>
         t'.idx = t.idx + 1 ∧ t'.done = t.done + 1 ∧ t'.chain = false)
       ∧ (∀ r, table = .full r → ∀ k zones, moves r = .moved k zones → backs → ¬ same →
           u.record.session = .full { r with zones } ∧ u.record.unsaved = true
           ∧ u.chan.gateWait = none ∧ after fun t' =>
               t'.idx = t.idx ∧ t'.done = t.done ∧ t'.spare = some k ∧ t'.chain = true ∧ t'.mark = true
               ∧ t'.place = slotPlace ((t.first + t.idx) / r.type.userSlots) (r.type.userSlots + k)
               ∧ t'.reassigned = t.reassigned + (if t.chain then 0 else 1)
               ∧ (t'.phase = .sector ∨ t'.phase = .target))
       ∧ (∀ r, table = .full r → ∀ o, moves r = .refused o → backs → ¬ same → s.cart.wp = false →
           t.mark = true →
           u.record.session = table ∧ after fun t' =>
             t'.done = t.done ∧ t'.phase = .save ∧ t'.outcome = o)
       ∧ (∀ r, table = .full r → ∀ o, moves r = .refused o → backs → ¬ same → t.mark = false →
           s.chan.outstanding = [] → e.code = 0x14#8 → placesUsed s < 8 →
           answers o ([byte t.count, byte t.done] ++ opt32 t.torn
             ++ [byte t.reassigned, byte t.result.code]))))
  ∧ (∀ (s : State) (e : Entry) (t : Transfer), s.chan.transfer = some t → t.phase = .drain →
      Stage (.command e) .data s →
      let gone := (∀ i x, s.link.send ≠ some (.data i x)) ∧ readyFrame s = none
      (t.cmd = .read → gone → e.code = 0x13#8 → settle s
        = ended e t.outcome ([byte t.count, byte t.done] ++ opt32 t.failing) s)
      ∧ (t.cmd = .write → s.chan.outstanding = [] → e.code = 0x14#8 → settle s
          = ended e t.outcome ([byte t.count, byte t.done] ++ opt32 t.torn
              ++ [byte t.reassigned, byte t.result.code]) s)
      ∧ (t.cmd = .read → ¬ gone → settle s = s)
      ∧ (t.cmd = .write → s.chan.outstanding ≠ [] → settle s = s))
  ∧ (∀ (s : State) (t : Transfer) (k : Nat), s.chan.transfer = some t → s.chan.op = none →
      s.record.copyWrite = none → s.record.load = none →
      let u := sectorStart k s
      let to' (g : Transfer) : State := { s with chan := { s.chan with transfer := some g } }
      let starts : State := { s with chan := { s.chan with
        op := some (.read t.place), lastHead := t.place.head } }
      let mine := k = t.place.sector
      let reads := mine ∧ t.phase = .sector ∧ t.cmd ≠ .write
      let room := t.cmd = .read → s.chan.slot0 = .free ∨ s.chan.slot1 = .free
      let may := reads ∧ room ∧ onTarget t.place.cyl t.offset s = true
      let fresh := t.attempt = 1 ∧ t.firstPass = false
      let lost := may ∧ s.clk.locked = false ∧ ¬ fresh ∧ t.timedOut = false ∧ t.abortPending = false
      let next := attemptOffset (t.attempt + 1)
      let writes := mine ∧ t.phase = .sector ∧ t.cmd = .write
      let gate := onTarget t.place.cyl 0 s = true ∧ s.clk.locked = true ∧ s.spin.state = .atSpeed
        ∧ s.spin.deviating = false ∧ s.cart.wp = false ∧ (s.cart.state = .ready ∨ s.fmt ≠ none)
      let back := mine ∧ t.phase = .back
      (¬ mine ∨ t.phase ≠ .sector ∧ t.phase ≠ .back → u = s)
      ∧ (reads → ¬ may → u = s)
      ∧ (may → s.clk.locked = true → u = starts)
      ∧ (may → s.clk.locked = false → fresh → u = to' { t with firstPass := true })
      ∧ (lost → t.attempt ≤ t.limit → next = t.offset → u = to' { t with attempt := t.attempt + 1 })
      ∧ (lost → t.attempt ≤ t.limit → next ≠ t.offset →
          u.chan.transfer = some { t with attempt := t.attempt + 1, offset := next, phase := .target }
          ∧ u.pos.target = some { cyl := t.place.cyl, offset := next }
          ∧ u.pos.requester = some .channel ∧ u.fault = s.fault)
      ∧ (lost → t.limit < t.attempt →
          u.chan.transfer = some { t with
            failing := some (t.first + t.idx), outcome := .dataCheck, phase := .drain }
          ∧ u.fault.slot = some (offerTo s.fault.slot (formRecord .dataCheck s)))
      ∧ (writes → holdingData t.idx s = none → u = s)
      ∧ (∀ d, writes → holdingData t.idx s = some d → gate → u = { s with chan := { s.chan with
          op := some (.write t.place d), wgate := true, writeCurrent := s.set.trims.wc
          lastHead := t.place.head, gateWait := none } })
      ∧ (∀ d, writes → holdingData t.idx s = some d → ¬ gate → u = { s with chan := { s.chan with
          gateWait := if s.chan.gateWait.isSome then s.chan.gateWait
            else some (s.set.active.timeout * 1000000) } })
      ∧ (back → onTarget t.place.cyl 0 s = true → s.clk.locked = true → u = starts)
      ∧ (back → onTarget t.place.cyl 0 s = false ∨ s.clk.locked = false → u = s))
  ∧ (∀ (s : State) (e : Entry) (t : Transfer) (n : Session), s.chan.transfer = some t →
      Stage (.command e) .data s → e.code = dataCode t.cmd → t.abortPending = false →
      t.timedOut = false → s.record.session = .full n →
      let to' (g : Transfer) (v : State) : State := { v with chan := { v.chan with transfer := some g } }
      let p := translate n.type n.zones (t.first + t.idx)
      let g (ph : DataPhase) : Transfer := { t with
        place := p.1, spare := p.2, attempt := 1, offset := 0, firstPass := false, chain := false
        phase := ph }
      let begins := (t.phase = .spin ∧ s.spin.state = .atSpeed ∨ t.phase = .begin) ∧ t.idx < t.count
      let table : List (TargetOutcome × OutcomeCode) :=
        [(.notLoaded .faultHeld, .faultPending), (.notLoaded .notAtSpeed, .faulted),
         (.notLoaded .typeUnknown, .faulted), (.failed, .seekFailed), (.ended, .faulted)]
      (t.phase = .spin → s.spin.state ≠ .atSpeed → settle s = s)
      ∧ (t.phase = .target ∨ t.phase = .sector ∨ t.phase = .back → settle s = s)
      ∧ (begins → onTarget p.1.cyl 0 s = true → settle s = to' (g .sector) s)
      ∧ (begins → s.pos.state = .parked → Loadable s →
          settle s = to' (g .target) (loads { cyl := p.1.cyl, offset := 0 } (some .channel) s))
      ∧ (begins → s.pos.state = .parked → s.spin.state = .atSpeed → class13Held s = true →
          t.mark = false →
          answersData e (g .target) .faultPending s (cutShort t s) (settle s))
      ∧ (begins → s.pos.state = .following → s.chan.op = none → onTarget p.1.cyl 0 s = false →
          (settle s).chan.transfer = some (g .target)
          ∧ (settle s).pos.target = some { cyl := p.1.cyl, offset := 0 }
          ∧ (settle s).pos.requester = some .channel ∧ (settle s).cu = s.cu)
      ∧ (t.phase = .target → settle (tell .complete s) = to' { t with phase := .sector } s)
      ∧ (∀ x o, (x, o) ∈ table → t.phase = .target → t.mark = false → Level s →
          answersData e t o s (cutShort t s) (settle (tell x s)))
      ∧ (∀ x o, (x, o) ∈ table → t.phase = .target → t.mark = true → Saveable s →
          savesData t o s (settle (tell x s))))
  ∧ ∀ (s : State) (e : Entry) (t : Transfer) (res : RecordResult), s.chan.transfer = some t →
      Stage (.command e) .data s → e.code = dataCode t.cmd → t.phase = .save →
      let done := t.outcome = .done ∨ t.outcome = .recovered
      let u := settle (savedAs res s)
      let w (c : FaultClass) := settle (noted c (savedAs res s))
      let answers (o : OutcomeCode) (v : State) : Prop :=
        answersData e { t with result := res } o s s v
      settle s = s
      ∧ (done → res = .both ∨ res = .one → answers .recovered u)
      ∧ (done → res = .neither → answers .recordWriteFailed u)
      ∧ (¬ done → answers t.outcome u)
      ∧ (∀ c, c ∈ classes13 → answers .faulted (w c))
      ∧ (∀ c, c ∉ classes13 → ¬ done → answers t.outcome (w c))
      ∧ (∀ c, c ∈ seekFailures → done → answers .seekFailed (w c))

/-- R123, R124, R129: WRITE FAULT is void with WGATE off (log entry 5); with it on the sector is cut and the gate
closes, and a WRITE is answered WRITE FAULT with the torn block, once no frame of its is outstanding, or makes
its write-back first where it has its reassignment mark. The 2 µs in which WCSENSE is ignored have passed when
the row comes (log entry 45).

R59, R124, R154, R155: a sector write is cut by a departure, by WRITE FAULT and by OFF TRACK, with what is torn.
The holder gives up its SPEED DEVIATION at the end of a sector written whole and at a cut: it is offered to the
slot, after the record of the higher fault, attention FAULT is set, and its End or that of the higher fault
reaches the item. A WRITE is answered FAULTED then, with its block done, or torn where the first missing sample
cut it.

R114, R117, R118, R124 to R129, R155: the ends of a READ, WRITE or VERIFY that is not ended yet. An abort acts at
once with no sector in work, and otherwise at the end of the sector, whose result stands; a chain of write
verify has no safe point. A data timeout, OFF TRACK and WRITE FAULT in a sector write, SEEK FAILED, and a SPEED
DEVIATION at the end of the sector written each end it with their outcome, after the write-back if the mark
is set, and a class 1–3 fault with none. An offset in use is returned to 0. The model's readings and choices:
a block under write verify counts as done at the abort only where the abort came in its sector write (log entry
25); the last block's good end under an abort is answered ABORTED (26), its last failed attempt DATA CHECK
(27), and a chain that a failed read-back begins under an abort runs to its end (68); nothing follows the
sector's end after a data timeout (69), which comes before an abort (74), and a deferred SPEED DEVIATION before
both (73). -/
def Obligations.WriteFaultCuts : Prop :=
  ∀ s : State, s.pins.rst = false →
    (s.chan.wgate = false → exec .writeFault s = .next s)
    ∧ (GateLaw s → s.chan.wgate = true → ∃ u,
        exec .writeFault s = .next u
        ∧ u = settle (cutWrite (noteEnd .writeFault (recorded .writeFault s)))
        ∧ u.chan.wgate = false ∧ u.chan.writeCurrent = 0 ∧ u.chan.op = none
        ∧ u.fault.holder = none)
    ∧ (∀ (e : Entry) (t : Transfer), GateLaw s → s.chan.wgate = true → s.mail = Mail.none →
        s.record.copyWrite = none → s.record.load = none → s.cu.slot.item = .command e →
        e.code = 0x14#8 → s.cu.slot.work = .data → s.chan.transfer = some t → t.cmd = .write →
        t.phase = .sector → t.mark = false → s.chan.outstanding = [] →
        (∀ g, s.pos.target = some g → g.offset = 0) → placesUsed s < 8 →
        ∃ u, exec .writeFault s = .next u ∧ u.cu.slot = Slot.free
          ∧ u.link.outbox = s.link.outbox ++ [{
              tag := e.tag, code := e.code, outcome := .writeFault, queued := true
              fields := [byte t.count, byte t.done] ++ be32 (t.first + t.idx)
                ++ [byte t.reassigned, byte t.result.code] }])
    ∧ (∀ (e : Entry) (t : Transfer), GateLaw s → s.chan.wgate = true → Stage (.command e) .data s →
        s.chan.transfer = some t → t.cmd = .write → t.phase = .sector → t.mark = true →
        s.cart.wp = false → isFull s = true → Level s →
        ∃ u, exec .writeFault s = .next u
          ∧ savesData { t with torn := some (t.first + t.idx) } .writeFault (recorded .writeFault s) u)
    -- a sector write that is cut, and a SPEED DEVIATION in the holder (R154, R155)
    ∧ (∀ p d, s.chan.op = some (.write p d) → s.fault.holder = none →
        depart s = sectorIs .cut (severed p s))
    ∧ (∀ (h : FaultRecord) (p : Place) (d : List Byte), s.fault.holder = some h →
        s.chan.op = some (.write p d) → s.mail = Mail.none →
        (∀ q sig, endsAt q (.write p d) = true →
          let u := sectorEnds q sig s
          u.mail = (wroteWith .written .speedDeviation s).mail ∧ u.fault = (released s).fault
          ∧ u.cu = (released s).cu ∧ u.pos = s.pos ∧ u.chan.op = none ∧ u.chan.wgate = false
          ∧ u.chan.writeCurrent = 0)
        ∧ depart s = wroteWith .cut .speedDeviation (severed p s)
        ∧ raise .writeFault s = wroteWith .cut .writeFault (severed p (recorded .writeFault s))
        ∧ raise .offTrack s = wroteWith .cut .offTrack (severed p (recorded .offTrack s))
        ∧ (∀ t : Transfer, s.chan.transfer = some t → ∀ e : Entry, Stage (.command e) .data s →
            e.code = 0x14#8 → t.cmd = .write → t.phase = .sector → t.mark = false →
            s.chan.outstanding = [] → placesUsed s < 8 → Level s →
            let answers (g : Transfer) (u : State) : Prop := u.cu.slot = Slot.free
              ∧ u.fault.holder = none ∧ u.fault.slot = some (offerTo s.fault.slot h)
              ∧ u.link.outbox = s.link.outbox ++ [{
                  tag := e.tag, code := e.code, outcome := .faulted, queued := true
                  fields := dataFields g }]
            (∀ q sig, endsAt q (.write p d) = true →
              answers { t with
                done := t.done + 1, torn := if t.torn = some (t.first + t.idx) then none else t.torn }
                (settle (sectorEnds q sig s)))
            ∧ (s.pos.state = .following → ∃ u, exec .missingSampleDeclaration s = .next u
                ∧ answers { t with torn := some (t.first + t.idx) } u
                ∧ u.pos.state = .coasting)))
    ∧ ∀ (e : Entry) (t : Transfer), s.chan.transfer = some t →
        Stage (.command e) .data s → e.code = dataCode t.cmd → t.phase ≠ .save → t.phase ≠ .drain →
        let rests := s.chan.op = none
        let aborts := t.abortPending = true ∧ t.timedOut = false ∧ rests
        let plain := t.mark = false ∧ Level s
        let saves := t.mark = true ∧ Saveable s
        let ends (g : Transfer) (o : OutcomeCode) (u : State) : Prop :=
          (plain → answersData e g o s (cutShort t s) u) ∧ (saves → savesData g o s u)
        let at' (x : SectorResult) : State := settle (sectorIs x s)
        let late := t.recovered || decide (2 ≤ t.attempt)
        let reads := t.phase = .sector ∧ t.cmd ≠ .write ∧ t.chain = false
        let writes := t.phase = .sector ∧ t.cmd = .write
        let backs := t.phase = .back ∧ t.cmd = .write
        let next (g : Transfer) : Transfer := { g with idx := t.idx + 1, done := t.done + 1 }
        -- the abort, at its safe point (R128)
        (aborts → t.chain = false → ends t .aborted (settle s))
        ∧ (t.abortPending = true → t.timedOut = false → t.phase = .sector ∨ t.phase = .back →
            s.chan.op ≠ none ∨ t.chain = true → settle s = s)
        ∧ (∀ d, aborts → plain → reads → t.cmd = .read → s.chan.slot0 = .free → s.chan.slot1 = .free →
            (at' (.readOk d)).chan.slot0 = .holding t.idx d
            ∧ (at' (.readOk d)).chan.transfer = some { t with
                idx := t.idx + 1, recovered := late, outcome := .aborted, phase := .drain })
        ∧ (∀ d, aborts → plain → reads → t.cmd = .verify →
            at' (.readOk d) = ended e .aborted (dataFields (next t)) s)
        ∧ (∀ x, aborts → plain → reads → (∀ d, x ≠ .readOk d) → t.attempt ≤ t.limit →
            ends { t with attempt := t.attempt + 1 } .aborted (at' x))
        ∧ (∀ x, aborts → plain → reads → (∀ d, x ≠ .readOk d) → t.limit < t.attempt → framesGone t s →
            at' x = ended e .dataCheck (dataFields { t with failing := some (t.first + t.idx) })
              (recorded .dataCheck s))
        ∧ (aborts → writes → t.chain = false →
            (plain → framesGone t s → at' .written = ended e .aborted (dataFields (next t)) s)
            ∧ (saves → savesData (next t) .aborted s (at' .written))
            ∧ ends t .aborted (at' .cut))
        ∧ (aborts → writes → t.chain = true → t.verifyOn = true →
            at' .written = { s with chan := { s.chan with transfer := some { t with phase := .back } } }
            ∧ at' .cut = s)
        ∧ (∀ d, aborts → backs → holdingData t.idx s = some d →
            (plain → framesGone t s → at' (.readOk d) = ended e .aborted (dataFields (next t)) s)
            ∧ (saves → savesData { next t with chain := false } .aborted s (at' (.readOk d))))
        ∧ (∀ n, s.record.session = .full n → ∀ x, aborts → backs → onTarget t.place.cyl 0 s = true →
            x = .readFailed ∨ (∃ d, x = .readOk d ∧ holdingData t.idx s ≠ some d) →
            (∀ k zones, reassignLba s.cart.wp n.type n.zones (t.first + t.idx) = .moved k zones →
              ∃ g, (at' x).chan.transfer = some g ∧ g.chain = true ∧ g.mark = true ∧ g.spare = some k
                ∧ g.abortPending = true ∧ (g.phase = .sector ∨ g.phase = .target))
            ∧ (∀ o, reassignLba s.cart.wp n.type n.zones (t.first + t.idx) = .refused o →
                ends t o (at' x)))
        -- the data timeout at the end of a sector in work, or at once (R127)
        ∧ (t.timedOut = true → rests → t.cmd ≠ .read → ends t .dataTimeout (settle s))
        ∧ (t.timedOut = true → rests → t.cmd = .read → t.mark = false → Level s →
            (∀ i d, s.link.send ≠ some (.data i d)) → settle s = ended e .dataTimeout (dataFields t) s)
        -- the faults (R124, R125, R129)
        ∧ (∀ c, c ∈ classes13 → Level s → answersData e t .faulted s (cutShort t s) (settle (noted c s)))
        ∧ (∀ c, c ∈ seekFailures → ends t .seekFailed (settle (noted c s)))
        ∧ ends t .faulted (settle (noted .offTrack s))
        ∧ ends t .writeFault (settle (noted .writeFault s))
        ∧ ends t .faulted (settle (noted .speedDeviation s))
        ∧ ends { t with done := t.done + 1 } .faulted (settle (noted .speedDeviation (sectorIs .written s)))
        -- an offset in use (R114)
        ∧ (∀ g, aborts → t.chain = false → t.mark = false → s.pos.target = some g → g.offset ≠ 0 →
            s.pos.state = .following → (settle s).pos.target = some { g with offset := 0 }
            ∧ (settle s).pos.requester = none
            ∧ (framesGone t s → (settle s).cu = (ended e .aborted (dataFields t) s).cu
              ∧ (settle s).link = (ended e .aborted (dataFields t) s).link))

/-- R127, R121, R104, R135, R136, R90: DATA TIMER EXPIRY, GATE WAIT TIMER EXPIRY, FORMAT READ WAIT EXPIRY and
COPY ATTEMPT TIMER EXPIRY, each for the wait that runs; on a part with no work in hand each is void (log
entry 5). The buffered frames of a READ are discarded, but for one being sent. That a DONE or RECOVERED READ
which waits for its frames becomes DATA TIMEOUT is log entry 24, that the mark of an expired copy attempt
stands to the sector's end is log entry 28, that the limit of a copy's first attempt runs from the copy's
beginning is log entry 29, and that the wait for a spare runs until its sector is written is log entry 34. The
shortest wait of a FORMAT is taken to run out (`expireWait`; log entry 6). -/
def Obligations.WaitsExpire : Prop :=
  ∀ s : State, s.pins.rst = false →
    (Quiet s → exec .dataTimerExpiry s = .next s ∧ exec .gateWaitTimerExpiry s = .next s
      ∧ exec .formatReadWaitExpiry s = .next s ∧ exec .copyAttemptTimerExpiry s = .next s)
    ∧ (∀ t, s.chan.transfer = some t → ∀ o rest, s.chan.outstanding = o :: rest → t.cmd = .write →
        let w := setSlotOf o.idx .free { s with chan := { s.chan with outstanding := rest } }
        (t.phase = .save ∨ t.phase = .drain → exec .dataTimerExpiry s = .next (settle w))
        ∧ (t.phase ≠ .save → t.phase ≠ .drain → s.chan.op = none →
            exec .dataTimerExpiry s = .next (settle (endTransfer t .dataTimeout true w)))
        ∧ (t.phase ≠ .save → t.phase ≠ .drain → s.chan.op ≠ none →
            exec .dataTimerExpiry s = .next (settle (setTransfer { t with timedOut := true } w))))
    ∧ (∀ t, s.chan.transfer = some t → t.cmd = .read → s.chan.readyTimer ≠ none →
        let keeps (i : Nat) : Bool := match s.link.send with
          | some (.data j _) => j = i
          | _ => false
        let left (b : BufSlot) : BufSlot := match b with
          | .holding i x => if keeps i then .holding i x else .free
          | b => b
        let w : State := { s with chan := { s.chan with
          slot0 := left s.chan.slot0, slot1 := left s.chan.slot1, readyTimer := none } }
        (t.phase ≠ .save → t.phase ≠ .drain → s.chan.op = none →
          exec .dataTimerExpiry s = .next (settle (endTransfer t .dataTimeout true w)))
        ∧ (t.phase ≠ .save → t.phase ≠ .drain → s.chan.op ≠ none →
            exec .dataTimerExpiry s = .next (settle (setTransfer { t with timedOut := true } w)))
        ∧ (t.phase = .drain → t.outcome = .done ∨ t.outcome = .recovered →
            exec .dataTimerExpiry s
              = .next (settle (setTransfer { t with outcome := .dataTimeout } w)))
        ∧ (t.phase = .drain → t.outcome ≠ .done → t.outcome ≠ .recovered →
            exec .dataTimerExpiry s = .next (settle w)))
    ∧ (∀ t, s.chan.transfer = some t → s.chan.gateWait ≠ none →
        exec .gateWaitTimerExpiry s = .next (settle (endTransfer t .dataTimeout true
          { s with chan := { s.chan with gateWait := none } })))
    ∧ (∀ r, s.chan.reassign = some r → s.chan.gateWait ≠ none → s.chan.transfer = none →
        (s.chan.op = none →
          exec .gateWaitTimerExpiry s = .next (settle (writeStageEnds r .dataTimeout s)))
        ∧ (s.chan.op ≠ none → exec .gateWaitTimerExpiry s = .next (settle { s with
            chan := { s.chan with gateWait := none
                                  reassign := some { r with timedOut := true } } })))
    ∧ (∀ f, s.fmt = some f → s.chan.gateWait = none → f.phase = .writing →
        exec .gateWaitTimerExpiry s = .next (settle (expireWait s)))
    ∧ (∀ f, s.fmt = some f → f.phase = .verifying →
        exec .formatReadWaitExpiry s = .next (settle (expireWait s)))
    ∧ (∀ f, s.fmt = some f → ∀ e : Entry, f.phase = .verifying → f.waits ≠ [] →
        f.step ≠ .copies → f.abortPending = false → s.chan.op = none →
        Stage (.command e) .format s → e.code = 0x17#8 → placesUsed s < 8 →
        ∃ u, exec .formatReadWaitExpiry s = .next u ∧ u.cu.slot = Slot.free ∧ u.fmt = none
          ∧ u.link.outbox = s.link.outbox ++ [{
              tag := e.tag, code := e.code, outcome := .dataTimeout, queued := true
              fields := formatFields s }])
    ∧ ∀ c, s.record.copyWrite = some c → c.timer ≠ none →
        (s.chan.op ≠ none → exec .copyAttemptTimerExpiry s = .next (settle { s with
          record := { s.record with copyWrite := some { c with expired := true, timer := none } } }))
        ∧ (s.chan.op = none → c.attempt < 3 → exec .copyAttemptTimerExpiry s = .next (settle { s with
            record := { s.record with copyWrite := some { c with
              attempt := c.attempt + 1, readBack := false, sector := 0, armed := true
              timer := none, expired := false } } }))
        ∧ (s.chan.op = none → 3 ≤ c.attempt → c.copy = 0 →
            exec .copyAttemptTimerExpiry s = .next (settle { s with
              record := { s.record with copyWrite := some { c with
                copy := 1, attempt := 1, readBack := false, sector := 0, armed := false
                timer := some 250000, expired := false, written0 := false } } }))
        ∧ (s.chan.op = none → 3 ≤ c.attempt → c.copy ≠ 0 →
            exec .copyAttemptTimerExpiry s = .next (settle (endCopies c.owner c.written0 false s)))

/-- R157, R158, R147, R165: SUPWARN FALLS with its SUPPLY LOSS, on a drive at rest and with the heads
FOLLOWING; SUPWARN RISES; REST TIMER EXPIRY, void with the timer stopped (log entry 5). That it requests
TIMED WAKE also with a BUTTON EJECT pending is the model's choice (log entry 75). -/
def Obligations.SupplyAndRestTimerAct : Prop :=
  ∀ s : State, s.pins.rst = false →
    let low : State := { s with pins := { s.pins with supwarn := false } }
    let w : State := { low with fault := { s.fault with warning := true } }
    let withdrawn (p : Spindle) : Spindle := { p with pendingStart := false, spinUp := none }
    (s.fault.warning = true → exec .supwarnFalls s = .next low)
    ∧ (s.fault.warning = false → exec .supwarnFalls s = .next (settle (raise .supplyLoss w)))
    ∧ (s.fault.warning = false → Quiet s → s.pos.state = .parked → s.spin.state = .stopped →
        exec .supwarnFalls s = .next (marked { recorded .supplyLoss w with
          spin := withdrawn s.spin }))
    ∧ (s.fault.warning = false → Quiet s → s.pos.state = .following → s.spin.state = .atSpeed →
        s.pins.park = false →
        exec .supwarnFalls s = .next (inEmergency (marked { recorded .supplyLoss w with
          spin := withdrawn (coasts s.spin) })))
    ∧ exec .supwarnRises s = .next { s with
        pins := { s.pins with supwarn := true }, fault := { s.fault with warning := false } }
    ∧ (s.rest.timer ≠ none → exec .restTimerExpiry s = .next { s with
        rest := { s.rest with timer := none }, cu := { s.cu with pendWake := true } })
    ∧ (s.rest.timer = none → exec .restTimerExpiry s = .next s)

/-- R23, R41, R46, R73, R93, R130, R131, R159, R160, R169, R171, R186, R187: HARD RESET: every block at
its reset values, by the levels that are read and by the user area; the area that an interrupted save
left is a free value (log entry 3). A low SUPWARN raises SUPPLY LOSS at once. X at 0, Xp unset, the
remembered state FOLLOWING, the mark of LOADING clear, the empty image store, the wake target IDLE and DIR
as it stood are values that the spec does not give: they are the model's choice (log entries 43 and 48). -/
def Obligations.HardResetRestores : Prop :=
  ∀ (l : Levels) (s : State),
    let area : List Byte := if s.set.saving = none then s.set.userArea
      else (List.range 16).map (Config.interruptedSaveByte s.freeUsed)
    let good := area.length = 16 ∧ byteAt area 0 = 0x96
      ∧ ((area.take 14).map BitVec.toNat).sum % 65536 = word16At area 14
      ∧ byteAt area 1 ≤ 15 ∧ 1 ≤ byteAt area 2 ∧ byteAt area 2 ≤ 15
    let user : UserSettings := if good then
        { retry := byteAt area 1, timeout := byteAt area 2, autoStart := byteAt area 3 % 2 == 1
          writeVerify := byteAt area 3 / 2 % 2 == 1 }
      else { retry := 8, timeout := 2, autoStart := false, writeVerify := false }
    let ty : Option CartType := match l.seated, l.notchA, l.notchB with
      | true, true, false => some .a
      | true, false, true => some .b
      | _, _, _ => none
    let spin : Spindle :=
      { state := if l.seated then (if l.park then .braking else .coasting) else .stopped
        deviating := false, drive := 0, period := 1000000, gap := 1000000, inCount := 0
        outCount := 0, kick := none, spinUp := none
        stop := if l.seated && l.park then some 1000000 else none
        brake := if l.seated && l.park then some 10000000 else none
        brakeFailed := false, pendingStart := false }
    let pos (st : PosState) (i : Int) (r e : Timer) : Positioner :=
      { state := st, target := none, requester := none, held := none, x := 0, xp := none
        cylinder := 0, remembered := .following, settle := 0, offTrack := 0, missing := 0
        seekCount := 0, restartUsed := false, load := none, retract := r, emergency := e
        resume := 0, current := i, landHere := false }
    let att : BitVec 16 := if good then 0x0010#16 else 0x0110#16
    let after : State :=
      { pins := { dir := s.pins.dir, seated := l.seated, notchA := l.notchA, notchB := l.notchB
                  wprot := l.wprot, park := l.park, supwarn := l.supwarn, rst := l.rst }
        link := { assembly := .idle, gap := none, quiet := none, outbox := [], heldFrame := false
                  kindWaiting := false, line := [], send := none, acked := 0 }
        cu := { queue := [], slot := Slot.free, pendAuto := false, pendEject := false
                pendWake := false, resets := [], attention := att, accepted := 0, repliesSent := 0 }
        cart := { state := if l.seated then (if ty.isSome then .present else .refused .typeUnknown)
                    else .empty
                  type := ty, wp := l.seated && l.wprot, hold := false, latch := false
                  origin := none, eject := none }
        spin, clk := { locked := false, good := 0, miss := none }
        pos := if l.park then pos .parked 0 none none else pos .retracting (-40) (some 300000) none
        record := { session := .absent, copyStatus := .none, unsaved := false
                    report := LoadReport.none, image := [], load := none, copyWrite := none }
        chan := { transfer := none, slot0 := .free, slot1 := .free, outstanding := []
                  wgate := false, writeCurrent := 0, op := none, readyTimer := none
                  gateWait := none, rotation := 0, reassign := none, lastHead := 0 }
        fmt := none, fault := { slot := none, holder := none, warning := false }
        rest := { state := .none, wakeActive := false, timer := none }
        set := { userArea := area, active := user, image := user
                 trims := (ty.getD .a).factoryTrims, saving := none }
        mail := Mail.none
        freeUsed := s.freeUsed + (if s.set.saving = none then 0 else 1)
        pending := s.pending }
    (l.supwarn = true → exec (.hardReset l) s = .next after)
    ∧ (l.supwarn = false → exec (.hardReset l) s = .next { after with
        cu := { after.cu with attention := att ||| 0x0020#16 }
        pos := if l.park then pos .parked 0 none none else pos .emergency (-60) none (some 2000000)
        fault := { slot := some { cls := .supplyLoss, cyl := 0, head := 0, tag := none, lba := none
                                  count := 1 }
                   holder := none, warning := true } })

/-! ### The stages of an item

Each event of the sections above ends in `settle`. The statements here say what `settle` makes of it at the
item's present stage: `Stage` is a part between two events, `tell`, `noted`, `savedAs` and `sectorIs` put the
answer that the event has brought. -/

/-- R5, R84 to R87: the stages of SPIN UP and AUTO START from spin-up to the record load, the wait of a SPIN
UP in READY and BLANK, and the stages of a reload; R70 to R72: those of SEEK; R165, R166: those of TIMED WAKE.
At each: what goes on when the answer has come, the faults that end it, an abort, and a wait that has nothing
yet. A reload whose write-back is ended by SEEK FAILED is answered FAULTED, which is the model's choice (log
entry 64), and SEEK FAILED (park) ends an item that uses the heads, which is its reading (log entry 31). -/
def Obligations.StartSeekAndWakeStages : Prop :=
  (∀ (i : Item) (s : State), (∀ e, i = .command e → e.code = 0x10#8) →
    let free := s.cu.slot.abortPending = false
    let lost (c : FaultClass) := c ∈ classes13 ∨ c ∈ seekFailures
    let start (o : OutcomeCode) : State :=
      itemEnded i o [1#8] (stopRequest { s with cart := { s.cart with state := .present } })
    let stays (o : OutcomeCode) : State := itemEnded i o [byte s.cart.state.code] s
    let reads (w : Work) : State := setWork w { s with record := { s.record with
      image := []
      load := some { copy := 0, sector := 0, attempt := 1, offset := 0, firstPass := false
                     limit := s.set.active.retry, waiting := false, report0 := CopyReport.notRead
                     copy0 := none } } }
    let toHeads (w : Work) : State := setWork w (loads { cyl := 0, offset := 0 } (some .record) s)
    (Stage i .startSpin s →
      (free → s.spin.state ≠ .atSpeed → settle s = s)
      ∧ (free → s.pos.state = .parked → Loadable s → settle s = toHeads .startHeads)
      ∧ (∀ c, lost c → settle (noted c s) = start .faulted)
      ∧ (¬ free → settle s = start .aborted))
    ∧ (Stage i .startHeads s →
        (free → settle s = s)
        ∧ (free → onTarget 0 0 s = true → settle (tell .complete s) = reads .startLoad)
        ∧ (∀ o, free → o ≠ .complete → settle (tell o s) = start .faulted)
        ∧ (∀ c, lost c → settle (noted c s) = start .faulted)
        ∧ (¬ free → settle s = start .aborted))
    ∧ (Stage i .spinOnly s →
        (free → s.spin.state ≠ .atSpeed → settle s = s)
        ∧ (free → s.spin.state = .atSpeed → settle s = stays .done)
        ∧ (∀ c, c ∈ classes13 → settle (noted c s) = stays .faulted)
        ∧ (¬ free → settle s = stays .aborted))
    ∧ (Stage i .reloadSave s →
        (settle s = s)
        ∧ (settle (savedAs .neither s) = stays .recordWriteFailed)
        ∧ (∀ r, r ≠ .neither → ¬ free → settle (savedAs r s) = stays .aborted)
        ∧ (∀ r, r ≠ .neither → free → s.spin.state ≠ .atSpeed →
            settle (savedAs r s) = setWork .reloadSpin (startRequest s))
        ∧ (∀ c r, settle (noted c (savedAs r s)) = stays .faulted))
    ∧ (Stage i .reloadSpin s →
        (free → s.spin.state ≠ .atSpeed → settle s = s)
        ∧ (free → s.pos.state = .parked → Loadable s → settle s = toHeads .reloadHeads)
        ∧ (∀ c, lost c → settle (noted c s) = stays .faulted)
        ∧ (¬ free → settle s = stays .aborted))
    ∧ (Stage i .reloadHeads s →
        (free → settle s = s)
        ∧ (free → onTarget 0 0 s = true → settle (tell .complete s) = reads .reloadLoad)
        ∧ (∀ o, free → o ≠ .complete → settle (tell o s) = stays .faulted)
        ∧ (∀ c, lost c → settle (noted c s) = stays .faulted)
        ∧ (¬ free → settle s = stays .aborted)))
  ∧ (∀ (e : Entry) (s : State), e.code = 0x12#8 →
      let cyl := word16At e.params 0
      let free := s.cu.slot.abortPending = false
      let f : List Byte := be16 cyl ++ be16 s.pos.cylinder
      (Stage (.command e) .seekSpin s →
        (free → s.spin.state ≠ .atSpeed → settle s = s)
        ∧ (free → s.pos.state = .parked → Loadable s →
            settle s = setWork .seekTarget (loads { cyl, offset := 0 } (some .seek) s))
        ∧ (∀ c, c ∈ classes13 → settle (noted c s) = ended e .faulted f s)
        ∧ (¬ free → settle s = ended e .aborted f s))
      ∧ (Stage (.command e) .seekTarget s →
          (free → settle s = s)
          ∧ (settle (tell .complete s) = ended e .done f s)
          ∧ (settle (tell (.notLoaded .faultHeld) s) = ended e .faultPending f s)
          ∧ (settle (tell (.notLoaded .notAtSpeed) s) = ended e .faulted f s)
          ∧ (settle (tell (.notLoaded .typeUnknown) s) = ended e .faulted f s)
          ∧ (settle (tell .failed s) = ended e .seekFailed f s)
          ∧ (settle (tell .ended s) = ended e .faulted f s)
          ∧ (∀ c, c ∈ classes13 → settle (noted c s) = ended e .faulted f s)
          ∧ (∀ c, c ∈ seekFailures → settle (noted c s) = ended e .seekFailed f s)))
  ∧ (∀ s : State,
      let free := s.cu.slot.abortPending = false
      let lost (c : FaultClass) := c ∈ classes13 ∨ c ∈ seekFailures
      let woken (u : State) : State := finished { u with
        cu := { u.cu with attention := u.cu.attention ||| 0x0040#16 } }
      (Stage .timedWake .wakeSpin s →
        (free → s.spin.state ≠ .atSpeed → settle s = s)
        ∧ (free → s.spin.state = .atSpeed → s.rest.wakeActive = false → settle s = woken s)
        ∧ (free → s.pos.state = .parked → Loadable s → s.rest.wakeActive = true → settle s
            = setWork .wakeTarget (loads { cyl := s.pos.resume, offset := 0 } (some .wake) s))
        ∧ (∀ c, c ∈ classes13 → settle (noted c s) = woken s)
        ∧ (¬ free → settle s = woken s))
      ∧ (Stage .timedWake .wakeTarget s →
          (free → settle s = s)
          ∧ (∀ o, settle (tell o s) = woken s)
          ∧ (∀ c, lost c → settle (noted c s) = woken s)))
  ∧ ∀ s : State, s.cu.slot.abortPending = true →
      let cyl := s.pos.cylinder
      let st : PosState := if 512 < |256 * (cyl : Int) - s.pos.x| then .seeking else .settling
      let p : Positioner := { s.pos with
        target := some { cyl, offset := 0 }, requester := none, settle := 0, offTrack := 0
        seekCount := 0, restartUsed := false, resume := cyl, landHere := false }
      let aborts (q : Positioner) : Prop :=
        (∀ e, e.code = 0x12#8 → Stage (.command e) .seekTarget s → settle s = ended e .aborted
          (be16 (word16At e.params 0) ++ be16 cyl) { s with pos := q })
        ∧ (Stage .timedWake .wakeTarget s → settle s = finished { s with
            pos := q, cu := { s.cu with attention := s.cu.attention ||| 0x0040#16 } })
      (s.pos.state = .seeking ∨ s.pos.state = .settling → aborts { p with state := st })
      ∧ (s.pos.state = .coasting → aborts { p with remembered := st })
      ∧ (s.pos.state = .loading → aborts { s.pos with landHere := true, requester := none })
      ∧ (s.pos.state = .retracting ∨ s.pos.state = .emergency → aborts { s.pos with held := none })

/-- R79, R80, R82, R83, R84, R86, R87, R112, R116: the record load of a start or a reload: the start of a
sector, a sector read, a failed attempt, a copy classified, the choice with its reply, and the ends. The
findings of R80 and R81 are `headerFinding` and `finalFinding`. -/
def Obligations.LoadStages : Prop :=
  ∀ (i : Item) (w : Work) (l : Load) (s : State), (∀ e, i = .command e → e.code = 0x10#8) →
    s.cu.slot.item = i → s.cu.slot.work = w → s.mail = Mail.none → s.record.copyWrite = none →
    s.record.load = some l →
    let first := w = .startLoad
    let again := w = .reloadLoad
    let free := s.cu.slot.abortPending = false
    let flying := headsGone s = false
    let with' (g : Load) (v : State) : State :=
      { v with record := { v.record with load := some g } }
    let none' : State := { s with record := { s.record with load := none } }
    let failed (o : OutcomeCode) (u : State) : Prop :=
      (first → u = itemEnded i o [1#8]
        (stopRequest { none' with cart := { s.cart with state := .present } }))
      ∧ (again → u = itemEnded i o [byte s.cart.state.code] none')
    let classified (image : List Byte) (rep : CopyReport) (c : Option RecordCopy) (u : State) : Prop :=
      let reports : LoadReport :=
        { copy0 := l.report0, copy1 := rep, chosen := (chooseCopy l.copy0 c).map Prod.fst }
      let seen : State := { none' with record := { none'.record with image, report := reports } }
      (l.copy = 0 → u = with' { l with
          copy := 1, sector := 0, attempt := 1, firstPass := false, report0 := rep, copy0 := c }
        { s with record := { s.record with image := [] } })
      ∧ (∀ n, s.cart.type = some n → l.copy = 1 → first ∨ chooseCopy l.copy0 c ≠ none →
          let f := choiceFinding n l.report0 rep l.copy0 c
          let o : OutcomeCode := match f.1, f.2.2 with
            | .ready, .good => .done
            | .ready, _ => .recovered
            | .blank, _ => .unformatted
            | .refused .recordDamaged, _ => .recordDamaged
            | _, _ => .refusedCartridge
          u = itemEnded i o [byte f.1.code] { seen with
            cart := { s.cart with state := f.1 }
            cu := { s.cu with pendAuto := false }
            record := { seen.record with session := f.2.1, copyStatus := f.2.2, unsaved := false } })
      ∧ (l.copy = 1 → again → chooseCopy l.copy0 c = none →
          u = itemEnded i .recordDamaged [byte s.cart.state.code] seen)
    (∀ n, s.chan.op = none →
      let here := l.waiting = false ∧ n = l.sector ∧ onTarget 0 l.offset s = true
      (¬ here → sectorStart n s = s)
      ∧ (here → s.clk.locked = true → sectorStart n s = { s with chan := { s.chan with
          op := some (.read { cyl := 0, head := l.copy, sector := l.sector }), lastHead := l.copy } })
      ∧ (here → s.clk.locked = false → l.attempt = 1 → l.firstPass = false →
          sectorStart n s = with' { l with firstPass := true } s)
      ∧ (here → s.clk.locked = false → 2 ≤ l.attempt ∨ l.firstPass = true → l.attempt ≤ l.limit →
          attemptOffset (l.attempt + 1) = l.offset →
          sectorStart n s = with' { l with attempt := l.attempt + 1 } s))
    ∧ (first ∨ again → free → l.waiting = false → flying → l.offset = 0 →
        (∀ g, s.pos.target = some g → g.offset = 0) →
        (∀ d, let image := (s.record.image.take (512 * l.sector) ++ d).take 3248
          let u := settle (sectorIs (.readOk d) s)
          let bad := if l.sector = 0 then headerFinding image else none
          let long := l.sector + 1 < (word16At image 12 + 511) / 512
          (bad = none → long → u = with' { l with
              sector := l.sector + 1, attempt := 1, firstPass := false }
            { s with record := { s.record with image } })
          ∧ (∀ rep, bad = some rep → classified image rep none u)
          ∧ (bad = none → ¬ long →
              classified image (finalFinding image).1 (finalFinding image).2 u))
        ∧ (∀ r, (∀ d, r ≠ .readOk d) →
          let u := settle (sectorIs r s)
          (l.limit < l.attempt → l.sector = 0 → classified s.record.image
            { cls := .absent, reason := .unreadable, header := none } none u)
          ∧ (l.limit < l.attempt → l.sector ≠ 0 → classified s.record.image
              { cls := .damaged, reason := .unreadable, header := some (headerSeen s.record.image) }
              none u)
          ∧ (l.attempt ≤ l.limit → attemptOffset (l.attempt + 1) = 0 →
              u = with' { l with attempt := l.attempt + 1 } s)
          ∧ (l.attempt ≤ l.limit → attemptOffset (l.attempt + 1) ≠ 0 → s.pos.state = .following →
              s.pos.target = some { cyl := 0, offset := 0 } → s.chan.op = none →
              u.record.load = some { l with
                attempt := l.attempt + 1, offset := attemptOffset (l.attempt + 1), waiting := true }
              ∧ u.pos.target = some { cyl := 0, offset := attemptOffset (l.attempt + 1) }
              ∧ u.pos.requester = some .record)))
    ∧ (first ∨ again → free → l.waiting = true →
        flying → settle (tell .complete s) = with' { l with waiting := false } s)
    ∧ (∀ o, free → l.waiting = true → o ≠ .complete → failed .faulted (settle (tell o s)))
    ∧ (free → l.waiting = false → headsGone s = true → failed .faulted (settle s))
    ∧ (∀ c, failed .faulted (settle (noted c s)))
    ∧ (¬ free → s.chan.op = none → failed .aborted (settle s))
    ∧ (first ∨ again → s.chan.op ≠ none → l.waiting = true ∨ flying → settle s = s)

/-- R89 to R92, R76, R121: the write-back and the copy write under it: its beginning, which on a
write-protected cartridge is its end with the result WRITE PROTECTED, the start of a sector,
a sector written or read back, a failed attempt, a copy done, the result of the two copies, and the faults
and retracts that end it at once: while its request for cylinder 0 is out, any outcome but COMPLETE, and the
entry to PARKED where the request was held. The model's readings: the limit of an attempt that passes in a
sector fails it at that sector's end (log entry 28), the first attempt of a copy runs from the copy's
beginning (log entry 29), a write-back that ends NONE WRITTEN by its target, a fault or a retract leaves the
copy status DEGRADED (log entry 30), and a sector cut by a servo gap is written again in the same attempt
(log entry 35). -/
def Obligations.CopyWriteStages : Prop :=
  (∀ s : State, s.cart.wp = true → beginWriteBack s = savedAs .writeProtected s)
  ∧ (∀ (s : State) (r : Session), s.record.session = .full r → s.cart.wp = false →
    let fresh (targeting : Bool) : CopyWrite :=
      { owner := .writeBack, targeting, copy := 0, attempt := 1, readBack := false, sector := 0
        armed := false, timer := if targeting then none else some 250000, expired := false
        written0 := false }
    let image := recordImage r.type r.lock false ((r.generation + 1)) r.serial
      r.zones
    (onTarget 0 0 s = true → beginWriteBack s
      = { s with record := { s.record with image, copyWrite := some (fresh false) } })
    ∧ (onTarget 0 0 s = false → beginWriteBack s = requestTarget { cyl := 0, offset := 0 } (some .record)
        { s with record := { s.record with copyWrite := some (fresh true) } })
    ∧ (s.record.copyWrite = some (fresh true) → s.mail = Mail.none →
        advance (tell .complete s) = some { s with
          record := { s.record with image, copyWrite := some (fresh false) } }))
  ∧ ∀ (s : State) (c : CopyWrite), s.record.copyWrite = some c → s.mail = Mail.none →
    let goes (k : CopyWrite) : State := { s with record := { s.record with copyWrite := some k } }
    let place : Place := { cyl := 0, head := c.copy, sector := c.sector }
    let data : List Byte :=
      let d := (s.record.image.drop (512 * c.sector)).take 512
      d ++ List.replicate (512 - d.length) 0#8
    let gate := onTarget 0 0 s = true ∧ s.clk.locked = true ∧ s.spin.state = .atSpeed
      ∧ s.spin.deviating = false ∧ s.cart.wp = false
    let now : CopyWrite := { c with armed := false, timer := if c.armed then some 250000 else c.timer }
    let result (w1 : Bool) : RecordResult := match c.written0, w1 with
      | true, true => .both
      | false, false => .neither
      | _, _ => .one
    let reports (w1 : Bool) (m : Mail) (u : Option State) : Prop :=
      (c.owner = .format → u = some { s with
        record := { s.record with copyWrite := none }, mail := { m with copies := some (c.written0, w1) } })
      ∧ (∀ r, s.record.session = .full r → c.owner = .writeBack → u = some { s with
          record := { s.record with
            copyWrite := none
            session := .full (match result w1 with
              | .neither => r
              | _ => { r with generation := (r.generation + 1) })
            unsaved := match result w1 with
              | .neither => s.record.unsaved
              | _ => false
            copyStatus := match result w1 with
              | .both => .good
              | _ => .degraded }
          mail := { m with saved := some (result w1) } })
    let copyEnds (ok : Bool) (m : Mail) (u : Option State) : Prop :=
      (c.copy = 0 → u = some { goes { c with
          copy := 1, attempt := 1, readBack := false, sector := 0, armed := false
          timer := some 250000, expired := false, written0 := ok } with mail := m })
      ∧ (c.copy ≠ 0 → reports ok m u)
    let fails (m : Mail) (u : Option State) : Prop :=
      (c.attempt < 3 → u = some { goes { c with
          attempt := c.attempt + 1, readBack := false, sector := 0, armed := true, timer := none
          expired := false } with mail := m })
      ∧ (3 ≤ c.attempt → copyEnds false m u)
    let passes (u : Option State) : Prop :=
      let last := (s.record.image.length + 511) / 512 ≤ c.sector + 1
      (¬ last → u = some (goes { c with sector := c.sector + 1 }))
      ∧ (last → c.readBack = false → u = some (goes { c with readBack := true, sector := 0 }))
      ∧ (last → c.readBack = true → copyEnds true Mail.none u)
    let writes := c.targeting = false ∧ headsGone s = false
    (∀ n, s.chan.op = none →
      let turn := c.targeting = false ∧ (if c.armed then n = 0 else n = c.sector)
      let u := sectorStart n s
      (¬ turn → u = s)
      ∧ (turn → c.readBack = false → gate → u = { goes now with chan := { s.chan with
          op := some (.write place data), wgate := true, writeCurrent := s.set.trims.wc
          lastHead := c.copy } })
      ∧ (turn → c.readBack = false → ¬ gate → u = goes now)
      ∧ (turn → c.readBack = true → onTarget 0 0 s = true → s.clk.locked = true →
          u = { goes now with chan := { s.chan with op := some (.read place), lastHead := c.copy } })
      ∧ (turn → c.readBack = true → onTarget 0 0 s = false ∨ s.clk.locked = false → u = goes now))
    ∧ (writes → c.expired = false → passes (advance (sectorIs .written s)))
    ∧ (writes → c.expired = false → passes (advance (sectorIs (.readOk data) s)))
    ∧ (∀ d, writes → c.expired = false → d ≠ data → fails Mail.none (advance (sectorIs (.readOk d) s)))
    ∧ (writes → c.expired = false → fails Mail.none (advance (sectorIs .readFailed s)))
    ∧ (writes → c.expired = false → advance (sectorIs .cut s) = some s
        ∧ advance (sectorIs .interrupted s) = some s)
    ∧ (∀ r, writes → c.expired = true → fails Mail.none (advance (sectorIs r s)))
    ∧ (∀ x : FaultClass, x ∉ classes13 → x ∉ seekFailures → fails Mail.none (advance (noted x s)))
    ∧ (∀ x : FaultClass, x ∈ classes13 ∨ x ∈ seekFailures → c.copy = 1 ∨ c.written0 = false →
        reports false { Mail.none with note := some x } (advance (noted x s)))
    ∧ (c.targeting = false → headsGone s = true → c.copy = 1 ∨ c.written0 = false →
        reports false Mail.none (advance s))
    ∧ (∀ o, c.targeting = true → c.written0 = false → o ≠ .complete →
        reports false Mail.none (advance (tell o s)))
    ∧ (c.targeting = true → c.written0 = false →
        (s.pos.state = .parked → reports false Mail.none (advance s))
        ∧ (s.pos.state ≠ .parked → advanceCopies s = none))

/-- R103 to R106, R100, R112, R116, R121: the stages of REASSIGN: the read stage, the allocation with the data
or with zeros, the write at the gate, the read-back, a further spare, the write-back and the table of
outcomes, and the ends. At the start of its sector a read of the read stage begins on target with the clock
locked, and with REFERENCE only sets the first-pass mark or is a failed attempt; the write begins at the write
gate with the data in hand, and the read-back on target with the clock locked; any other pass is let go. The model's readings: a target outcome gives FAULTED, and a SEEK FAILED that comes
without one gives SEEK FAILED before the allocation (log entry 32); SEEK FAILED and the class 1–3 faults which
end the write-back give the reply as they do (log entry 33); a spare's wait runs until its sector is written,
and a wait run out in that sector ends DATA TIMEOUT at its end (log entry 34); a write cut by a servo gap is
made again (log entry 35). -/
def Obligations.ReassignStages : Prop :=
  ∀ (e : Entry) (r : Reassign) (s : State) (n : Session), e.code = 0x16#8 →
    Stage (.command e) .reassign s → s.chan.reassign = some r → s.record.session = .full n →
    s.chan.transfer = none → s.fmt = none →
    let to' (g : Reassign) (v : State) : State :=
      { v with chan := { v.chan with reassign := some g } }
    let flags : Byte := byte ((if r.dataLost then 1 else 0) + (if r.torn then 2 else 0))
    let fields (res : Byte) : List Byte :=
      be32 r.lba ++ [match r.spare with
        | some k => byte k
        | none => 0xFF#8, flags, res]
    let level := ∀ g, s.pos.target = some g → g.offset = 0
    let early (o : OutcomeCode) : State := ended e o (fields (byte r.result.code)) s
    let begun := r.allocated = true
    let moves (u : State) (g : Reassign) (v : State) : Prop :=
      ∀ k zones, reassignLba s.cart.wp n.type n.zones r.lba = .moved k zones →
        let place := slotPlace (r.lba / n.type.userSlots) (n.type.userSlots + k)
        let g' (ph : ReassignPhase) : Reassign :=
          { g with allocated := true, spare := some k, offset := 0, place, phase := ph }
        (onTarget place.cyl 0 s = true → u = to' (g' .write) { v with
          record := { s.record with session := .full { n with zones }, unsaved := true }
          chan := { v.chan with gateWait := some (s.set.active.timeout * 1000000) } })
        ∧ (onTarget place.cyl 0 s = false → u.chan.reassign = some (g' .writeTarget)
            ∧ u.record = { s.record with session := .full { n with zones }, unsaved := true }
            ∧ u.chan.slot0 = v.chan.slot0 ∧ u.chan.gateWait = none
            ∧ u.pos.target = some { cyl := place.cyl, offset := 0 }
            ∧ u.pos.requester = some .channel)
    let saves (o : OutcomeCode) (u : State) : Prop :=
      u.chan.reassign = some { r with outcome := o, phase := .save } ∧ u.chan.gateWait = none
      ∧ u.record.copyWrite ≠ none ∧ u.record.session = s.record.session ∧ u.cu = s.cu
    let free := r.abortPending = false ∨ begun
    -- the read stage
    (r.phase = .spin → free → s.spin.state ≠ .atSpeed → settle s = s)
    ∧ (r.phase = .spin → free → s.spin.state = .atSpeed →
        let p := translate n.type n.zones r.lba
        (onTarget p.1.cyl 0 s = true →
          settle s = to' { r with place := p.1, spare := p.2, phase := .read } s)
        ∧ (s.pos.state = .parked → Loadable s → settle s
            = to' { r with place := p.1, spare := p.2, phase := .readTarget }
                (loads { cyl := p.1.cyl, offset := 0 } (some .channel) s)))
    ∧ (r.phase = .readTarget → r.abortPending = false → level →
        settle (tell .complete s) = to' { r with phase := .read } s
        ∧ settle (tell (.notLoaded .faultHeld) s) = early .faultPending
        ∧ settle (tell (.notLoaded .notAtSpeed) s) = early .faulted
        ∧ settle (tell (.notLoaded .typeUnknown) s) = early .faulted
        ∧ settle (tell .failed s) = early .faulted ∧ settle (tell .ended s) = early .faulted)
    ∧ (∀ d, r.phase = .read → s.pos.state = .following → s.chan.op = none → r.abortPending = false →
        moves (settle (sectorIs (.readOk d) s)) r
          { s with chan := { s.chan with slot0 := .holding 0 d } })
    ∧ (∀ x, r.phase = .read → s.pos.state = .following → s.chan.op = none → r.abortPending = false →
        (∀ d, x ≠ .readOk d) → r.limit < r.attempt →
        moves (settle (sectorIs x s)) { r with dataLost := true }
          { s with chan := { s.chan with slot0 := .holding 0 (List.replicate 512 0#8) } })
    ∧ (∀ x, r.phase = .read → r.abortPending = false → (∀ d, x ≠ .readOk d) → r.attempt ≤ r.limit →
        attemptOffset (r.attempt + 1) = r.offset →
        settle (sectorIs x s) = to' { r with attempt := r.attempt + 1 } s)
    ∧ (∀ x, r.phase = .read → s.pos.state = .following → s.chan.op = none → r.abortPending = false →
        onTarget r.place.cyl r.offset s = true → (∀ d, x ≠ .readOk d) → r.attempt ≤ r.limit →
        attemptOffset (r.attempt + 1) ≠ r.offset →
        let u := settle (sectorIs x s)
        u.chan.reassign = some { r with
            attempt := r.attempt + 1, offset := attemptOffset (r.attempt + 1), phase := .readTarget }
        ∧ u.pos.target = some { cyl := r.place.cyl, offset := attemptOffset (r.attempt + 1) }
        ∧ u.pos.requester = some .channel)
    -- the start of a sector
    ∧ (∀ k, s.chan.op = none →
        let u := sectorStart k s
        let starts : State := { s with chan := { s.chan with
          op := some (.read r.place), lastHead := r.place.head } }
        let mine := k = r.place.sector
        let on := mine ∧ r.phase = .read ∧ onTarget r.place.cyl r.offset s = true
        let fresh := r.attempt = 1 ∧ r.firstPass = false
        let lost := on ∧ s.clk.locked = false ∧ ¬ fresh
        let next := attemptOffset (r.attempt + 1)
        let gate := onTarget r.place.cyl 0 s = true ∧ s.clk.locked = true ∧ s.spin.state = .atSpeed
          ∧ s.spin.deviating = false ∧ s.cart.wp = false ∧ s.cart.state = .ready
        (¬ mine ∨ r.phase ≠ .read ∧ r.phase ≠ .write ∧ r.phase ≠ .back → u = s)
        ∧ (mine → r.phase = .read → onTarget r.place.cyl r.offset s = false → u = s)
        ∧ (on → s.clk.locked = true → u = starts)
        ∧ (on → s.clk.locked = false → fresh → u = to' { r with firstPass := true } s)
        ∧ (lost → r.attempt ≤ r.limit → next = r.offset →
            u = to' { r with attempt := r.attempt + 1 } s)
        ∧ (lost → r.attempt ≤ r.limit → next ≠ r.offset →
            u.chan.reassign = some { r with
              attempt := r.attempt + 1, offset := next, phase := .readTarget }
            ∧ u.pos.target = some { cyl := r.place.cyl, offset := next }
            ∧ u.pos.requester = some .channel ∧ u.fault = s.fault)
        ∧ (lost → r.limit < r.attempt → moves u { r with dataLost := true }
            { s with chan := { s.chan with slot0 := .holding 0 (List.replicate 512 0#8) } })
        ∧ (∀ d, mine → r.phase = .write → holdingData 0 s = some d →
            (gate → u = { s with chan := { s.chan with
              op := some (.write r.place d), wgate := true, writeCurrent := s.set.trims.wc
              lastHead := r.place.head } })
            ∧ (¬ gate → u = s))
        ∧ (mine → r.phase = .write → holdingData 0 s = none → u = s)
        ∧ (mine → r.phase = .back → onTarget r.place.cyl 0 s = true → s.clk.locked = true → u = starts)
        ∧ (mine → r.phase = .back → onTarget r.place.cyl 0 s = false ∨ s.clk.locked = false → u = s))
    -- the write stage
    ∧ (r.phase = .writeTarget → free →
        settle (tell .complete s) = to' { r with phase := .write } { s with chan := { s.chan with
          gateWait := if s.chan.gateWait.isSome then s.chan.gateWait
            else some (s.set.active.timeout * 1000000) } })
    ∧ (r.phase = .write → free → r.timedOut = false →
        settle (sectorIs .written s) = to' { r with phase := .back }
          { s with chan := { s.chan with gateWait := none } }
        ∧ settle (sectorIs .cut s) = s)
    ∧ (∀ d, r.phase = .back → s.pos.state = .following → s.chan.op = none → begun →
        holdingData 0 s ≠ some d → moves (settle (sectorIs (.readOk d) s)) r s)
    ∧ (r.phase = .back → s.pos.state = .following → s.chan.op = none → begun →
        moves (settle (sectorIs .readFailed s)) r s)
    -- the end of the write stage
    ∧ (let goes := begun ∧ s.cart.wp = false ∧ s.pos.state = .following ∧ s.chan.op = none
       let full := spareScan n.type (zoneAt n.zones (r.lba / n.type.userSlots)) = n.type.spareWidth
       (∀ d, goes → r.phase = .back → holdingData 0 s = some d →
         saves .done (settle (sectorIs (.readOk d) s)))
       ∧ (goes → r.phase = .back → full → saves .sparesExhausted (settle (sectorIs .readFailed s)))
       ∧ (goes → r.phase = .write → r.timedOut = true → saves .dataTimeout (settle (sectorIs .written s))
           ∧ saves .dataTimeout (settle (sectorIs .cut s)))
       ∧ (∀ o, goes → r.phase = .writeTarget → o ≠ .complete → saves .faulted (settle (tell o s)))
       ∧ (goes → r.phase ≠ .save → saves .faulted (settle (noted .offTrack s))
           ∧ saves .writeFault (settle (noted .writeFault s))
           ∧ saves .faulted (settle (noted .speedDeviation s))))
    -- the write-back and the reply
    ∧ (∀ res, r.phase = .save →
        let reply (o : OutcomeCode) : State := ended e o (fields (byte res.code)) s
        let u := settle (savedAs res s)
        (r.outcome = .done → res = .both → u = reply .done)
        ∧ (r.outcome = .done → res = .one → u = reply .recovered)
        ∧ (r.outcome = .done → res = .neither → u = reply .recordWriteFailed)
        ∧ (r.outcome ≠ .done → u = reply r.outcome)
        ∧ (∀ c, c ∈ classes13 → settle (noted c (savedAs res s)) = reply .faulted)
        ∧ (∀ c, c ∉ classes13 → r.outcome ≠ .done →
            settle (noted c (savedAs res s)) = reply r.outcome)
        ∧ (∀ c, c ∈ seekFailures → r.outcome = .done →
            settle (noted c (savedAs res s)) = reply .seekFailed))
    -- aborts and faults
    ∧ (r.phase ≠ .save → r.abortPending = true → ¬ begun → s.chan.op = none → level →
        settle s = early .aborted)
    ∧ (∀ c, r.phase ≠ .save → c ∈ classes13 → settle (noted c s) = early .faulted)
    ∧ (∀ c, r.phase ≠ .save → ¬ begun → level → c ∈ seekFailures →
        settle (noted c s) = early .seekFailed)

/-- R112, R133 to R141: the phases of FORMAT: PREPARING, MARKING with its image, WRITING track by track,
VERIFYING with its spare check and user check, whose reads begin on target with the clock locked and otherwise
wait, FINISHING with its image and the table of outcomes, the waits, the abort
at each safe point and the faults. The model's readings: a sector cut by a servo gap is written again
(log entry 35); the waits are kept slot by slot (log entry 36), start only after the outcome of the target
request (log entry 67), and a slot read through drops its wait (log entry 70); a FORMAT that a fault ends in
FINISHING after a copy was written is READY and answers FAULTED (log entry 38); FINISHING asks for its own
target, whose failure ends the FORMAT (log entry 39); SEEK FAILED ends it also where no target is outstanding
(log entry 31); a full zone ends the FORMAT also at the safe point of an abort (log entry 66), and an abort comes before a wait that has run out (log
entry 74). -/
def Obligations.FormatPhases : Prop :=
  ∀ (e : Entry) (f : Format) (s : State), e.code = 0x17#8 → Stage (.command e) .format s →
    s.fmt = some f →
    let to' (g : Format) (v : State) : State := { v with fmt := some g }
    let fields (g : Format) : List Byte :=
      (match g.phase with
        | .preparing => 1#8
        | .marking => 2#8
        | .writing => 3#8
        | .verifying => 4#8
        | .finishing => 5#8) :: be16 g.cylinder ++ be16 g.retired ++ be16 g.reassigned
      ++ [match g.exhausted with
        | some z => byte z
        | none => 0xFF#8]
      ++ (match g.torn with
        | some p => be16 p.cyl ++ [byte p.head, byte p.sector]
        | none => [0xFF#8, 0xFF#8, 0xFF#8, 0xFF#8])
    let ends (o : OutcomeCode) : State := ended e o (fields f) s
    let free := f.abortPending = false
    let level := s.pos.state = .following ∧ s.chan.op = none
    let targets (g : Format) (u : State) : Prop :=
      u.fmt = some { g with step := .target } ∧ u.pos.target = some { cyl := g.cylinder, offset := 0 }
      ∧ u.pos.requester = some .format ∧ u.record = s.record ∧ u.cu = s.cu
    let copies (image : List Byte) (g : Format) (v : State) : State := { to' { g with step := .copies } v with
      record := { v.record with
        image
        copyWrite := some { owner := .format, targeting := false, copy := 0, attempt := 1
                            readBack := false, sector := 0, armed := false, timer := some 250000
                            expired := false, written0 := false } } }
    let empty : List Zone := List.replicate (match f.type with
      | .a => 16
      | .b => 32) { spares := 0, list := [] }
    let read (x : SectorResult) : State := settle (sectorIs x s)
    let copied (w : Bool × Bool) (m : Option FaultClass) : State :=
      settle { s with mail := { Mail.none with copies := some w, note := m } }
    let zero : List Byte := List.replicate 512 0#8
    -- the targets
    (f.phase = .preparing → f.step = .spin → free → f.waits = [] →
      (s.spin.state ≠ .atSpeed → settle s = s)
      ∧ (s.pos.state = .parked → Loadable s → settle s
          = to' { f with step := .target }
              (loads { cyl := f.cylinder, offset := 0 } (some .format) s)))
    ∧ (f.step = .target → free → f.waits = [] → level →
        let u := settle (tell .complete s)
        (f.phase = .preparing → u = copies (recordImage f.type false true 1 f.serial empty)
          { f with phase := .marking, zones := empty }
          { s with
            cart := { s.cart with state := .blank }
            cu := { s.cu with
              pendAuto := false
              attention := s.cu.attention ||| (if s.record.unsaved then 0x0080#16 else 0#16) }
            record := { s.record with session := .typeOnly f.type, copyStatus := .none, unsaved := false
                                      report := LoadReport.none } })
        ∧ (f.phase = .writing → u = to' { f with step := .track } s)
        ∧ (f.phase = .verifying →
            u = to' { f with step := if f.userPart then .users else .spares } s)
        ∧ (f.phase = .finishing →
            u = copies (recordImage f.type f.lock false 2 f.serial f.zones) f s)
        ∧ settle (tell (.notLoaded .faultHeld) s) = ends .faultPending
        ∧ settle (tell (.notLoaded .notAtSpeed) s) = ends .faulted
        ∧ settle (tell .failed s) = ends .seekFailed ∧ settle (tell .ended s) = ends .faulted)
    -- the copies
    ∧ (f.phase = .marking → f.step = .copies →
        let next : Format := { f with
          phase := .writing, cylinder := 1, head := 0, seen := [], waits := [] }
        (free → level → s.pos.target = some { cyl := 0, offset := 0 } →
          targets next (copied (true, true) none))
        ∧ (∀ w, w ≠ (true, true) → copied w none = ends .recordWriteFailed)
        ∧ (¬ free → copied (true, true) none = ends .aborted)
        ∧ (∀ w c, c ∈ classes13 → copied w (some c) = ends .faulted)
        ∧ (∀ w c, c ∈ seekFailures → copied w (some c) = ends .seekFailed))
    ∧ (f.phase = .finishing → f.step = .copies →
        let ready (st : CopyStatus) : State := { s with
          cart := { s.cart with state := .ready }
          cu := { s.cu with pendAuto := false }
          record := { s.record with
            session := .full { type := f.type, lock := f.lock, generation := 2, serial := f.serial
                               zones := f.zones }
            copyStatus := st, unsaved := false } }
        copied (true, true) none = ended e .done (fields f) (ready .good)
        ∧ copied (true, false) none = ended e .recovered (fields f) (ready .degraded)
        ∧ copied (false, true) none = ended e .recovered (fields f) (ready .degraded)
        ∧ copied (false, false) none = ends .recordWriteFailed
        ∧ (∀ c, c ∈ classes13 → copied (false, false) (some c) = ends .faulted
            ∧ copied (true, false) (some c) = ended e .faulted (fields f) (ready .degraded)))
    -- WRITING
    ∧ (f.phase = .writing → f.step = .track → free → f.waits = [] →
        let g : Format := { f with seen := f.index :: f.seen }
        let last := match f.type with
          | .a => 320
          | .b => 640
        let u := read .written
        (f.seen.length + 1 < 16 → u = to' g s)
        ∧ (f.seen.length + 1 = 16 → f.head = 0 → u = to' { g with head := 1, seen := [] } s)
        ∧ (f.seen.length + 1 = 16 → f.head ≠ 0 → f.cylinder < last → level →
            s.pos.target = some { cyl := f.cylinder, offset := 0 } →
            targets { g with cylinder := f.cylinder + 1, head := 0, seen := [] } u)
        ∧ (f.seen.length + 1 = 16 → f.head ≠ 0 → last ≤ f.cylinder → f.verify = true → level →
            s.pos.target = some { cyl := f.cylinder, offset := 0 } → f.cylinder ≠ 20 →
            targets { g with phase := .verifying, cylinder := 20, head := 0, seen := [], zone := 0
                             index := 0, userPart := false } u)
        ∧ (f.seen.length + 1 = 16 → f.head ≠ 0 → last ≤ f.cylinder → f.verify = false → level →
            s.pos.target = some { cyl := f.cylinder, offset := 0 } →
            targets { g with phase := .finishing, cylinder := 0, head := 0, seen := [] } u)
        ∧ read .cut = s)
    ∧ (∀ n, f.step = .track → s.chan.op = none →
        let gate := onTarget f.cylinder 0 s = true ∧ s.clk.locked = true ∧ s.spin.state = .atSpeed
          ∧ s.spin.deviating = false ∧ s.cart.wp = false
        let u := sectorStart n s
        let quiet := s.chan.transfer = none ∧ s.chan.reassign = none
        (quiet → n ∈ f.seen → u = s)
        ∧ (quiet → n ∉ f.seen → gate → u = { s with
            fmt := some { f with index := n, waits := f.waits.filter fun w => w.1 != n }
            chan := { s.chan with
              op := some (.write { cyl := f.cylinder, head := f.head, sector := n } zero)
              wgate := true, writeCurrent := s.set.trims.wc, lastHead := f.head } })
        ∧ (quiet → n ∉ f.seen → ¬ gate → (∀ w ∈ f.waits, w.1 ≠ n) → u = to' { f with
            waits := f.waits ++ [(n, s.set.active.timeout * 1000000)] } s)
        ∧ (quiet → n ∉ f.seen → ¬ gate → (∃ w ∈ f.waits, w.1 = n) → u = s))
    -- VERIFYING
    ∧ (∀ n, s.chan.op = none → s.chan.transfer = none → s.chan.reassign = none →
        let on := onTarget f.cylinder 0 s = true ∧ s.clk.locked = true
        let u := sectorStart n s
        let waits (v : State) : Prop := v = if f.waits.any fun w => w.1 == n then s
          else to' { f with waits := f.waits ++ [(n, s.set.active.timeout * 1000000)] } s
        let starts (p : Place) (v : State) : State := { v with chan := { v.chan with
          op := some (.read p), lastHead := p.head } }
        let perZone := match f.type with
          | .a => 632
          | .b => 608
        let spare := slotPlace f.zone (perZone + f.index)
        let none' := n ∈ f.seen ∨ perZone ≤ 32 * (f.cylinder - (1 + 20 * f.zone)) + 16 * f.head + n
        (f.step = .spares → n ≠ spare.sector → u = s)
        ∧ (f.step = .spares → n = spare.sector → on → u = starts spare s)
        ∧ (f.step = .spares → n = spare.sector → ¬ on → waits u)
        ∧ (f.step = .users → none' → u = s)
        ∧ (f.step = .users → ¬ none' → on → u = starts { cyl := f.cylinder, head := f.head, sector := n }
            (to' { f with index := n } s))
        ∧ (f.step = .users → ¬ none' → ¬ on → waits u)
        ∧ (f.step ≠ .track → f.step ≠ .spares → f.step ≠ .users → u = s))
    ∧ (f.phase = .verifying → f.step = .spares → f.userPart = false → free →
        let w := match f.type with
          | .a => 8
          | .b => 32
        let retired : Format := { f with
          retired := f.retired + 1
          zones := f.zones.set f.zone { zoneAt f.zones f.zone with
            spares := (zoneAt f.zones f.zone).spares ||| (1#32 <<< f.index) } }
        let on (g : Format) (u : State) : Prop :=
          (f.index + 1 < w → u = to' { g with index := f.index + 1, waits := [] } s)
          ∧ (w ≤ f.index + 1 → level → s.pos.target = some { cyl := f.cylinder, offset := 0 } →
              f.cylinder ≠ 1 + 20 * f.zone →
              targets { g with cylinder := 1 + 20 * f.zone, head := 0, seen := [], index := 0
                               userPart := true, waits := [] } u)
        on f (read (.readOk zero)) ∧ on retired (read .readFailed)
        ∧ (∀ d, d ≠ zero → on retired (read (.readOk d)))
        ∧ (f.waits = [] → read .interrupted = s))
    ∧ (f.phase = .verifying → f.step = .users → f.userPart = true → free → f.waits = [] →
        let perZone := match f.type with
          | .a => 632
          | .b => 608
        let zones := match f.type with
          | .a => 16
          | .b => 32
        let slot := 32 * (f.cylinder - (1 + 20 * f.zone)) + 16 * f.head
        let g : Format := { f with seen := f.index :: f.seen }
        let on (h : Format) (u : State) : Prop :=
          let more := f.seen.length + 1 < min 16 (perZone - slot)
          let track := slot + 16 < perZone
          let there := level ∧ s.pos.target = some { cyl := f.cylinder, offset := 0 }
          (more → u = to' h s)
          ∧ (¬ more → track → f.head = 0 → u = to' { h with head := 1, seen := [], index := 0 } s)
          ∧ (¬ more → track → f.head ≠ 0 → there →
              targets { h with cylinder := f.cylinder + 1, head := 0, seen := [], index := 0 } u)
          ∧ (¬ more → ¬ track → f.zone + 1 < zones → there → f.cylinder ≠ 40 + 20 * f.zone →
              targets { h with cylinder := 40 + 20 * f.zone, head := 0, seen := [], zone := f.zone + 1
                               index := 0, userPart := false } u)
          ∧ (¬ more → ¬ track → zones ≤ f.zone + 1 → there → f.cylinder ≠ 0 →
              targets { h with phase := .finishing, cylinder := 0, head := 0, seen := [] } u)
        let bad (x : SectorResult) : Prop :=
          (∀ k z, reassignZone s.cart.wp f.type (slot + f.index) (zoneAt f.zones f.zone) = .moved k z →
            on { g with reassigned := f.reassigned + 1, zones := f.zones.set f.zone z } (read x))
          ∧ (s.cart.wp = false → spareScan f.type (zoneAt f.zones f.zone) = f.type.spareWidth →
              read x = ended e .sparesExhausted (fields { f with exhausted := some f.zone }) s)
        on g (read (.readOk zero)) ∧ bad .readFailed ∧ (∀ d, d ≠ zero → bad (.readOk d))
        ∧ read .interrupted = s)
    -- waits, aborts and faults
    ∧ (f.step ≠ .copies → ¬ free → s.chan.op = none → f.phase ≠ .marking → f.phase ≠ .finishing →
        settle s = ends .aborted)
    ∧ (f.step ≠ .copies → ¬ free → s.chan.op = none → f.phase = .writing →
        read .written = ends .aborted)
    ∧ (f.step ≠ .copies → free → s.chan.op = none → (∃ w ∈ f.waits, w.2 = 0) →
        settle s = ends .dataTimeout)
    ∧ (∀ c, f.step ≠ .copies → c ∈ classes13 → settle (noted c s) = ends .faulted)
    ∧ (∀ c, f.step ≠ .copies → c ∈ seekFailures → settle (noted c s) = ends .seekFailed)
    ∧ (f.phase = .writing → f.step ≠ .copies → settle (noted .offTrack s) = ends .faulted
        ∧ settle (noted .writeFault s) = ends .writeFault
        ∧ settle (noted .speedDeviation s) = ends .faulted)

/-- R162, R163, R160, R167: the stages of REST and of SPIN DOWN; R13 to R18, R15, R22: those of an eject; R184:
those of a soft reset. At each: what goes on when its answer has come or its state is reached, the class 1–3
faults and the brake failure, and the wait that goes on otherwise. The model's choices: a BUTTON EJECT that
an item's fault meets in its first stage (log entry 60), the stop request of the brake stage (log entry 59),
and a SPIN DOWN or host EJECT that a class 1–3 fault meets in its wait for the spindle, which writes neither
copy and leaves the copy status as it was (log entry 76), and the answer FAULTED of an unforced host EJECT whose
write-back the SEEK FAILED of a settle ends (log entry 82). A write-back that ends WRITE PROTECTED leaves the
outcome DONE and lets an eject go on (log entry 65). -/
def Obligations.RestAndEjectStages : Prop :=
  (∀ (e : Entry) (s : State), e.code = 0x18#8 →
    let standby := byteAt e.params 0 = 1
    let outcome (faulted : Bool) (r : RecordResult) : OutcomeCode :=
      if faulted then .faulted else match r with
        | .neither => .recordWriteFailed
        | .one => .recovered
        | _ => .done
    let slot := s.cu.slot
    let kept (r : RecordResult) (flt : Bool) : State :=
      { s with cu := { s.cu with slot := { slot with result := r, faulted := flt } } }
    let rests (flt : Bool) (v : State) : State :=
      ended e (outcome flt slot.result) [byte slot.result.code] { v with
        cu := { s.cu with slot := { slot with faulted := flt } }
        rest := { state := if standby then .standby else .idle
                  wakeActive := !(byteAt e.params 0 == 1) || byteAt e.params 2 == 1
                  timer := if byteAt e.params 1 = 0 then none
                    else some (byteAt e.params 1 * 60000000) } }
    let waits (w : Work) : Prop := Stage (.command e) w s
    (waits .restSave → settle s = s)
    ∧ (∀ r, waits .restSave → s.pos.state.flying = true → s.chan.op = none → s.pins.park = false →
        s.pos.held = none → settle (savedAs r s) = setWork .restPark (retracts (kept r slot.faulted)))
    ∧ (∀ r, waits .restSave → s.pos.state.home = true → s.pos.state ≠ .parked →
        settle (savedAs r s) = setWork .restPark { kept r slot.faulted with
          pos := { s.pos with held := none } })
    ∧ (waits .restPark → s.pos.state ≠ .parked → settle s = s)
    ∧ (waits .restPark → s.pos.state = .parked → ¬ standby → settle s = rests slot.faulted s)
    ∧ (waits .restPark → s.pos.state = .parked → standby → s.spin.state = .atSpeed →
        settle s = setWork .restStop { s with spin := brakes s.spin })
    ∧ (waits .restStop → s.spin.state ≠ .stopped → settle s = s)
    ∧ (waits .restStop → s.spin.state = .stopped → settle s = rests slot.faulted s)
    ∧ (waits .restStop → settle (noted .stallBrake s) = rests true s)
    ∧ (∀ c, waits .restSave ∨ waits .restPark ∧ s.pos.state ≠ .parked
        ∨ waits .restStop ∧ c ≠ .stallBrake ∧ s.spin.state ≠ .stopped →
        settle (noted c s) = kept slot.result (slot.faulted || decide (c ∈ classes13))))
  ∧ (∀ (e : Entry) (s : State), e.code = 0x11#8 →
    let outcome (faulted : Bool) (r : RecordResult) : OutcomeCode :=
      if faulted then .faulted else match r with
        | .neither => .recordWriteFailed
        | .one => .recovered
        | _ => .done
    let slot := s.cu.slot
    let kept (r : RecordResult) (flt : Bool) : State :=
      { s with cu := { s.cu with slot := { slot with result := r, faulted := flt } } }
    let down (flt : Bool) : State :=
      ended e (outcome flt slot.result) [byte slot.result.code] { s with
        cart := { s.cart with state := stateForType s.cart.type }
        cu := { s.cu with
          slot := { slot with faulted := flt }, pendAuto := s.cart.type.isSome && s.cu.pendAuto
          attention := s.cu.attention ||| (if s.record.unsaved then 0x0080#16 else 0#16) }
        record := { s.record with session := .absent, copyStatus := .none, unsaved := false } }
    let waits (w : Work) : Prop := Stage (.command e) w s
    (waits .downSpin → s.spin.state ≠ .atSpeed → settle s = s)
    ∧ (waits .downSpin → s.pos.state = .parked → Loadable s → s.cart.wp = false →
        settle s = setWork .downSave (loads { cyl := 0, offset := 0 } (some .record) { s with
          record := { s.record with copyWrite := some {
            owner := .writeBack, targeting := true, copy := 0, attempt := 1, readBack := false
            sector := 0, armed := false, timer := none, expired := false, written0 := false } } }))
    ∧ (∀ c, waits .downSpin → c ∈ classes13 → s.pos.state.home = true → s.pos.state ≠ .parked →
        settle (noted c s) = setWork .downPark { kept .neither true with
          pos := { s.pos with held := none } })
    ∧ (∀ r, waits .downSave → s.pos.state.flying = true → s.chan.op = none → s.pins.park = false →
        s.pos.held = none → settle (savedAs r s) = setWork .downPark (retracts (kept r slot.faulted)))
    ∧ (waits .downPark → s.pos.state ≠ .parked → settle s = s)
    ∧ (waits .downPark → s.pos.state = .parked → s.spin.state = .atSpeed →
        settle s = setWork .downStop { s with spin := brakes s.spin })
    ∧ (waits .downStop → s.spin.state ≠ .stopped → settle s = s)
    ∧ (waits .downStop → s.spin.state = .stopped → settle s = down slot.faulted)
    ∧ (waits .downStop → settle (noted .stallBrake s) = down true)
    ∧ (∀ c, waits .downSave ∨ waits .downPark ∧ s.pos.state ≠ .parked
        ∨ waits .downStop ∧ c ≠ .stallBrake ∧ s.spin.state ≠ .stopped →
        settle (noted c s) = kept slot.result (slot.faulted || decide (c ∈ classes13))))
  ∧ (∀ (i : Item) (j : Eject) (s : State), (∀ e, i = .command e → e.code = 0x19#8) →
    Stage i .eject s → s.cart.eject = some j →
    let on (st : EjectStage) (v : State) : State :=
      { v with cart := { v.cart with eject := some { j with stage := st } } }
    let lost (v : State) : State :=
      { v with cu := { v.cu with attention := v.cu.attention ||| 0x0080#16 } }
    let forced := j.button = true ∨ j.force = true
    let flies := s.pos.state.flying = true ∧ s.chan.op = none ∧ s.pins.park = false ∧ s.pos.held = none
    let gone := s.pos.state.home = true ∧ s.pos.state ≠ .parked
    let kept (o : OutcomeCode) : State := itemEnded i o [] { s with
      cart := { s.cart with state := s.cart.origin.getD .present }
      cu := { s.cu with pendAuto := s.cu.pendAuto && decide (s.cart.origin.getD .present = .present) } }
    let brakeFailed : State := itemEnded i .faulted [] { s with
      cart := { s.cart with state := stateForType s.cart.type }
      cu := { s.cu with
        pendAuto := s.cart.type.isSome && s.cu.pendAuto
        attention := s.cu.attention ||| (if s.record.unsaved then 0x0080#16 else 0#16) }
      record := { s.record with session := .absent, copyStatus := .none, unsaved := false
                                report := LoadReport.none } }
    (j.stage = .writeBackSpin → s.spin.state ≠ .atSpeed → settle s = s)
    ∧ (j.stage = .writeBackSpin → s.pos.state = .parked → Loadable s → s.cart.wp = false →
        settle s = on .writeBack (loads { cyl := 0, offset := 0 } (some .record) { s with
          record := { s.record with copyWrite := some {
            owner := .writeBack, targeting := true, copy := 0, attempt := 1, readBack := false
            sector := 0, armed := false, timer := none, expired := false, written0 := false } } }))
    ∧ (∀ c, j.stage = .writeBackSpin → c ∈ classes13 →
        (¬ forced → settle (noted c s) = kept .faulted)
        ∧ (forced → gone → settle (noted c s) = on .park (lost s)))
    ∧ (∀ r, j.stage = .writeBack → r ≠ .neither →
        (flies → settle (savedAs r s) = retracts (on .park s))
        ∧ (gone → settle (savedAs r s) = on .park s))
    ∧ (j.stage = .writeBack →
        (¬ forced → settle (savedAs .neither s) = kept .recordWriteFailed)
        ∧ (∀ c, ¬ forced → settle (noted c (savedAs .neither s)) = kept .faulted)
        ∧ (forced → flies → settle (savedAs .neither s) = retracts (on .park (lost s)))
        ∧ (forced → gone → settle (savedAs .neither s) = on .park (lost s)))
    ∧ (j.stage = .park → s.pos.state ≠ .parked → settle s = s)
    ∧ (j.stage = .park → s.pos.state = .parked → s.spin.brakeFailed = true → settle s = brakeFailed)
    ∧ (j.stage = .park → s.pos.state = .parked → s.spin.brakeFailed = false → s.spin.state = .atSpeed →
        settle s = on .brake { s with spin := brakes s.spin })
    ∧ (j.stage = .park → s.pos.state = .parked → s.spin.brakeFailed = false → s.spin.state = .braking →
        settle s = on .brake { s with
          spin := { s.spin with pendingStart := false, spinUp := none } })
    ∧ (j.stage = .brake → s.spin.brakeFailed = true → settle s = brakeFailed)
    ∧ (j.stage = .brake → s.spin.brakeFailed = false → s.spin.state ≠ .stopped → settle s = s)
    ∧ (j.stage = .brake → s.spin.brakeFailed = false → s.spin.state = .stopped →
        s.pos.state = .parked → s.pins.seated = true → settle s = { s with
          cart := { s.cart with
            state := .released, latch := true
            eject := some { j with stage := .leaveOrJam, window := some 2000000 } }
          cu := { s.cu with pendAuto := false } })
    ∧ (j.stage = .release → s.spin.state ≠ .stopped ∨ s.pos.state ≠ .parked → settle s = s)
    ∧ (j.stage = .leaveOrJam → settle s = s)
    ∧ (∀ c, j.stage = .park ∧ s.pos.state ≠ .parked
        ∨ j.stage = .brake ∧ s.spin.brakeFailed = false ∧ s.spin.state ≠ .stopped
        ∨ j.stage = .leaveOrJam → settle (noted c s) = s))
  ∧ ∀ (tag : Byte) (s : State), Stage (.softReset tag) .resetPark s →
    (s.pos.state ≠ .parked → settle s = s ∧ ∀ c, settle (noted c s) = s)
    ∧ (s.pos.state = .parked → settle s = cleared { s with
        cu := { s.cu with
          slot := Slot.free, resets := s.cu.resets.tail
          attention := s.cu.attention &&& 0xFDFF#16 }
        set := { s.set with active := s.set.image, trims := (s.cart.type.getD .a).factoryTrims }
        link := { s.link with outbox := s.link.outbox ++ [{
          tag, code := 0x35#8, outcome := .done, fields := [], queued := false }] } })
end

