-- ==== Sys2Proof/Laws/Arith.lean ====
section
/-! SUPPORT. What the arithmetic of the part computes, in the words of the spec: shift-round, clamp and
isqrt (00_scope.md, Conventions), and the bytes of a number read back (R194). -/

namespace Sys2Proof.Machine

theorem clampInt_eq (a b v : Int) (h : a ≤ b) : clampInt a b v = max a (min b v) := by
  unfold clampInt
  split
  · omega
  · split <;> omega

theorem clampNat_eq (a b v : Nat) (h : a ≤ b) : clampNat a b v = max a (min b v) := by
  unfold clampNat
  split
  · omega
  · split <;> omega

theorem clampInt_mem (a b v : Int) (h : a ≤ b) : a ≤ clampInt a b v ∧ clampInt a b v ≤ b := by
  rw [clampInt_eq a b v h]
  omega

/-- Shift-round by 6 (R54, R55). -/
theorem shiftRound_six (v : Int) :
    shiftRound v 6 = v / 64 + (if 32 ≤ v - 64 * (v / 64) then 1 else 0) := by
  have h : v % 64 = v - 64 * (v / 64) := Int.emod_def v 64
  simp [shiftRound, ← h]

/-- Shift-round by 4 (R32). -/
theorem shiftRound_four (v : Int) :
    shiftRound v 4 = v / 16 + (if 8 ≤ v - 16 * (v / 16) then 1 else 0) := by
  have h : v % 16 = v - 16 * (v / 16) := Int.emod_def v 16
  simp [shiftRound, ← h]

/-- The square root bit by bit keeps r² ≤ n < (r + 2^k)². -/
theorem isqrtBits_spec (n : Nat) : ∀ (k r : Nat), r * r ≤ n → n < (r + 2 ^ k) * (r + 2 ^ k) →
    isqrtBits n k r * isqrtBits n k r ≤ n ∧ n < (isqrtBits n k r + 1) * (isqrtBits n k r + 1)
  | 0, r, h, k => by simpa [isqrtBits] using ⟨h, k⟩
  | j + 1, r, h, k => by
    unfold isqrtBits
    split
    · rename_i c
      refine isqrtBits_spec n j _ c ?_
      rwa [Nat.add_assoc, ← Nat.two_mul, ← Nat.pow_succ']
    · rename_i c
      exact isqrtBits_spec n j r h (by omega)

/-- isqrt is the largest integer whose square does not exceed its argument. -/
theorem isqrt_spec (n : Nat) : isqrt n * isqrt n ≤ n ∧ n < (isqrt n + 1) * (isqrt n + 1) := by
  refine isqrtBits_spec n _ 0 (by omega) ?_
  rw [Nat.zero_add, ← Nat.pow_add]
  exact lt_of_lt_of_le Nat.lt_log2_self (Nat.pow_le_pow_right (by omega) (by omega))

theorem isqrt_eq_sqrt (n : Nat) : isqrt n = Nat.sqrt n := by
  have h := isqrt_spec n
  exact Nat.eq_sqrt.mpr h

/-- Two bytes read back the number that was written, modulo 65,536. -/
theorem word16At_be16 (n : Nat) (rest : List Byte) : word16At (be16 n ++ rest) 0 = n % 65536 := by
  simp [word16At, byteAt, be16, byte]
  omega

end Sys2Proof.Machine
end

