-- ==== Sys2Proof/Laws/State.lean ====
section
/-! SUPPORT. What each unconditional update of the state writes and what it leaves: one lemma per update
and field, each true by unfolding, so that no proof opens a record update. Where an update writes a part
of a block, there is a lemma for each field of that block. -/

namespace Sys2Proof.Machine

/-! ### `tell` -/

@[simp] theorem tell_pins (o : TargetOutcome) (s : State) : (tell o s).pins = s.pins := rfl
@[simp] theorem tell_link (o : TargetOutcome) (s : State) : (tell o s).link = s.link := rfl
@[simp] theorem tell_cu (o : TargetOutcome) (s : State) : (tell o s).cu = s.cu := rfl
@[simp] theorem tell_cart (o : TargetOutcome) (s : State) : (tell o s).cart = s.cart := rfl
@[simp] theorem tell_spin (o : TargetOutcome) (s : State) : (tell o s).spin = s.spin := rfl
@[simp] theorem tell_clk (o : TargetOutcome) (s : State) : (tell o s).clk = s.clk := rfl
@[simp] theorem tell_pos (o : TargetOutcome) (s : State) : (tell o s).pos = s.pos := rfl
@[simp] theorem tell_record (o : TargetOutcome) (s : State) : (tell o s).record = s.record := rfl
@[simp] theorem tell_chan (o : TargetOutcome) (s : State) : (tell o s).chan = s.chan := rfl
@[simp] theorem tell_fmt (o : TargetOutcome) (s : State) : (tell o s).fmt = s.fmt := rfl
@[simp] theorem tell_fault (o : TargetOutcome) (s : State) : (tell o s).fault = s.fault := rfl
@[simp] theorem tell_rest (o : TargetOutcome) (s : State) : (tell o s).rest = s.rest := rfl
@[simp] theorem tell_set (o : TargetOutcome) (s : State) : (tell o s).set = s.set := rfl
@[simp] theorem tell_mail_told (o : TargetOutcome) (s : State) :
    (tell o s).mail.told = some o := rfl
@[simp] theorem tell_mail_sector (o : TargetOutcome) (s : State) :
    (tell o s).mail.sector = s.mail.sector := rfl
@[simp] theorem tell_mail_note (o : TargetOutcome) (s : State) :
    (tell o s).mail.note = s.mail.note := rfl
@[simp] theorem tell_mail_copies (o : TargetOutcome) (s : State) :
    (tell o s).mail.copies = s.mail.copies := rfl
@[simp] theorem tell_mail_saved (o : TargetOutcome) (s : State) :
    (tell o s).mail.saved = s.mail.saved := rfl
@[simp] theorem tell_mail_load (o : TargetOutcome) (s : State) :
    (tell o s).mail.load = s.mail.load := rfl
@[simp] theorem tell_freeUsed (o : TargetOutcome) (s : State) :
    (tell o s).freeUsed = s.freeUsed := rfl
@[simp] theorem tell_pending (o : TargetOutcome) (s : State) : (tell o s).pending = s.pending := rfl

/-! ### `sectorResult` -/

@[simp] theorem sectorResult_pins (r : SectorResult) (s : State) :
    (sectorResult r s).pins = s.pins := rfl
@[simp] theorem sectorResult_link (r : SectorResult) (s : State) :
    (sectorResult r s).link = s.link := rfl
@[simp] theorem sectorResult_cu (r : SectorResult) (s : State) : (sectorResult r s).cu = s.cu := rfl
@[simp] theorem sectorResult_cart (r : SectorResult) (s : State) :
    (sectorResult r s).cart = s.cart := rfl
@[simp] theorem sectorResult_spin (r : SectorResult) (s : State) :
    (sectorResult r s).spin = s.spin := rfl
@[simp] theorem sectorResult_clk (r : SectorResult) (s : State) :
    (sectorResult r s).clk = s.clk := rfl
@[simp] theorem sectorResult_pos (r : SectorResult) (s : State) :
    (sectorResult r s).pos = s.pos := rfl
@[simp] theorem sectorResult_record (r : SectorResult) (s : State) :
    (sectorResult r s).record = s.record := rfl
@[simp] theorem sectorResult_chan (r : SectorResult) (s : State) :
    (sectorResult r s).chan = s.chan := rfl
@[simp] theorem sectorResult_fmt (r : SectorResult) (s : State) :
    (sectorResult r s).fmt = s.fmt := rfl
@[simp] theorem sectorResult_fault (r : SectorResult) (s : State) :
    (sectorResult r s).fault = s.fault := rfl
@[simp] theorem sectorResult_rest (r : SectorResult) (s : State) :
    (sectorResult r s).rest = s.rest := rfl
@[simp] theorem sectorResult_set (r : SectorResult) (s : State) :
    (sectorResult r s).set = s.set := rfl
@[simp] theorem sectorResult_mail_told (r : SectorResult) (s : State) :
    (sectorResult r s).mail.told = s.mail.told := rfl
@[simp] theorem sectorResult_mail_sector (r : SectorResult) (s : State) :
    (sectorResult r s).mail.sector = some r := rfl
@[simp] theorem sectorResult_mail_note (r : SectorResult) (s : State) :
    (sectorResult r s).mail.note = s.mail.note := rfl
@[simp] theorem sectorResult_mail_copies (r : SectorResult) (s : State) :
    (sectorResult r s).mail.copies = s.mail.copies := rfl
@[simp] theorem sectorResult_mail_saved (r : SectorResult) (s : State) :
    (sectorResult r s).mail.saved = s.mail.saved := rfl
@[simp] theorem sectorResult_mail_load (r : SectorResult) (s : State) :
    (sectorResult r s).mail.load = s.mail.load := rfl
@[simp] theorem sectorResult_freeUsed (r : SectorResult) (s : State) :
    (sectorResult r s).freeUsed = s.freeUsed := rfl
@[simp] theorem sectorResult_pending (r : SectorResult) (s : State) :
    (sectorResult r s).pending = s.pending := rfl

/-! ### `dropNote` -/

@[simp] theorem dropNote_pins (s : State) : (dropNote s).pins = s.pins := rfl
@[simp] theorem dropNote_link (s : State) : (dropNote s).link = s.link := rfl
@[simp] theorem dropNote_cu (s : State) : (dropNote s).cu = s.cu := rfl
@[simp] theorem dropNote_cart (s : State) : (dropNote s).cart = s.cart := rfl
@[simp] theorem dropNote_spin (s : State) : (dropNote s).spin = s.spin := rfl
@[simp] theorem dropNote_clk (s : State) : (dropNote s).clk = s.clk := rfl
@[simp] theorem dropNote_pos (s : State) : (dropNote s).pos = s.pos := rfl
@[simp] theorem dropNote_record (s : State) : (dropNote s).record = s.record := rfl
@[simp] theorem dropNote_chan (s : State) : (dropNote s).chan = s.chan := rfl
@[simp] theorem dropNote_fmt (s : State) : (dropNote s).fmt = s.fmt := rfl
@[simp] theorem dropNote_fault (s : State) : (dropNote s).fault = s.fault := rfl
@[simp] theorem dropNote_rest (s : State) : (dropNote s).rest = s.rest := rfl
@[simp] theorem dropNote_set (s : State) : (dropNote s).set = s.set := rfl
@[simp] theorem dropNote_mail_told (s : State) : (dropNote s).mail.told = s.mail.told := rfl
@[simp] theorem dropNote_mail_sector (s : State) : (dropNote s).mail.sector = s.mail.sector := rfl
@[simp] theorem dropNote_mail_note (s : State) : (dropNote s).mail.note = none := rfl
@[simp] theorem dropNote_mail_copies (s : State) : (dropNote s).mail.copies = s.mail.copies := rfl
@[simp] theorem dropNote_mail_saved (s : State) : (dropNote s).mail.saved = s.mail.saved := rfl
@[simp] theorem dropNote_mail_load (s : State) : (dropNote s).mail.load = s.mail.load := rfl
@[simp] theorem dropNote_freeUsed (s : State) : (dropNote s).freeUsed = s.freeUsed := rfl
@[simp] theorem dropNote_pending (s : State) : (dropNote s).pending = s.pending := rfl

/-! ### `dropTold` -/

@[simp] theorem dropTold_pins (s : State) : (dropTold s).pins = s.pins := rfl
@[simp] theorem dropTold_link (s : State) : (dropTold s).link = s.link := rfl
@[simp] theorem dropTold_cu (s : State) : (dropTold s).cu = s.cu := rfl
@[simp] theorem dropTold_cart (s : State) : (dropTold s).cart = s.cart := rfl
@[simp] theorem dropTold_spin (s : State) : (dropTold s).spin = s.spin := rfl
@[simp] theorem dropTold_clk (s : State) : (dropTold s).clk = s.clk := rfl
@[simp] theorem dropTold_pos (s : State) : (dropTold s).pos = s.pos := rfl
@[simp] theorem dropTold_record (s : State) : (dropTold s).record = s.record := rfl
@[simp] theorem dropTold_chan (s : State) : (dropTold s).chan = s.chan := rfl
@[simp] theorem dropTold_fmt (s : State) : (dropTold s).fmt = s.fmt := rfl
@[simp] theorem dropTold_fault (s : State) : (dropTold s).fault = s.fault := rfl
@[simp] theorem dropTold_rest (s : State) : (dropTold s).rest = s.rest := rfl
@[simp] theorem dropTold_set (s : State) : (dropTold s).set = s.set := rfl
@[simp] theorem dropTold_mail_told (s : State) : (dropTold s).mail.told = none := rfl
@[simp] theorem dropTold_mail_sector (s : State) : (dropTold s).mail.sector = s.mail.sector := rfl
@[simp] theorem dropTold_mail_note (s : State) : (dropTold s).mail.note = s.mail.note := rfl
@[simp] theorem dropTold_mail_copies (s : State) : (dropTold s).mail.copies = s.mail.copies := rfl
@[simp] theorem dropTold_mail_saved (s : State) : (dropTold s).mail.saved = s.mail.saved := rfl
@[simp] theorem dropTold_mail_load (s : State) : (dropTold s).mail.load = s.mail.load := rfl
@[simp] theorem dropTold_freeUsed (s : State) : (dropTold s).freeUsed = s.freeUsed := rfl
@[simp] theorem dropTold_pending (s : State) : (dropTold s).pending = s.pending := rfl

/-! ### `dropSector` -/

@[simp] theorem dropSector_pins (s : State) : (dropSector s).pins = s.pins := rfl
@[simp] theorem dropSector_link (s : State) : (dropSector s).link = s.link := rfl
@[simp] theorem dropSector_cu (s : State) : (dropSector s).cu = s.cu := rfl
@[simp] theorem dropSector_cart (s : State) : (dropSector s).cart = s.cart := rfl
@[simp] theorem dropSector_spin (s : State) : (dropSector s).spin = s.spin := rfl
@[simp] theorem dropSector_clk (s : State) : (dropSector s).clk = s.clk := rfl
@[simp] theorem dropSector_pos (s : State) : (dropSector s).pos = s.pos := rfl
@[simp] theorem dropSector_record (s : State) : (dropSector s).record = s.record := rfl
@[simp] theorem dropSector_chan (s : State) : (dropSector s).chan = s.chan := rfl
@[simp] theorem dropSector_fmt (s : State) : (dropSector s).fmt = s.fmt := rfl
@[simp] theorem dropSector_fault (s : State) : (dropSector s).fault = s.fault := rfl
@[simp] theorem dropSector_rest (s : State) : (dropSector s).rest = s.rest := rfl
@[simp] theorem dropSector_set (s : State) : (dropSector s).set = s.set := rfl
@[simp] theorem dropSector_mail_told (s : State) : (dropSector s).mail.told = s.mail.told := rfl
@[simp] theorem dropSector_mail_sector (s : State) : (dropSector s).mail.sector = none := rfl
@[simp] theorem dropSector_mail_note (s : State) : (dropSector s).mail.note = s.mail.note := rfl
@[simp] theorem dropSector_mail_copies (s : State) :
    (dropSector s).mail.copies = s.mail.copies := rfl
@[simp] theorem dropSector_mail_saved (s : State) : (dropSector s).mail.saved = s.mail.saved := rfl
@[simp] theorem dropSector_mail_load (s : State) : (dropSector s).mail.load = s.mail.load := rfl
@[simp] theorem dropSector_freeUsed (s : State) : (dropSector s).freeUsed = s.freeUsed := rfl
@[simp] theorem dropSector_pending (s : State) : (dropSector s).pending = s.pending := rfl

/-! ### `setCause` -/

@[simp] theorem setCause_pins (c : Cause) (s : State) : (setCause c s).pins = s.pins := rfl
@[simp] theorem setCause_link (c : Cause) (s : State) : (setCause c s).link = s.link := rfl
@[simp] theorem setCause_cu_queue (c : Cause) (s : State) :
    (setCause c s).cu.queue = s.cu.queue := rfl
@[simp] theorem setCause_cu_slot (c : Cause) (s : State) : (setCause c s).cu.slot = s.cu.slot := rfl
@[simp] theorem setCause_cu_pendAuto (c : Cause) (s : State) :
    (setCause c s).cu.pendAuto = s.cu.pendAuto := rfl
@[simp] theorem setCause_cu_pendEject (c : Cause) (s : State) :
    (setCause c s).cu.pendEject = s.cu.pendEject := rfl
@[simp] theorem setCause_cu_pendWake (c : Cause) (s : State) :
    (setCause c s).cu.pendWake = s.cu.pendWake := rfl
@[simp] theorem setCause_cu_resets (c : Cause) (s : State) :
    (setCause c s).cu.resets = s.cu.resets := rfl
@[simp] theorem setCause_cu_attention (c : Cause) (s : State) :
    (setCause c s).cu.attention = s.cu.attention ||| c.mask := rfl
@[simp] theorem setCause_cu_accepted (c : Cause) (s : State) :
    (setCause c s).cu.accepted = s.cu.accepted := rfl
@[simp] theorem setCause_cu_repliesSent (c : Cause) (s : State) :
    (setCause c s).cu.repliesSent = s.cu.repliesSent := rfl
@[simp] theorem setCause_cart (c : Cause) (s : State) : (setCause c s).cart = s.cart := rfl
@[simp] theorem setCause_spin (c : Cause) (s : State) : (setCause c s).spin = s.spin := rfl
@[simp] theorem setCause_clk (c : Cause) (s : State) : (setCause c s).clk = s.clk := rfl
@[simp] theorem setCause_pos (c : Cause) (s : State) : (setCause c s).pos = s.pos := rfl
@[simp] theorem setCause_record (c : Cause) (s : State) : (setCause c s).record = s.record := rfl
@[simp] theorem setCause_chan (c : Cause) (s : State) : (setCause c s).chan = s.chan := rfl
@[simp] theorem setCause_fmt (c : Cause) (s : State) : (setCause c s).fmt = s.fmt := rfl
@[simp] theorem setCause_fault (c : Cause) (s : State) : (setCause c s).fault = s.fault := rfl
@[simp] theorem setCause_rest (c : Cause) (s : State) : (setCause c s).rest = s.rest := rfl
@[simp] theorem setCause_set (c : Cause) (s : State) : (setCause c s).set = s.set := rfl
@[simp] theorem setCause_mail (c : Cause) (s : State) : (setCause c s).mail = s.mail := rfl
@[simp] theorem setCause_freeUsed (c : Cause) (s : State) :
    (setCause c s).freeUsed = s.freeUsed := rfl
@[simp] theorem setCause_pending (c : Cause) (s : State) : (setCause c s).pending = s.pending := rfl

/-! ### `clearCauses` -/

@[simp] theorem clearCauses_pins (m : BitVec 16) (s : State) :
    (clearCauses m s).pins = s.pins := rfl
@[simp] theorem clearCauses_link (m : BitVec 16) (s : State) :
    (clearCauses m s).link = s.link := rfl
@[simp] theorem clearCauses_cu_queue (m : BitVec 16) (s : State) :
    (clearCauses m s).cu.queue = s.cu.queue := rfl
@[simp] theorem clearCauses_cu_slot (m : BitVec 16) (s : State) :
    (clearCauses m s).cu.slot = s.cu.slot := rfl
@[simp] theorem clearCauses_cu_pendAuto (m : BitVec 16) (s : State) :
    (clearCauses m s).cu.pendAuto = s.cu.pendAuto := rfl
@[simp] theorem clearCauses_cu_pendEject (m : BitVec 16) (s : State) :
    (clearCauses m s).cu.pendEject = s.cu.pendEject := rfl
@[simp] theorem clearCauses_cu_pendWake (m : BitVec 16) (s : State) :
    (clearCauses m s).cu.pendWake = s.cu.pendWake := rfl
@[simp] theorem clearCauses_cu_resets (m : BitVec 16) (s : State) :
    (clearCauses m s).cu.resets = s.cu.resets := rfl
@[simp] theorem clearCauses_cu_attention (m : BitVec 16) (s : State) :
    (clearCauses m s).cu.attention = s.cu.attention &&& ~~~ m := rfl
@[simp] theorem clearCauses_cu_accepted (m : BitVec 16) (s : State) :
    (clearCauses m s).cu.accepted = s.cu.accepted := rfl
@[simp] theorem clearCauses_cu_repliesSent (m : BitVec 16) (s : State) :
    (clearCauses m s).cu.repliesSent = s.cu.repliesSent := rfl
@[simp] theorem clearCauses_cart (m : BitVec 16) (s : State) :
    (clearCauses m s).cart = s.cart := rfl
@[simp] theorem clearCauses_spin (m : BitVec 16) (s : State) :
    (clearCauses m s).spin = s.spin := rfl
@[simp] theorem clearCauses_clk (m : BitVec 16) (s : State) : (clearCauses m s).clk = s.clk := rfl
@[simp] theorem clearCauses_pos (m : BitVec 16) (s : State) : (clearCauses m s).pos = s.pos := rfl
@[simp] theorem clearCauses_record (m : BitVec 16) (s : State) :
    (clearCauses m s).record = s.record := rfl
@[simp] theorem clearCauses_chan (m : BitVec 16) (s : State) :
    (clearCauses m s).chan = s.chan := rfl
@[simp] theorem clearCauses_fmt (m : BitVec 16) (s : State) : (clearCauses m s).fmt = s.fmt := rfl
@[simp] theorem clearCauses_fault (m : BitVec 16) (s : State) :
    (clearCauses m s).fault = s.fault := rfl
@[simp] theorem clearCauses_rest (m : BitVec 16) (s : State) :
    (clearCauses m s).rest = s.rest := rfl
@[simp] theorem clearCauses_set (m : BitVec 16) (s : State) : (clearCauses m s).set = s.set := rfl
@[simp] theorem clearCauses_mail (m : BitVec 16) (s : State) :
    (clearCauses m s).mail = s.mail := rfl
@[simp] theorem clearCauses_freeUsed (m : BitVec 16) (s : State) :
    (clearCauses m s).freeUsed = s.freeUsed := rfl
@[simp] theorem clearCauses_pending (m : BitVec 16) (s : State) :
    (clearCauses m s).pending = s.pending := rfl

/-! ### `cancelQueue` -/

@[simp] theorem cancelQueue_pins (s : State) : (cancelQueue s).pins = s.pins := rfl
@[simp] theorem cancelQueue_link (s : State) : (cancelQueue s).link = s.link := rfl
@[simp] theorem cancelQueue_cu_queue (s : State) :
    (cancelQueue s).cu.queue = s.cu.queue.map fun e => { e with cancelled := true } := rfl
@[simp] theorem cancelQueue_cu_slot (s : State) : (cancelQueue s).cu.slot = s.cu.slot := rfl
@[simp] theorem cancelQueue_cu_pendAuto (s : State) :
    (cancelQueue s).cu.pendAuto = s.cu.pendAuto := rfl
@[simp] theorem cancelQueue_cu_pendEject (s : State) :
    (cancelQueue s).cu.pendEject = s.cu.pendEject := rfl
@[simp] theorem cancelQueue_cu_pendWake (s : State) :
    (cancelQueue s).cu.pendWake = s.cu.pendWake := rfl
@[simp] theorem cancelQueue_cu_resets (s : State) : (cancelQueue s).cu.resets = s.cu.resets := rfl
@[simp] theorem cancelQueue_cu_attention (s : State) :
    (cancelQueue s).cu.attention = s.cu.attention := rfl
@[simp] theorem cancelQueue_cu_accepted (s : State) :
    (cancelQueue s).cu.accepted = s.cu.accepted := rfl
@[simp] theorem cancelQueue_cu_repliesSent (s : State) :
    (cancelQueue s).cu.repliesSent = s.cu.repliesSent := rfl
@[simp] theorem cancelQueue_cart (s : State) : (cancelQueue s).cart = s.cart := rfl
@[simp] theorem cancelQueue_spin (s : State) : (cancelQueue s).spin = s.spin := rfl
@[simp] theorem cancelQueue_clk (s : State) : (cancelQueue s).clk = s.clk := rfl
@[simp] theorem cancelQueue_pos (s : State) : (cancelQueue s).pos = s.pos := rfl
@[simp] theorem cancelQueue_record (s : State) : (cancelQueue s).record = s.record := rfl
@[simp] theorem cancelQueue_chan (s : State) : (cancelQueue s).chan = s.chan := rfl
@[simp] theorem cancelQueue_fmt (s : State) : (cancelQueue s).fmt = s.fmt := rfl
@[simp] theorem cancelQueue_fault (s : State) : (cancelQueue s).fault = s.fault := rfl
@[simp] theorem cancelQueue_rest (s : State) : (cancelQueue s).rest = s.rest := rfl
@[simp] theorem cancelQueue_set (s : State) : (cancelQueue s).set = s.set := rfl
@[simp] theorem cancelQueue_mail (s : State) : (cancelQueue s).mail = s.mail := rfl
@[simp] theorem cancelQueue_freeUsed (s : State) : (cancelQueue s).freeUsed = s.freeUsed := rfl
@[simp] theorem cancelQueue_pending (s : State) : (cancelQueue s).pending = s.pending := rfl

/-! ### `accept` -/

@[simp] theorem accept_pins (e : Entry) (s : State) : (accept e s).pins = s.pins := rfl
@[simp] theorem accept_link (e : Entry) (s : State) : (accept e s).link = s.link := rfl
@[simp] theorem accept_cu_queue (e : Entry) (s : State) :
    (accept e s).cu.queue = s.cu.queue ++ [e] := rfl
@[simp] theorem accept_cu_slot (e : Entry) (s : State) : (accept e s).cu.slot = s.cu.slot := rfl
@[simp] theorem accept_cu_pendAuto (e : Entry) (s : State) :
    (accept e s).cu.pendAuto = s.cu.pendAuto := rfl
@[simp] theorem accept_cu_pendEject (e : Entry) (s : State) :
    (accept e s).cu.pendEject = s.cu.pendEject := rfl
@[simp] theorem accept_cu_pendWake (e : Entry) (s : State) :
    (accept e s).cu.pendWake = s.cu.pendWake := rfl
@[simp] theorem accept_cu_resets (e : Entry) (s : State) :
    (accept e s).cu.resets = s.cu.resets := rfl
@[simp] theorem accept_cu_attention (e : Entry) (s : State) :
    (accept e s).cu.attention = s.cu.attention := rfl
@[simp] theorem accept_cu_accepted (e : Entry) (s : State) :
    (accept e s).cu.accepted = s.cu.accepted + 1 := rfl
@[simp] theorem accept_cu_repliesSent (e : Entry) (s : State) :
    (accept e s).cu.repliesSent = s.cu.repliesSent := rfl
@[simp] theorem accept_cart (e : Entry) (s : State) : (accept e s).cart = s.cart := rfl
@[simp] theorem accept_spin (e : Entry) (s : State) : (accept e s).spin = s.spin := rfl
@[simp] theorem accept_clk (e : Entry) (s : State) : (accept e s).clk = s.clk := rfl
@[simp] theorem accept_pos (e : Entry) (s : State) : (accept e s).pos = s.pos := rfl
@[simp] theorem accept_record (e : Entry) (s : State) : (accept e s).record = s.record := rfl
@[simp] theorem accept_chan (e : Entry) (s : State) : (accept e s).chan = s.chan := rfl
@[simp] theorem accept_fmt (e : Entry) (s : State) : (accept e s).fmt = s.fmt := rfl
@[simp] theorem accept_fault (e : Entry) (s : State) : (accept e s).fault = s.fault := rfl
@[simp] theorem accept_rest (e : Entry) (s : State) : (accept e s).rest = s.rest := rfl
@[simp] theorem accept_set (e : Entry) (s : State) : (accept e s).set = s.set := rfl
@[simp] theorem accept_mail (e : Entry) (s : State) : (accept e s).mail = s.mail := rfl
@[simp] theorem accept_freeUsed (e : Entry) (s : State) : (accept e s).freeUsed = s.freeUsed := rfl
@[simp] theorem accept_pending (e : Entry) (s : State) : (accept e s).pending = s.pending := rfl

/-! ### `takeHead` -/

@[simp] theorem takeHead_pins (e : Entry) (s : State) : (takeHead e s).pins = s.pins := rfl
@[simp] theorem takeHead_link (e : Entry) (s : State) : (takeHead e s).link = s.link := rfl
@[simp] theorem takeHead_cu_queue (e : Entry) (s : State) :
    (takeHead e s).cu.queue = s.cu.queue.tail := rfl
@[simp] theorem takeHead_cu_slot (e : Entry) (s : State) :
    (takeHead e s).cu.slot = { Slot.free with item := .command e } := rfl
@[simp] theorem takeHead_cu_pendAuto (e : Entry) (s : State) :
    (takeHead e s).cu.pendAuto = s.cu.pendAuto := rfl
@[simp] theorem takeHead_cu_pendEject (e : Entry) (s : State) :
    (takeHead e s).cu.pendEject = s.cu.pendEject := rfl
@[simp] theorem takeHead_cu_pendWake (e : Entry) (s : State) :
    (takeHead e s).cu.pendWake = s.cu.pendWake := rfl
@[simp] theorem takeHead_cu_resets (e : Entry) (s : State) :
    (takeHead e s).cu.resets = s.cu.resets := rfl
@[simp] theorem takeHead_cu_attention (e : Entry) (s : State) :
    (takeHead e s).cu.attention = s.cu.attention := rfl
@[simp] theorem takeHead_cu_accepted (e : Entry) (s : State) :
    (takeHead e s).cu.accepted = s.cu.accepted := rfl
@[simp] theorem takeHead_cu_repliesSent (e : Entry) (s : State) :
    (takeHead e s).cu.repliesSent = s.cu.repliesSent := rfl
@[simp] theorem takeHead_cart (e : Entry) (s : State) : (takeHead e s).cart = s.cart := rfl
@[simp] theorem takeHead_spin (e : Entry) (s : State) : (takeHead e s).spin = s.spin := rfl
@[simp] theorem takeHead_clk (e : Entry) (s : State) : (takeHead e s).clk = s.clk := rfl
@[simp] theorem takeHead_pos (e : Entry) (s : State) : (takeHead e s).pos = s.pos := rfl
@[simp] theorem takeHead_record (e : Entry) (s : State) : (takeHead e s).record = s.record := rfl
@[simp] theorem takeHead_chan (e : Entry) (s : State) : (takeHead e s).chan = s.chan := rfl
@[simp] theorem takeHead_fmt (e : Entry) (s : State) : (takeHead e s).fmt = s.fmt := rfl
@[simp] theorem takeHead_fault (e : Entry) (s : State) : (takeHead e s).fault = s.fault := rfl
@[simp] theorem takeHead_rest (e : Entry) (s : State) : (takeHead e s).rest = s.rest := rfl
@[simp] theorem takeHead_set (e : Entry) (s : State) : (takeHead e s).set = s.set := rfl
@[simp] theorem takeHead_mail (e : Entry) (s : State) : (takeHead e s).mail = s.mail := rfl
@[simp] theorem takeHead_freeUsed (e : Entry) (s : State) :
    (takeHead e s).freeUsed = s.freeUsed := rfl
@[simp] theorem takeHead_pending (e : Entry) (s : State) : (takeHead e s).pending = s.pending := rfl

/-! ### `takeItem` -/

@[simp] theorem takeItem_pins (i : Item) (s : State) : (takeItem i s).pins = s.pins := rfl
@[simp] theorem takeItem_link (i : Item) (s : State) : (takeItem i s).link = s.link := rfl
@[simp] theorem takeItem_cu_queue (i : Item) (s : State) :
    (takeItem i s).cu.queue = s.cu.queue := rfl
@[simp] theorem takeItem_cu_slot (i : Item) (s : State) :
    (takeItem i s).cu.slot = { Slot.free with item := i } := rfl
@[simp] theorem takeItem_cu_pendAuto (i : Item) (s : State) :
    (takeItem i s).cu.pendAuto = s.cu.pendAuto := rfl
@[simp] theorem takeItem_cu_pendEject (i : Item) (s : State) :
    (takeItem i s).cu.pendEject = s.cu.pendEject := rfl
@[simp] theorem takeItem_cu_pendWake (i : Item) (s : State) :
    (takeItem i s).cu.pendWake = s.cu.pendWake := rfl
@[simp] theorem takeItem_cu_resets (i : Item) (s : State) :
    (takeItem i s).cu.resets = s.cu.resets := rfl
@[simp] theorem takeItem_cu_attention (i : Item) (s : State) :
    (takeItem i s).cu.attention = s.cu.attention := rfl
@[simp] theorem takeItem_cu_accepted (i : Item) (s : State) :
    (takeItem i s).cu.accepted = s.cu.accepted := rfl
@[simp] theorem takeItem_cu_repliesSent (i : Item) (s : State) :
    (takeItem i s).cu.repliesSent = s.cu.repliesSent := rfl
@[simp] theorem takeItem_cart (i : Item) (s : State) : (takeItem i s).cart = s.cart := rfl
@[simp] theorem takeItem_spin (i : Item) (s : State) : (takeItem i s).spin = s.spin := rfl
@[simp] theorem takeItem_clk (i : Item) (s : State) : (takeItem i s).clk = s.clk := rfl
@[simp] theorem takeItem_pos (i : Item) (s : State) : (takeItem i s).pos = s.pos := rfl
@[simp] theorem takeItem_record (i : Item) (s : State) : (takeItem i s).record = s.record := rfl
@[simp] theorem takeItem_chan (i : Item) (s : State) : (takeItem i s).chan = s.chan := rfl
@[simp] theorem takeItem_fmt (i : Item) (s : State) : (takeItem i s).fmt = s.fmt := rfl
@[simp] theorem takeItem_fault (i : Item) (s : State) : (takeItem i s).fault = s.fault := rfl
@[simp] theorem takeItem_rest (i : Item) (s : State) : (takeItem i s).rest = s.rest := rfl
@[simp] theorem takeItem_set (i : Item) (s : State) : (takeItem i s).set = s.set := rfl
@[simp] theorem takeItem_mail (i : Item) (s : State) : (takeItem i s).mail = s.mail := rfl
@[simp] theorem takeItem_freeUsed (i : Item) (s : State) :
    (takeItem i s).freeUsed = s.freeUsed := rfl
@[simp] theorem takeItem_pending (i : Item) (s : State) : (takeItem i s).pending = s.pending := rfl

/-! ### `setWork` -/

@[simp] theorem setWork_pins (w : Work) (s : State) : (setWork w s).pins = s.pins := rfl
@[simp] theorem setWork_link (w : Work) (s : State) : (setWork w s).link = s.link := rfl
@[simp] theorem setWork_cu_queue (w : Work) (s : State) : (setWork w s).cu.queue = s.cu.queue := rfl
@[simp] theorem setWork_cu_slot (w : Work) (s : State) :
    (setWork w s).cu.slot = { s.cu.slot with work := w } := rfl
@[simp] theorem setWork_cu_pendAuto (w : Work) (s : State) :
    (setWork w s).cu.pendAuto = s.cu.pendAuto := rfl
@[simp] theorem setWork_cu_pendEject (w : Work) (s : State) :
    (setWork w s).cu.pendEject = s.cu.pendEject := rfl
@[simp] theorem setWork_cu_pendWake (w : Work) (s : State) :
    (setWork w s).cu.pendWake = s.cu.pendWake := rfl
@[simp] theorem setWork_cu_resets (w : Work) (s : State) :
    (setWork w s).cu.resets = s.cu.resets := rfl
@[simp] theorem setWork_cu_attention (w : Work) (s : State) :
    (setWork w s).cu.attention = s.cu.attention := rfl
@[simp] theorem setWork_cu_accepted (w : Work) (s : State) :
    (setWork w s).cu.accepted = s.cu.accepted := rfl
@[simp] theorem setWork_cu_repliesSent (w : Work) (s : State) :
    (setWork w s).cu.repliesSent = s.cu.repliesSent := rfl
@[simp] theorem setWork_cart (w : Work) (s : State) : (setWork w s).cart = s.cart := rfl
@[simp] theorem setWork_spin (w : Work) (s : State) : (setWork w s).spin = s.spin := rfl
@[simp] theorem setWork_clk (w : Work) (s : State) : (setWork w s).clk = s.clk := rfl
@[simp] theorem setWork_pos (w : Work) (s : State) : (setWork w s).pos = s.pos := rfl
@[simp] theorem setWork_record (w : Work) (s : State) : (setWork w s).record = s.record := rfl
@[simp] theorem setWork_chan (w : Work) (s : State) : (setWork w s).chan = s.chan := rfl
@[simp] theorem setWork_fmt (w : Work) (s : State) : (setWork w s).fmt = s.fmt := rfl
@[simp] theorem setWork_fault (w : Work) (s : State) : (setWork w s).fault = s.fault := rfl
@[simp] theorem setWork_rest (w : Work) (s : State) : (setWork w s).rest = s.rest := rfl
@[simp] theorem setWork_set (w : Work) (s : State) : (setWork w s).set = s.set := rfl
@[simp] theorem setWork_mail (w : Work) (s : State) : (setWork w s).mail = s.mail := rfl
@[simp] theorem setWork_freeUsed (w : Work) (s : State) : (setWork w s).freeUsed = s.freeUsed := rfl
@[simp] theorem setWork_pending (w : Work) (s : State) : (setWork w s).pending = s.pending := rfl

/-! ### `freeSlot` -/

@[simp] theorem freeSlot_pins (s : State) : (freeSlot s).pins = s.pins := rfl
@[simp] theorem freeSlot_link (s : State) : (freeSlot s).link = s.link := rfl
@[simp] theorem freeSlot_cu_queue (s : State) : (freeSlot s).cu.queue = s.cu.queue := rfl
@[simp] theorem freeSlot_cu_slot (s : State) : (freeSlot s).cu.slot = Slot.free := rfl
@[simp] theorem freeSlot_cu_pendAuto (s : State) : (freeSlot s).cu.pendAuto = s.cu.pendAuto := rfl
@[simp] theorem freeSlot_cu_pendEject (s : State) :
    (freeSlot s).cu.pendEject = s.cu.pendEject := rfl
@[simp] theorem freeSlot_cu_pendWake (s : State) : (freeSlot s).cu.pendWake = s.cu.pendWake := rfl
@[simp] theorem freeSlot_cu_resets (s : State) : (freeSlot s).cu.resets = s.cu.resets := rfl
@[simp] theorem freeSlot_cu_attention (s : State) :
    (freeSlot s).cu.attention = s.cu.attention := rfl
@[simp] theorem freeSlot_cu_accepted (s : State) : (freeSlot s).cu.accepted = s.cu.accepted := rfl
@[simp] theorem freeSlot_cu_repliesSent (s : State) :
    (freeSlot s).cu.repliesSent = s.cu.repliesSent := rfl
@[simp] theorem freeSlot_cart (s : State) : (freeSlot s).cart = s.cart := rfl
@[simp] theorem freeSlot_spin (s : State) : (freeSlot s).spin = s.spin := rfl
@[simp] theorem freeSlot_clk (s : State) : (freeSlot s).clk = s.clk := rfl
@[simp] theorem freeSlot_pos (s : State) : (freeSlot s).pos = s.pos := rfl
@[simp] theorem freeSlot_record (s : State) : (freeSlot s).record = s.record := rfl
@[simp] theorem freeSlot_chan (s : State) : (freeSlot s).chan = s.chan := rfl
@[simp] theorem freeSlot_fmt (s : State) : (freeSlot s).fmt = s.fmt := rfl
@[simp] theorem freeSlot_fault (s : State) : (freeSlot s).fault = s.fault := rfl
@[simp] theorem freeSlot_rest (s : State) : (freeSlot s).rest = s.rest := rfl
@[simp] theorem freeSlot_set (s : State) : (freeSlot s).set = s.set := rfl
@[simp] theorem freeSlot_mail (s : State) : (freeSlot s).mail = s.mail := rfl
@[simp] theorem freeSlot_freeUsed (s : State) : (freeSlot s).freeUsed = s.freeUsed := rfl
@[simp] theorem freeSlot_pending (s : State) : (freeSlot s).pending = s.pending := rfl

/-! ### `beginRead` -/

@[simp] theorem beginRead_pins (p : Place) (s : State) : (beginRead p s).pins = s.pins := rfl
@[simp] theorem beginRead_link (p : Place) (s : State) : (beginRead p s).link = s.link := rfl
@[simp] theorem beginRead_cu (p : Place) (s : State) : (beginRead p s).cu = s.cu := rfl
@[simp] theorem beginRead_cart (p : Place) (s : State) : (beginRead p s).cart = s.cart := rfl
@[simp] theorem beginRead_spin (p : Place) (s : State) : (beginRead p s).spin = s.spin := rfl
@[simp] theorem beginRead_clk (p : Place) (s : State) : (beginRead p s).clk = s.clk := rfl
@[simp] theorem beginRead_pos (p : Place) (s : State) : (beginRead p s).pos = s.pos := rfl
@[simp] theorem beginRead_record (p : Place) (s : State) : (beginRead p s).record = s.record := rfl
@[simp] theorem beginRead_chan_transfer (p : Place) (s : State) :
    (beginRead p s).chan.transfer = s.chan.transfer := rfl
@[simp] theorem beginRead_chan_slot0 (p : Place) (s : State) :
    (beginRead p s).chan.slot0 = s.chan.slot0 := rfl
@[simp] theorem beginRead_chan_slot1 (p : Place) (s : State) :
    (beginRead p s).chan.slot1 = s.chan.slot1 := rfl
@[simp] theorem beginRead_chan_outstanding (p : Place) (s : State) :
    (beginRead p s).chan.outstanding = s.chan.outstanding := rfl
@[simp] theorem beginRead_chan_wgate (p : Place) (s : State) :
    (beginRead p s).chan.wgate = s.chan.wgate := rfl
@[simp] theorem beginRead_chan_writeCurrent (p : Place) (s : State) :
    (beginRead p s).chan.writeCurrent = s.chan.writeCurrent := rfl
@[simp] theorem beginRead_chan_op (p : Place) (s : State) :
    (beginRead p s).chan.op = some (.read p) := rfl
@[simp] theorem beginRead_chan_readyTimer (p : Place) (s : State) :
    (beginRead p s).chan.readyTimer = s.chan.readyTimer := rfl
@[simp] theorem beginRead_chan_gateWait (p : Place) (s : State) :
    (beginRead p s).chan.gateWait = s.chan.gateWait := rfl
@[simp] theorem beginRead_chan_rotation (p : Place) (s : State) :
    (beginRead p s).chan.rotation = s.chan.rotation := rfl
@[simp] theorem beginRead_chan_reassign (p : Place) (s : State) :
    (beginRead p s).chan.reassign = s.chan.reassign := rfl
@[simp] theorem beginRead_chan_lastHead (p : Place) (s : State) :
    (beginRead p s).chan.lastHead = p.head := rfl
@[simp] theorem beginRead_fmt (p : Place) (s : State) : (beginRead p s).fmt = s.fmt := rfl
@[simp] theorem beginRead_fault (p : Place) (s : State) : (beginRead p s).fault = s.fault := rfl
@[simp] theorem beginRead_rest (p : Place) (s : State) : (beginRead p s).rest = s.rest := rfl
@[simp] theorem beginRead_set (p : Place) (s : State) : (beginRead p s).set = s.set := rfl
@[simp] theorem beginRead_mail (p : Place) (s : State) : (beginRead p s).mail = s.mail := rfl
@[simp] theorem beginRead_freeUsed (p : Place) (s : State) :
    (beginRead p s).freeUsed = s.freeUsed := rfl
@[simp] theorem beginRead_pending (p : Place) (s : State) :
    (beginRead p s).pending = s.pending := rfl

/-! ### `beginWrite` -/

@[simp] theorem beginWrite_pins (p : Place) (d : List Byte) (s : State) :
    (beginWrite p d s).pins = s.pins := rfl
@[simp] theorem beginWrite_link (p : Place) (d : List Byte) (s : State) :
    (beginWrite p d s).link = s.link := rfl
@[simp] theorem beginWrite_cu (p : Place) (d : List Byte) (s : State) :
    (beginWrite p d s).cu = s.cu := rfl
@[simp] theorem beginWrite_cart (p : Place) (d : List Byte) (s : State) :
    (beginWrite p d s).cart = s.cart := rfl
@[simp] theorem beginWrite_spin (p : Place) (d : List Byte) (s : State) :
    (beginWrite p d s).spin = s.spin := rfl
@[simp] theorem beginWrite_clk (p : Place) (d : List Byte) (s : State) :
    (beginWrite p d s).clk = s.clk := rfl
@[simp] theorem beginWrite_pos (p : Place) (d : List Byte) (s : State) :
    (beginWrite p d s).pos = s.pos := rfl
@[simp] theorem beginWrite_record (p : Place) (d : List Byte) (s : State) :
    (beginWrite p d s).record = s.record := rfl
@[simp] theorem beginWrite_chan_transfer (p : Place) (d : List Byte) (s : State) :
    (beginWrite p d s).chan.transfer = s.chan.transfer := rfl
@[simp] theorem beginWrite_chan_slot0 (p : Place) (d : List Byte) (s : State) :
    (beginWrite p d s).chan.slot0 = s.chan.slot0 := rfl
@[simp] theorem beginWrite_chan_slot1 (p : Place) (d : List Byte) (s : State) :
    (beginWrite p d s).chan.slot1 = s.chan.slot1 := rfl
@[simp] theorem beginWrite_chan_outstanding (p : Place) (d : List Byte) (s : State) :
    (beginWrite p d s).chan.outstanding = s.chan.outstanding := rfl
@[simp] theorem beginWrite_chan_wgate (p : Place) (d : List Byte) (s : State) :
    (beginWrite p d s).chan.wgate = true := rfl
@[simp] theorem beginWrite_chan_writeCurrent (p : Place) (d : List Byte) (s : State) :
    (beginWrite p d s).chan.writeCurrent = s.set.trims.wc := rfl
@[simp] theorem beginWrite_chan_op (p : Place) (d : List Byte) (s : State) :
    (beginWrite p d s).chan.op = some (.write p d) := rfl
@[simp] theorem beginWrite_chan_readyTimer (p : Place) (d : List Byte) (s : State) :
    (beginWrite p d s).chan.readyTimer = s.chan.readyTimer := rfl
@[simp] theorem beginWrite_chan_gateWait (p : Place) (d : List Byte) (s : State) :
    (beginWrite p d s).chan.gateWait = s.chan.gateWait := rfl
@[simp] theorem beginWrite_chan_rotation (p : Place) (d : List Byte) (s : State) :
    (beginWrite p d s).chan.rotation = s.chan.rotation := rfl
@[simp] theorem beginWrite_chan_reassign (p : Place) (d : List Byte) (s : State) :
    (beginWrite p d s).chan.reassign = s.chan.reassign := rfl
@[simp] theorem beginWrite_chan_lastHead (p : Place) (d : List Byte) (s : State) :
    (beginWrite p d s).chan.lastHead = p.head := rfl
@[simp] theorem beginWrite_fmt (p : Place) (d : List Byte) (s : State) :
    (beginWrite p d s).fmt = s.fmt := rfl
@[simp] theorem beginWrite_fault (p : Place) (d : List Byte) (s : State) :
    (beginWrite p d s).fault = s.fault := rfl
@[simp] theorem beginWrite_rest (p : Place) (d : List Byte) (s : State) :
    (beginWrite p d s).rest = s.rest := rfl
@[simp] theorem beginWrite_set (p : Place) (d : List Byte) (s : State) :
    (beginWrite p d s).set = s.set := rfl
@[simp] theorem beginWrite_mail (p : Place) (d : List Byte) (s : State) :
    (beginWrite p d s).mail = s.mail := rfl
@[simp] theorem beginWrite_freeUsed (p : Place) (d : List Byte) (s : State) :
    (beginWrite p d s).freeUsed = s.freeUsed := rfl
@[simp] theorem beginWrite_pending (p : Place) (d : List Byte) (s : State) :
    (beginWrite p d s).pending = s.pending := rfl

/-! ### `closeOp` -/

@[simp] theorem closeOp_pins (s : State) : (closeOp s).pins = s.pins := rfl
@[simp] theorem closeOp_link (s : State) : (closeOp s).link = s.link := rfl
@[simp] theorem closeOp_cu (s : State) : (closeOp s).cu = s.cu := rfl
@[simp] theorem closeOp_cart (s : State) : (closeOp s).cart = s.cart := rfl
@[simp] theorem closeOp_spin (s : State) : (closeOp s).spin = s.spin := rfl
@[simp] theorem closeOp_clk (s : State) : (closeOp s).clk = s.clk := rfl
@[simp] theorem closeOp_pos (s : State) : (closeOp s).pos = s.pos := rfl
@[simp] theorem closeOp_record (s : State) : (closeOp s).record = s.record := rfl
@[simp] theorem closeOp_chan_transfer (s : State) :
    (closeOp s).chan.transfer = s.chan.transfer := rfl
@[simp] theorem closeOp_chan_slot0 (s : State) : (closeOp s).chan.slot0 = s.chan.slot0 := rfl
@[simp] theorem closeOp_chan_slot1 (s : State) : (closeOp s).chan.slot1 = s.chan.slot1 := rfl
@[simp] theorem closeOp_chan_outstanding (s : State) :
    (closeOp s).chan.outstanding = s.chan.outstanding := rfl
@[simp] theorem closeOp_chan_wgate (s : State) : (closeOp s).chan.wgate = false := rfl
@[simp] theorem closeOp_chan_writeCurrent (s : State) : (closeOp s).chan.writeCurrent = 0 := rfl
@[simp] theorem closeOp_chan_op (s : State) : (closeOp s).chan.op = none := rfl
@[simp] theorem closeOp_chan_readyTimer (s : State) :
    (closeOp s).chan.readyTimer = s.chan.readyTimer := rfl
@[simp] theorem closeOp_chan_gateWait (s : State) :
    (closeOp s).chan.gateWait = s.chan.gateWait := rfl
@[simp] theorem closeOp_chan_rotation (s : State) :
    (closeOp s).chan.rotation = s.chan.rotation := rfl
@[simp] theorem closeOp_chan_reassign (s : State) :
    (closeOp s).chan.reassign = s.chan.reassign := rfl
@[simp] theorem closeOp_chan_lastHead (s : State) :
    (closeOp s).chan.lastHead = s.chan.lastHead := rfl
@[simp] theorem closeOp_fmt (s : State) : (closeOp s).fmt = s.fmt := rfl
@[simp] theorem closeOp_fault (s : State) : (closeOp s).fault = s.fault := rfl
@[simp] theorem closeOp_rest (s : State) : (closeOp s).rest = s.rest := rfl
@[simp] theorem closeOp_set (s : State) : (closeOp s).set = s.set := rfl
@[simp] theorem closeOp_mail (s : State) : (closeOp s).mail = s.mail := rfl
@[simp] theorem closeOp_freeUsed (s : State) : (closeOp s).freeUsed = s.freeUsed := rfl
@[simp] theorem closeOp_pending (s : State) : (closeOp s).pending = s.pending := rfl

/-! ### `setTransfer` -/

@[simp] theorem setTransfer_pins (t : Transfer) (s : State) : (setTransfer t s).pins = s.pins := rfl
@[simp] theorem setTransfer_link (t : Transfer) (s : State) : (setTransfer t s).link = s.link := rfl
@[simp] theorem setTransfer_cu (t : Transfer) (s : State) : (setTransfer t s).cu = s.cu := rfl
@[simp] theorem setTransfer_cart (t : Transfer) (s : State) : (setTransfer t s).cart = s.cart := rfl
@[simp] theorem setTransfer_spin (t : Transfer) (s : State) : (setTransfer t s).spin = s.spin := rfl
@[simp] theorem setTransfer_clk (t : Transfer) (s : State) : (setTransfer t s).clk = s.clk := rfl
@[simp] theorem setTransfer_pos (t : Transfer) (s : State) : (setTransfer t s).pos = s.pos := rfl
@[simp] theorem setTransfer_record (t : Transfer) (s : State) :
    (setTransfer t s).record = s.record := rfl
@[simp] theorem setTransfer_chan_transfer (t : Transfer) (s : State) :
    (setTransfer t s).chan.transfer = some t := rfl
@[simp] theorem setTransfer_chan_slot0 (t : Transfer) (s : State) :
    (setTransfer t s).chan.slot0 = s.chan.slot0 := rfl
@[simp] theorem setTransfer_chan_slot1 (t : Transfer) (s : State) :
    (setTransfer t s).chan.slot1 = s.chan.slot1 := rfl
@[simp] theorem setTransfer_chan_outstanding (t : Transfer) (s : State) :
    (setTransfer t s).chan.outstanding = s.chan.outstanding := rfl
@[simp] theorem setTransfer_chan_wgate (t : Transfer) (s : State) :
    (setTransfer t s).chan.wgate = s.chan.wgate := rfl
@[simp] theorem setTransfer_chan_writeCurrent (t : Transfer) (s : State) :
    (setTransfer t s).chan.writeCurrent = s.chan.writeCurrent := rfl
@[simp] theorem setTransfer_chan_op (t : Transfer) (s : State) :
    (setTransfer t s).chan.op = s.chan.op := rfl
@[simp] theorem setTransfer_chan_readyTimer (t : Transfer) (s : State) :
    (setTransfer t s).chan.readyTimer = s.chan.readyTimer := rfl
@[simp] theorem setTransfer_chan_gateWait (t : Transfer) (s : State) :
    (setTransfer t s).chan.gateWait = s.chan.gateWait := rfl
@[simp] theorem setTransfer_chan_rotation (t : Transfer) (s : State) :
    (setTransfer t s).chan.rotation = s.chan.rotation := rfl
@[simp] theorem setTransfer_chan_reassign (t : Transfer) (s : State) :
    (setTransfer t s).chan.reassign = s.chan.reassign := rfl
@[simp] theorem setTransfer_chan_lastHead (t : Transfer) (s : State) :
    (setTransfer t s).chan.lastHead = s.chan.lastHead := rfl
@[simp] theorem setTransfer_fmt (t : Transfer) (s : State) : (setTransfer t s).fmt = s.fmt := rfl
@[simp] theorem setTransfer_fault (t : Transfer) (s : State) :
    (setTransfer t s).fault = s.fault := rfl
@[simp] theorem setTransfer_rest (t : Transfer) (s : State) : (setTransfer t s).rest = s.rest := rfl
@[simp] theorem setTransfer_set (t : Transfer) (s : State) : (setTransfer t s).set = s.set := rfl
@[simp] theorem setTransfer_mail (t : Transfer) (s : State) : (setTransfer t s).mail = s.mail := rfl
@[simp] theorem setTransfer_freeUsed (t : Transfer) (s : State) :
    (setTransfer t s).freeUsed = s.freeUsed := rfl
@[simp] theorem setTransfer_pending (t : Transfer) (s : State) :
    (setTransfer t s).pending = s.pending := rfl

/-! ### `setReassign` -/

@[simp] theorem setReassign_pins (r : Reassign) (s : State) : (setReassign r s).pins = s.pins := rfl
@[simp] theorem setReassign_link (r : Reassign) (s : State) : (setReassign r s).link = s.link := rfl
@[simp] theorem setReassign_cu (r : Reassign) (s : State) : (setReassign r s).cu = s.cu := rfl
@[simp] theorem setReassign_cart (r : Reassign) (s : State) : (setReassign r s).cart = s.cart := rfl
@[simp] theorem setReassign_spin (r : Reassign) (s : State) : (setReassign r s).spin = s.spin := rfl
@[simp] theorem setReassign_clk (r : Reassign) (s : State) : (setReassign r s).clk = s.clk := rfl
@[simp] theorem setReassign_pos (r : Reassign) (s : State) : (setReassign r s).pos = s.pos := rfl
@[simp] theorem setReassign_record (r : Reassign) (s : State) :
    (setReassign r s).record = s.record := rfl
@[simp] theorem setReassign_chan_transfer (r : Reassign) (s : State) :
    (setReassign r s).chan.transfer = s.chan.transfer := rfl
@[simp] theorem setReassign_chan_slot0 (r : Reassign) (s : State) :
    (setReassign r s).chan.slot0 = s.chan.slot0 := rfl
@[simp] theorem setReassign_chan_slot1 (r : Reassign) (s : State) :
    (setReassign r s).chan.slot1 = s.chan.slot1 := rfl
@[simp] theorem setReassign_chan_outstanding (r : Reassign) (s : State) :
    (setReassign r s).chan.outstanding = s.chan.outstanding := rfl
@[simp] theorem setReassign_chan_wgate (r : Reassign) (s : State) :
    (setReassign r s).chan.wgate = s.chan.wgate := rfl
@[simp] theorem setReassign_chan_writeCurrent (r : Reassign) (s : State) :
    (setReassign r s).chan.writeCurrent = s.chan.writeCurrent := rfl
@[simp] theorem setReassign_chan_op (r : Reassign) (s : State) :
    (setReassign r s).chan.op = s.chan.op := rfl
@[simp] theorem setReassign_chan_readyTimer (r : Reassign) (s : State) :
    (setReassign r s).chan.readyTimer = s.chan.readyTimer := rfl
@[simp] theorem setReassign_chan_gateWait (r : Reassign) (s : State) :
    (setReassign r s).chan.gateWait = s.chan.gateWait := rfl
@[simp] theorem setReassign_chan_rotation (r : Reassign) (s : State) :
    (setReassign r s).chan.rotation = s.chan.rotation := rfl
@[simp] theorem setReassign_chan_reassign (r : Reassign) (s : State) :
    (setReassign r s).chan.reassign = some r := rfl
@[simp] theorem setReassign_chan_lastHead (r : Reassign) (s : State) :
    (setReassign r s).chan.lastHead = s.chan.lastHead := rfl
@[simp] theorem setReassign_fmt (r : Reassign) (s : State) : (setReassign r s).fmt = s.fmt := rfl
@[simp] theorem setReassign_fault (r : Reassign) (s : State) :
    (setReassign r s).fault = s.fault := rfl
@[simp] theorem setReassign_rest (r : Reassign) (s : State) : (setReassign r s).rest = s.rest := rfl
@[simp] theorem setReassign_set (r : Reassign) (s : State) : (setReassign r s).set = s.set := rfl
@[simp] theorem setReassign_mail (r : Reassign) (s : State) : (setReassign r s).mail = s.mail := rfl
@[simp] theorem setReassign_freeUsed (r : Reassign) (s : State) :
    (setReassign r s).freeUsed = s.freeUsed := rfl
@[simp] theorem setReassign_pending (r : Reassign) (s : State) :
    (setReassign r s).pending = s.pending := rfl

/-! ### `stopGateWait` -/

@[simp] theorem stopGateWait_pins (s : State) : (stopGateWait s).pins = s.pins := rfl
@[simp] theorem stopGateWait_link (s : State) : (stopGateWait s).link = s.link := rfl
@[simp] theorem stopGateWait_cu (s : State) : (stopGateWait s).cu = s.cu := rfl
@[simp] theorem stopGateWait_cart (s : State) : (stopGateWait s).cart = s.cart := rfl
@[simp] theorem stopGateWait_spin (s : State) : (stopGateWait s).spin = s.spin := rfl
@[simp] theorem stopGateWait_clk (s : State) : (stopGateWait s).clk = s.clk := rfl
@[simp] theorem stopGateWait_pos (s : State) : (stopGateWait s).pos = s.pos := rfl
@[simp] theorem stopGateWait_record (s : State) : (stopGateWait s).record = s.record := rfl
@[simp] theorem stopGateWait_chan_transfer (s : State) :
    (stopGateWait s).chan.transfer = s.chan.transfer := rfl
@[simp] theorem stopGateWait_chan_slot0 (s : State) :
    (stopGateWait s).chan.slot0 = s.chan.slot0 := rfl
@[simp] theorem stopGateWait_chan_slot1 (s : State) :
    (stopGateWait s).chan.slot1 = s.chan.slot1 := rfl
@[simp] theorem stopGateWait_chan_outstanding (s : State) :
    (stopGateWait s).chan.outstanding = s.chan.outstanding := rfl
@[simp] theorem stopGateWait_chan_wgate (s : State) :
    (stopGateWait s).chan.wgate = s.chan.wgate := rfl
@[simp] theorem stopGateWait_chan_writeCurrent (s : State) :
    (stopGateWait s).chan.writeCurrent = s.chan.writeCurrent := rfl
@[simp] theorem stopGateWait_chan_op (s : State) : (stopGateWait s).chan.op = s.chan.op := rfl
@[simp] theorem stopGateWait_chan_readyTimer (s : State) :
    (stopGateWait s).chan.readyTimer = s.chan.readyTimer := rfl
@[simp] theorem stopGateWait_chan_gateWait (s : State) :
    (stopGateWait s).chan.gateWait = none := rfl
@[simp] theorem stopGateWait_chan_rotation (s : State) :
    (stopGateWait s).chan.rotation = s.chan.rotation := rfl
@[simp] theorem stopGateWait_chan_reassign (s : State) :
    (stopGateWait s).chan.reassign = s.chan.reassign := rfl
@[simp] theorem stopGateWait_chan_lastHead (s : State) :
    (stopGateWait s).chan.lastHead = s.chan.lastHead := rfl
@[simp] theorem stopGateWait_fmt (s : State) : (stopGateWait s).fmt = s.fmt := rfl
@[simp] theorem stopGateWait_fault (s : State) : (stopGateWait s).fault = s.fault := rfl
@[simp] theorem stopGateWait_rest (s : State) : (stopGateWait s).rest = s.rest := rfl
@[simp] theorem stopGateWait_set (s : State) : (stopGateWait s).set = s.set := rfl
@[simp] theorem stopGateWait_mail (s : State) : (stopGateWait s).mail = s.mail := rfl
@[simp] theorem stopGateWait_freeUsed (s : State) : (stopGateWait s).freeUsed = s.freeUsed := rfl
@[simp] theorem stopGateWait_pending (s : State) : (stopGateWait s).pending = s.pending := rfl

/-! ### `setFormat` -/

@[simp] theorem setFormat_pins (f : Format) (s : State) : (setFormat f s).pins = s.pins := rfl
@[simp] theorem setFormat_link (f : Format) (s : State) : (setFormat f s).link = s.link := rfl
@[simp] theorem setFormat_cu (f : Format) (s : State) : (setFormat f s).cu = s.cu := rfl
@[simp] theorem setFormat_cart (f : Format) (s : State) : (setFormat f s).cart = s.cart := rfl
@[simp] theorem setFormat_spin (f : Format) (s : State) : (setFormat f s).spin = s.spin := rfl
@[simp] theorem setFormat_clk (f : Format) (s : State) : (setFormat f s).clk = s.clk := rfl
@[simp] theorem setFormat_pos (f : Format) (s : State) : (setFormat f s).pos = s.pos := rfl
@[simp] theorem setFormat_record (f : Format) (s : State) : (setFormat f s).record = s.record := rfl
@[simp] theorem setFormat_chan (f : Format) (s : State) : (setFormat f s).chan = s.chan := rfl
@[simp] theorem setFormat_fmt (f : Format) (s : State) : (setFormat f s).fmt = some f := rfl
@[simp] theorem setFormat_fault (f : Format) (s : State) : (setFormat f s).fault = s.fault := rfl
@[simp] theorem setFormat_rest (f : Format) (s : State) : (setFormat f s).rest = s.rest := rfl
@[simp] theorem setFormat_set (f : Format) (s : State) : (setFormat f s).set = s.set := rfl
@[simp] theorem setFormat_mail (f : Format) (s : State) : (setFormat f s).mail = s.mail := rfl
@[simp] theorem setFormat_freeUsed (f : Format) (s : State) :
    (setFormat f s).freeUsed = s.freeUsed := rfl
@[simp] theorem setFormat_pending (f : Format) (s : State) :
    (setFormat f s).pending = s.pending := rfl

/-! ### `clockFallback` -/

@[simp] theorem clockFallback_pins (s : State) : (clockFallback s).pins = s.pins := rfl
@[simp] theorem clockFallback_link (s : State) : (clockFallback s).link = s.link := rfl
@[simp] theorem clockFallback_cu (s : State) : (clockFallback s).cu = s.cu := rfl
@[simp] theorem clockFallback_cart (s : State) : (clockFallback s).cart = s.cart := rfl
@[simp] theorem clockFallback_spin (s : State) : (clockFallback s).spin = s.spin := rfl
@[simp] theorem clockFallback_clk (s : State) :
    (clockFallback s).clk = { locked := false, good := 0, miss := none } := rfl
@[simp] theorem clockFallback_pos (s : State) : (clockFallback s).pos = s.pos := rfl
@[simp] theorem clockFallback_record (s : State) : (clockFallback s).record = s.record := rfl
@[simp] theorem clockFallback_chan (s : State) : (clockFallback s).chan = s.chan := rfl
@[simp] theorem clockFallback_fmt (s : State) : (clockFallback s).fmt = s.fmt := rfl
@[simp] theorem clockFallback_fault (s : State) : (clockFallback s).fault = s.fault := rfl
@[simp] theorem clockFallback_rest (s : State) : (clockFallback s).rest = s.rest := rfl
@[simp] theorem clockFallback_set (s : State) : (clockFallback s).set = s.set := rfl
@[simp] theorem clockFallback_mail (s : State) : (clockFallback s).mail = s.mail := rfl
@[simp] theorem clockFallback_freeUsed (s : State) : (clockFallback s).freeUsed = s.freeUsed := rfl
@[simp] theorem clockFallback_pending (s : State) : (clockFallback s).pending = s.pending := rfl

/-! ### `resetReport` -/

@[simp] theorem resetReport_pins (s : State) : (resetReport s).pins = s.pins := rfl
@[simp] theorem resetReport_link (s : State) : (resetReport s).link = s.link := rfl
@[simp] theorem resetReport_cu (s : State) : (resetReport s).cu = s.cu := rfl
@[simp] theorem resetReport_cart (s : State) : (resetReport s).cart = s.cart := rfl
@[simp] theorem resetReport_spin (s : State) : (resetReport s).spin = s.spin := rfl
@[simp] theorem resetReport_clk (s : State) : (resetReport s).clk = s.clk := rfl
@[simp] theorem resetReport_pos (s : State) : (resetReport s).pos = s.pos := rfl
@[simp] theorem resetReport_record_session (s : State) :
    (resetReport s).record.session = s.record.session := rfl
@[simp] theorem resetReport_record_copyStatus (s : State) :
    (resetReport s).record.copyStatus = s.record.copyStatus := rfl
@[simp] theorem resetReport_record_unsaved (s : State) :
    (resetReport s).record.unsaved = s.record.unsaved := rfl
@[simp] theorem resetReport_record_report (s : State) :
    (resetReport s).record.report = LoadReport.none := rfl
@[simp] theorem resetReport_record_image (s : State) :
    (resetReport s).record.image = s.record.image := rfl
@[simp] theorem resetReport_record_load (s : State) :
    (resetReport s).record.load = s.record.load := rfl
@[simp] theorem resetReport_record_copyWrite (s : State) :
    (resetReport s).record.copyWrite = s.record.copyWrite := rfl
@[simp] theorem resetReport_chan (s : State) : (resetReport s).chan = s.chan := rfl
@[simp] theorem resetReport_fmt (s : State) : (resetReport s).fmt = s.fmt := rfl
@[simp] theorem resetReport_fault (s : State) : (resetReport s).fault = s.fault := rfl
@[simp] theorem resetReport_rest (s : State) : (resetReport s).rest = s.rest := rfl
@[simp] theorem resetReport_set (s : State) : (resetReport s).set = s.set := rfl
@[simp] theorem resetReport_mail (s : State) : (resetReport s).mail = s.mail := rfl
@[simp] theorem resetReport_freeUsed (s : State) : (resetReport s).freeUsed = s.freeUsed := rfl
@[simp] theorem resetReport_pending (s : State) : (resetReport s).pending = s.pending := rfl

/-! ### `setCart` -/

@[simp] theorem setCart_pins (c : CartState) (s : State) : (setCart c s).pins = s.pins := rfl
@[simp] theorem setCart_link (c : CartState) (s : State) : (setCart c s).link = s.link := rfl
@[simp] theorem setCart_cu_queue (c : CartState) (s : State) :
    (setCart c s).cu.queue = s.cu.queue := rfl
@[simp] theorem setCart_cu_slot (c : CartState) (s : State) :
    (setCart c s).cu.slot = s.cu.slot := rfl
@[simp] theorem setCart_cu_pendAuto (c : CartState) (s : State) :
    (setCart c s).cu.pendAuto = if c = .present then s.cu.pendAuto else false := rfl
@[simp] theorem setCart_cu_pendEject (c : CartState) (s : State) :
    (setCart c s).cu.pendEject = s.cu.pendEject := rfl
@[simp] theorem setCart_cu_pendWake (c : CartState) (s : State) :
    (setCart c s).cu.pendWake = s.cu.pendWake := rfl
@[simp] theorem setCart_cu_resets (c : CartState) (s : State) :
    (setCart c s).cu.resets = s.cu.resets := rfl
@[simp] theorem setCart_cu_attention (c : CartState) (s : State) :
    (setCart c s).cu.attention = s.cu.attention := rfl
@[simp] theorem setCart_cu_accepted (c : CartState) (s : State) :
    (setCart c s).cu.accepted = s.cu.accepted := rfl
@[simp] theorem setCart_cu_repliesSent (c : CartState) (s : State) :
    (setCart c s).cu.repliesSent = s.cu.repliesSent := rfl
@[simp] theorem setCart_cart_state (c : CartState) (s : State) : (setCart c s).cart.state = c := rfl
@[simp] theorem setCart_cart_type (c : CartState) (s : State) :
    (setCart c s).cart.type = s.cart.type := rfl
@[simp] theorem setCart_cart_wp (c : CartState) (s : State) :
    (setCart c s).cart.wp = s.cart.wp := rfl
@[simp] theorem setCart_cart_hold (c : CartState) (s : State) :
    (setCart c s).cart.hold = s.cart.hold := rfl
@[simp] theorem setCart_cart_latch (c : CartState) (s : State) :
    (setCart c s).cart.latch = s.cart.latch := rfl
@[simp] theorem setCart_cart_origin (c : CartState) (s : State) :
    (setCart c s).cart.origin = s.cart.origin := rfl
@[simp] theorem setCart_cart_eject (c : CartState) (s : State) :
    (setCart c s).cart.eject = s.cart.eject := rfl
@[simp] theorem setCart_spin (c : CartState) (s : State) : (setCart c s).spin = s.spin := rfl
@[simp] theorem setCart_clk (c : CartState) (s : State) : (setCart c s).clk = s.clk := rfl
@[simp] theorem setCart_pos (c : CartState) (s : State) : (setCart c s).pos = s.pos := rfl
@[simp] theorem setCart_record (c : CartState) (s : State) : (setCart c s).record = s.record := rfl
@[simp] theorem setCart_chan (c : CartState) (s : State) : (setCart c s).chan = s.chan := rfl
@[simp] theorem setCart_fmt (c : CartState) (s : State) : (setCart c s).fmt = s.fmt := rfl
@[simp] theorem setCart_fault (c : CartState) (s : State) : (setCart c s).fault = s.fault := rfl
@[simp] theorem setCart_rest (c : CartState) (s : State) : (setCart c s).rest = s.rest := rfl
@[simp] theorem setCart_set (c : CartState) (s : State) : (setCart c s).set = s.set := rfl
@[simp] theorem setCart_mail (c : CartState) (s : State) : (setCart c s).mail = s.mail := rfl
@[simp] theorem setCart_freeUsed (c : CartState) (s : State) :
    (setCart c s).freeUsed = s.freeUsed := rfl
@[simp] theorem setCart_pending (c : CartState) (s : State) :
    (setCart c s).pending = s.pending := rfl

/-! ### `endRest` -/

@[simp] theorem endRest_pins (s : State) : (endRest s).pins = s.pins := rfl
@[simp] theorem endRest_link (s : State) : (endRest s).link = s.link := rfl
@[simp] theorem endRest_cu_queue (s : State) : (endRest s).cu.queue = s.cu.queue := rfl
@[simp] theorem endRest_cu_slot (s : State) : (endRest s).cu.slot = s.cu.slot := rfl
@[simp] theorem endRest_cu_pendAuto (s : State) : (endRest s).cu.pendAuto = s.cu.pendAuto := rfl
@[simp] theorem endRest_cu_pendEject (s : State) : (endRest s).cu.pendEject = s.cu.pendEject := rfl
@[simp] theorem endRest_cu_pendWake (s : State) : (endRest s).cu.pendWake = false := rfl
@[simp] theorem endRest_cu_resets (s : State) : (endRest s).cu.resets = s.cu.resets := rfl
@[simp] theorem endRest_cu_attention (s : State) : (endRest s).cu.attention = s.cu.attention := rfl
@[simp] theorem endRest_cu_accepted (s : State) : (endRest s).cu.accepted = s.cu.accepted := rfl
@[simp] theorem endRest_cu_repliesSent (s : State) :
    (endRest s).cu.repliesSent = s.cu.repliesSent := rfl
@[simp] theorem endRest_cart (s : State) : (endRest s).cart = s.cart := rfl
@[simp] theorem endRest_spin (s : State) : (endRest s).spin = s.spin := rfl
@[simp] theorem endRest_clk (s : State) : (endRest s).clk = s.clk := rfl
@[simp] theorem endRest_pos (s : State) : (endRest s).pos = s.pos := rfl
@[simp] theorem endRest_record (s : State) : (endRest s).record = s.record := rfl
@[simp] theorem endRest_chan (s : State) : (endRest s).chan = s.chan := rfl
@[simp] theorem endRest_fmt (s : State) : (endRest s).fmt = s.fmt := rfl
@[simp] theorem endRest_fault (s : State) : (endRest s).fault = s.fault := rfl
@[simp] theorem endRest_rest_state (s : State) : (endRest s).rest.state = RestState.none := rfl
@[simp] theorem endRest_rest_wakeActive (s : State) :
    (endRest s).rest.wakeActive = s.rest.wakeActive := rfl
@[simp] theorem endRest_rest_timer (s : State) : (endRest s).rest.timer = none := rfl
@[simp] theorem endRest_set (s : State) : (endRest s).set = s.set := rfl
@[simp] theorem endRest_mail (s : State) : (endRest s).mail = s.mail := rfl
@[simp] theorem endRest_freeUsed (s : State) : (endRest s).freeUsed = s.freeUsed := rfl
@[simp] theorem endRest_pending (s : State) : (endRest s).pending = s.pending := rfl

/-! ### `putReply` -/

@[simp] theorem putReply_pins (r : Reply) (s : State) : (putReply r s).pins = s.pins := rfl
@[simp] theorem putReply_link_assembly (r : Reply) (s : State) :
    (putReply r s).link.assembly = s.link.assembly := rfl
@[simp] theorem putReply_link_gap (r : Reply) (s : State) :
    (putReply r s).link.gap = s.link.gap := rfl
@[simp] theorem putReply_link_quiet (r : Reply) (s : State) :
    (putReply r s).link.quiet = s.link.quiet := rfl
@[simp] theorem putReply_link_outbox (r : Reply) (s : State) :
    (putReply r s).link.outbox = s.link.outbox ++ [r] := rfl
@[simp] theorem putReply_link_heldFrame (r : Reply) (s : State) :
    (putReply r s).link.heldFrame = s.link.heldFrame := rfl
@[simp] theorem putReply_link_kindWaiting (r : Reply) (s : State) :
    (putReply r s).link.kindWaiting = s.link.kindWaiting := rfl
@[simp] theorem putReply_link_line (r : Reply) (s : State) :
    (putReply r s).link.line = s.link.line := rfl
@[simp] theorem putReply_link_send (r : Reply) (s : State) :
    (putReply r s).link.send = s.link.send := rfl
@[simp] theorem putReply_link_acked (r : Reply) (s : State) :
    (putReply r s).link.acked = s.link.acked := rfl
@[simp] theorem putReply_cu (r : Reply) (s : State) : (putReply r s).cu = s.cu := rfl
@[simp] theorem putReply_cart (r : Reply) (s : State) : (putReply r s).cart = s.cart := rfl
@[simp] theorem putReply_spin (r : Reply) (s : State) : (putReply r s).spin = s.spin := rfl
@[simp] theorem putReply_clk (r : Reply) (s : State) : (putReply r s).clk = s.clk := rfl
@[simp] theorem putReply_pos (r : Reply) (s : State) : (putReply r s).pos = s.pos := rfl
@[simp] theorem putReply_record (r : Reply) (s : State) : (putReply r s).record = s.record := rfl
@[simp] theorem putReply_chan (r : Reply) (s : State) : (putReply r s).chan = s.chan := rfl
@[simp] theorem putReply_fmt (r : Reply) (s : State) : (putReply r s).fmt = s.fmt := rfl
@[simp] theorem putReply_fault (r : Reply) (s : State) : (putReply r s).fault = s.fault := rfl
@[simp] theorem putReply_rest (r : Reply) (s : State) : (putReply r s).rest = s.rest := rfl
@[simp] theorem putReply_set (r : Reply) (s : State) : (putReply r s).set = s.set := rfl
@[simp] theorem putReply_mail (r : Reply) (s : State) : (putReply r s).mail = s.mail := rfl
@[simp] theorem putReply_freeUsed (r : Reply) (s : State) :
    (putReply r s).freeUsed = s.freeUsed := rfl
@[simp] theorem putReply_pending (r : Reply) (s : State) : (putReply r s).pending = s.pending := rfl

/-! ### `dropFrame` -/

@[simp] theorem dropFrame_pins (s : State) : (dropFrame s).pins = s.pins := rfl
@[simp] theorem dropFrame_link_assembly (s : State) : (dropFrame s).link.assembly = .idle := rfl
@[simp] theorem dropFrame_link_gap (s : State) : (dropFrame s).link.gap = none := rfl
@[simp] theorem dropFrame_link_quiet (s : State) : (dropFrame s).link.quiet = none := rfl
@[simp] theorem dropFrame_link_outbox (s : State) : (dropFrame s).link.outbox = s.link.outbox := rfl
@[simp] theorem dropFrame_link_heldFrame (s : State) : (dropFrame s).link.heldFrame = false := rfl
@[simp] theorem dropFrame_link_kindWaiting (s : State) :
    (dropFrame s).link.kindWaiting = false := rfl
@[simp] theorem dropFrame_link_line (s : State) : (dropFrame s).link.line = s.link.line := rfl
@[simp] theorem dropFrame_link_send (s : State) : (dropFrame s).link.send = s.link.send := rfl
@[simp] theorem dropFrame_link_acked (s : State) : (dropFrame s).link.acked = s.link.acked := rfl
@[simp] theorem dropFrame_cu (s : State) : (dropFrame s).cu = s.cu := rfl
@[simp] theorem dropFrame_cart (s : State) : (dropFrame s).cart = s.cart := rfl
@[simp] theorem dropFrame_spin (s : State) : (dropFrame s).spin = s.spin := rfl
@[simp] theorem dropFrame_clk (s : State) : (dropFrame s).clk = s.clk := rfl
@[simp] theorem dropFrame_pos (s : State) : (dropFrame s).pos = s.pos := rfl
@[simp] theorem dropFrame_record (s : State) : (dropFrame s).record = s.record := rfl
@[simp] theorem dropFrame_chan (s : State) : (dropFrame s).chan = s.chan := rfl
@[simp] theorem dropFrame_fmt (s : State) : (dropFrame s).fmt = s.fmt := rfl
@[simp] theorem dropFrame_fault (s : State) : (dropFrame s).fault = s.fault := rfl
@[simp] theorem dropFrame_rest (s : State) : (dropFrame s).rest = s.rest := rfl
@[simp] theorem dropFrame_set (s : State) : (dropFrame s).set = s.set := rfl
@[simp] theorem dropFrame_mail (s : State) : (dropFrame s).mail = s.mail := rfl
@[simp] theorem dropFrame_freeUsed (s : State) : (dropFrame s).freeUsed = s.freeUsed := rfl
@[simp] theorem dropFrame_pending (s : State) : (dropFrame s).pending = s.pending := rfl

/-! ### `assemble` -/

@[simp] theorem assemble_pins (a : Assembly) (s : State) : (assemble a s).pins = s.pins := rfl
@[simp] theorem assemble_link_assembly (a : Assembly) (s : State) :
    (assemble a s).link.assembly = a := rfl
@[simp] theorem assemble_link_gap (a : Assembly) (s : State) :
    (assemble a s).link.gap = some Config.byteGapTime := rfl
@[simp] theorem assemble_link_quiet (a : Assembly) (s : State) :
    (assemble a s).link.quiet = s.link.quiet := rfl
@[simp] theorem assemble_link_outbox (a : Assembly) (s : State) :
    (assemble a s).link.outbox = s.link.outbox := rfl
@[simp] theorem assemble_link_heldFrame (a : Assembly) (s : State) :
    (assemble a s).link.heldFrame = s.link.heldFrame := rfl
@[simp] theorem assemble_link_kindWaiting (a : Assembly) (s : State) :
    (assemble a s).link.kindWaiting = s.link.kindWaiting := rfl
@[simp] theorem assemble_link_line (a : Assembly) (s : State) :
    (assemble a s).link.line = s.link.line := rfl
@[simp] theorem assemble_link_send (a : Assembly) (s : State) :
    (assemble a s).link.send = s.link.send := rfl
@[simp] theorem assemble_link_acked (a : Assembly) (s : State) :
    (assemble a s).link.acked = s.link.acked := rfl
@[simp] theorem assemble_cu (a : Assembly) (s : State) : (assemble a s).cu = s.cu := rfl
@[simp] theorem assemble_cart (a : Assembly) (s : State) : (assemble a s).cart = s.cart := rfl
@[simp] theorem assemble_spin (a : Assembly) (s : State) : (assemble a s).spin = s.spin := rfl
@[simp] theorem assemble_clk (a : Assembly) (s : State) : (assemble a s).clk = s.clk := rfl
@[simp] theorem assemble_pos (a : Assembly) (s : State) : (assemble a s).pos = s.pos := rfl
@[simp] theorem assemble_record (a : Assembly) (s : State) : (assemble a s).record = s.record := rfl
@[simp] theorem assemble_chan (a : Assembly) (s : State) : (assemble a s).chan = s.chan := rfl
@[simp] theorem assemble_fmt (a : Assembly) (s : State) : (assemble a s).fmt = s.fmt := rfl
@[simp] theorem assemble_fault (a : Assembly) (s : State) : (assemble a s).fault = s.fault := rfl
@[simp] theorem assemble_rest (a : Assembly) (s : State) : (assemble a s).rest = s.rest := rfl
@[simp] theorem assemble_set (a : Assembly) (s : State) : (assemble a s).set = s.set := rfl
@[simp] theorem assemble_mail (a : Assembly) (s : State) : (assemble a s).mail = s.mail := rfl
@[simp] theorem assemble_freeUsed (a : Assembly) (s : State) :
    (assemble a s).freeUsed = s.freeUsed := rfl
@[simp] theorem assemble_pending (a : Assembly) (s : State) :
    (assemble a s).pending = s.pending := rfl

/-! ### `dropRequester` -/

@[simp] theorem dropRequester_pins (s : State) : (dropRequester s).pins = s.pins := rfl
@[simp] theorem dropRequester_link (s : State) : (dropRequester s).link = s.link := rfl
@[simp] theorem dropRequester_cu (s : State) : (dropRequester s).cu = s.cu := rfl
@[simp] theorem dropRequester_cart (s : State) : (dropRequester s).cart = s.cart := rfl
@[simp] theorem dropRequester_spin (s : State) : (dropRequester s).spin = s.spin := rfl
@[simp] theorem dropRequester_clk (s : State) : (dropRequester s).clk = s.clk := rfl
@[simp] theorem dropRequester_pos_state (s : State) :
    (dropRequester s).pos.state = s.pos.state := rfl
@[simp] theorem dropRequester_pos_target (s : State) :
    (dropRequester s).pos.target = s.pos.target := rfl
@[simp] theorem dropRequester_pos_requester (s : State) :
    (dropRequester s).pos.requester = none := rfl
@[simp] theorem dropRequester_pos_held (s : State) :
    (dropRequester s).pos.held = s.pos.held.map fun h => (h.1, none) := rfl
@[simp] theorem dropRequester_pos_x (s : State) : (dropRequester s).pos.x = s.pos.x := rfl
@[simp] theorem dropRequester_pos_xp (s : State) : (dropRequester s).pos.xp = s.pos.xp := rfl
@[simp] theorem dropRequester_pos_cylinder (s : State) :
    (dropRequester s).pos.cylinder = s.pos.cylinder := rfl
@[simp] theorem dropRequester_pos_remembered (s : State) :
    (dropRequester s).pos.remembered = s.pos.remembered := rfl
@[simp] theorem dropRequester_pos_settle (s : State) :
    (dropRequester s).pos.settle = s.pos.settle := rfl
@[simp] theorem dropRequester_pos_offTrack (s : State) :
    (dropRequester s).pos.offTrack = s.pos.offTrack := rfl
@[simp] theorem dropRequester_pos_missing (s : State) :
    (dropRequester s).pos.missing = s.pos.missing := rfl
@[simp] theorem dropRequester_pos_seekCount (s : State) :
    (dropRequester s).pos.seekCount = s.pos.seekCount := rfl
@[simp] theorem dropRequester_pos_restartUsed (s : State) :
    (dropRequester s).pos.restartUsed = s.pos.restartUsed := rfl
@[simp] theorem dropRequester_pos_load (s : State) : (dropRequester s).pos.load = s.pos.load := rfl
@[simp] theorem dropRequester_pos_retract (s : State) :
    (dropRequester s).pos.retract = s.pos.retract := rfl
@[simp] theorem dropRequester_pos_emergency (s : State) :
    (dropRequester s).pos.emergency = s.pos.emergency := rfl
@[simp] theorem dropRequester_pos_resume (s : State) :
    (dropRequester s).pos.resume = s.pos.resume := rfl
@[simp] theorem dropRequester_pos_current (s : State) :
    (dropRequester s).pos.current = s.pos.current := rfl
@[simp] theorem dropRequester_pos_landHere (s : State) :
    (dropRequester s).pos.landHere = s.pos.landHere := rfl
@[simp] theorem dropRequester_record (s : State) : (dropRequester s).record = s.record := rfl
@[simp] theorem dropRequester_chan (s : State) : (dropRequester s).chan = s.chan := rfl
@[simp] theorem dropRequester_fmt (s : State) : (dropRequester s).fmt = s.fmt := rfl
@[simp] theorem dropRequester_fault (s : State) : (dropRequester s).fault = s.fault := rfl
@[simp] theorem dropRequester_rest (s : State) : (dropRequester s).rest = s.rest := rfl
@[simp] theorem dropRequester_set (s : State) : (dropRequester s).set = s.set := rfl
@[simp] theorem dropRequester_mail (s : State) : (dropRequester s).mail = s.mail := rfl
@[simp] theorem dropRequester_freeUsed (s : State) : (dropRequester s).freeUsed = s.freeUsed := rfl
@[simp] theorem dropRequester_pending (s : State) : (dropRequester s).pending = s.pending := rfl

/-! ### `withdrawLine` -/

@[simp] theorem withdrawLine_pins (s : State) : (withdrawLine s).pins = s.pins := rfl
@[simp] theorem withdrawLine_link_assembly (s : State) :
    (withdrawLine s).link.assembly = s.link.assembly := rfl
@[simp] theorem withdrawLine_link_gap (s : State) : (withdrawLine s).link.gap = s.link.gap := rfl
@[simp] theorem withdrawLine_link_quiet (s : State) :
    (withdrawLine s).link.quiet = s.link.quiet := rfl
@[simp] theorem withdrawLine_link_outbox (s : State) :
    (withdrawLine s).link.outbox = s.link.outbox := rfl
@[simp] theorem withdrawLine_link_heldFrame (s : State) :
    (withdrawLine s).link.heldFrame = s.link.heldFrame := rfl
@[simp] theorem withdrawLine_link_kindWaiting (s : State) :
    (withdrawLine s).link.kindWaiting = s.link.kindWaiting := rfl
@[simp] theorem withdrawLine_link_line (s : State) : (withdrawLine s).link.line = [] := rfl
@[simp] theorem withdrawLine_link_send (s : State) :
    (withdrawLine s).link.send = s.link.send.map Outbound.withdraw := rfl
@[simp] theorem withdrawLine_link_acked (s : State) :
    (withdrawLine s).link.acked = s.link.acked := rfl
@[simp] theorem withdrawLine_cu (s : State) : (withdrawLine s).cu = s.cu := rfl
@[simp] theorem withdrawLine_cart (s : State) : (withdrawLine s).cart = s.cart := rfl
@[simp] theorem withdrawLine_spin (s : State) : (withdrawLine s).spin = s.spin := rfl
@[simp] theorem withdrawLine_clk (s : State) : (withdrawLine s).clk = s.clk := rfl
@[simp] theorem withdrawLine_pos (s : State) : (withdrawLine s).pos = s.pos := rfl
@[simp] theorem withdrawLine_record (s : State) : (withdrawLine s).record = s.record := rfl
@[simp] theorem withdrawLine_chan (s : State) : (withdrawLine s).chan = s.chan := rfl
@[simp] theorem withdrawLine_fmt (s : State) : (withdrawLine s).fmt = s.fmt := rfl
@[simp] theorem withdrawLine_fault (s : State) : (withdrawLine s).fault = s.fault := rfl
@[simp] theorem withdrawLine_rest (s : State) : (withdrawLine s).rest = s.rest := rfl
@[simp] theorem withdrawLine_set (s : State) : (withdrawLine s).set = s.set := rfl
@[simp] theorem withdrawLine_mail (s : State) : (withdrawLine s).mail = s.mail := rfl
@[simp] theorem withdrawLine_freeUsed (s : State) : (withdrawLine s).freeUsed = s.freeUsed := rfl
@[simp] theorem withdrawLine_pending (s : State) : (withdrawLine s).pending = s.pending := rfl

/-! ### `clearWork` -/

@[simp] theorem clearWork_pins (s : State) : (clearWork s).pins = s.pins := rfl
@[simp] theorem clearWork_link_assembly (s : State) :
    (clearWork s).link.assembly = s.link.assembly := rfl
@[simp] theorem clearWork_link_gap (s : State) : (clearWork s).link.gap = s.link.gap := rfl
@[simp] theorem clearWork_link_quiet (s : State) : (clearWork s).link.quiet = s.link.quiet := rfl
@[simp] theorem clearWork_link_outbox (s : State) : (clearWork s).link.outbox = s.link.outbox := rfl
@[simp] theorem clearWork_link_heldFrame (s : State) :
    (clearWork s).link.heldFrame = s.link.heldFrame := rfl
@[simp] theorem clearWork_link_kindWaiting (s : State) :
    (clearWork s).link.kindWaiting = s.link.kindWaiting := rfl
@[simp] theorem clearWork_link_line (s : State) : (clearWork s).link.line = [] := rfl
@[simp] theorem clearWork_link_send (s : State) :
    (clearWork s).link.send = s.link.send.map Outbound.withdraw := rfl
@[simp] theorem clearWork_link_acked (s : State) : (clearWork s).link.acked = s.link.acked := rfl
@[simp] theorem clearWork_cu (s : State) : (clearWork s).cu = s.cu := rfl
@[simp] theorem clearWork_cart_state (s : State) : (clearWork s).cart.state = s.cart.state := rfl
@[simp] theorem clearWork_cart_type (s : State) : (clearWork s).cart.type = s.cart.type := rfl
@[simp] theorem clearWork_cart_wp (s : State) : (clearWork s).cart.wp = s.cart.wp := rfl
@[simp] theorem clearWork_cart_hold (s : State) : (clearWork s).cart.hold = s.cart.hold := rfl
@[simp] theorem clearWork_cart_latch (s : State) : (clearWork s).cart.latch = s.cart.latch := rfl
@[simp] theorem clearWork_cart_origin (s : State) : (clearWork s).cart.origin = none := rfl
@[simp] theorem clearWork_cart_eject (s : State) : (clearWork s).cart.eject = none := rfl
@[simp] theorem clearWork_spin (s : State) : (clearWork s).spin = s.spin := rfl
@[simp] theorem clearWork_clk (s : State) : (clearWork s).clk = s.clk := rfl
@[simp] theorem clearWork_pos_state (s : State) : (clearWork s).pos.state = s.pos.state := rfl
@[simp] theorem clearWork_pos_target (s : State) : (clearWork s).pos.target = s.pos.target := rfl
@[simp] theorem clearWork_pos_requester (s : State) : (clearWork s).pos.requester = none := rfl
@[simp] theorem clearWork_pos_held (s : State) :
    (clearWork s).pos.held = s.pos.held.map fun h => (h.1, none) := rfl
@[simp] theorem clearWork_pos_x (s : State) : (clearWork s).pos.x = s.pos.x := rfl
@[simp] theorem clearWork_pos_xp (s : State) : (clearWork s).pos.xp = s.pos.xp := rfl
@[simp] theorem clearWork_pos_cylinder (s : State) :
    (clearWork s).pos.cylinder = s.pos.cylinder := rfl
@[simp] theorem clearWork_pos_remembered (s : State) :
    (clearWork s).pos.remembered = s.pos.remembered := rfl
@[simp] theorem clearWork_pos_settle (s : State) : (clearWork s).pos.settle = s.pos.settle := rfl
@[simp] theorem clearWork_pos_offTrack (s : State) :
    (clearWork s).pos.offTrack = s.pos.offTrack := rfl
@[simp] theorem clearWork_pos_missing (s : State) : (clearWork s).pos.missing = s.pos.missing := rfl
@[simp] theorem clearWork_pos_seekCount (s : State) :
    (clearWork s).pos.seekCount = s.pos.seekCount := rfl
@[simp] theorem clearWork_pos_restartUsed (s : State) :
    (clearWork s).pos.restartUsed = s.pos.restartUsed := rfl
@[simp] theorem clearWork_pos_load (s : State) : (clearWork s).pos.load = s.pos.load := rfl
@[simp] theorem clearWork_pos_retract (s : State) : (clearWork s).pos.retract = s.pos.retract := rfl
@[simp] theorem clearWork_pos_emergency (s : State) :
    (clearWork s).pos.emergency = s.pos.emergency := rfl
@[simp] theorem clearWork_pos_resume (s : State) : (clearWork s).pos.resume = s.pos.resume := rfl
@[simp] theorem clearWork_pos_current (s : State) : (clearWork s).pos.current = s.pos.current := rfl
@[simp] theorem clearWork_pos_landHere (s : State) :
    (clearWork s).pos.landHere = s.pos.landHere := rfl
@[simp] theorem clearWork_record (s : State) : (clearWork s).record = s.record := rfl
@[simp] theorem clearWork_chan_transfer (s : State) : (clearWork s).chan.transfer = none := rfl
@[simp] theorem clearWork_chan_slot0 (s : State) : (clearWork s).chan.slot0 = .free := rfl
@[simp] theorem clearWork_chan_slot1 (s : State) : (clearWork s).chan.slot1 = .free := rfl
@[simp] theorem clearWork_chan_outstanding (s : State) : (clearWork s).chan.outstanding = [] := rfl
@[simp] theorem clearWork_chan_wgate (s : State) : (clearWork s).chan.wgate = s.chan.wgate := rfl
@[simp] theorem clearWork_chan_writeCurrent (s : State) :
    (clearWork s).chan.writeCurrent = s.chan.writeCurrent := rfl
@[simp] theorem clearWork_chan_op (s : State) : (clearWork s).chan.op = s.chan.op := rfl
@[simp] theorem clearWork_chan_readyTimer (s : State) : (clearWork s).chan.readyTimer = none := rfl
@[simp] theorem clearWork_chan_gateWait (s : State) : (clearWork s).chan.gateWait = none := rfl
@[simp] theorem clearWork_chan_rotation (s : State) :
    (clearWork s).chan.rotation = s.chan.rotation := rfl
@[simp] theorem clearWork_chan_reassign (s : State) : (clearWork s).chan.reassign = none := rfl
@[simp] theorem clearWork_chan_lastHead (s : State) :
    (clearWork s).chan.lastHead = s.chan.lastHead := rfl
@[simp] theorem clearWork_fmt (s : State) : (clearWork s).fmt = none := rfl
@[simp] theorem clearWork_fault (s : State) : (clearWork s).fault = s.fault := rfl
@[simp] theorem clearWork_rest (s : State) : (clearWork s).rest = s.rest := rfl
@[simp] theorem clearWork_set (s : State) : (clearWork s).set = s.set := rfl
@[simp] theorem clearWork_mail (s : State) : (clearWork s).mail = Mail.none := rfl
@[simp] theorem clearWork_freeUsed (s : State) : (clearWork s).freeUsed = s.freeUsed := rfl
@[simp] theorem clearWork_pending (s : State) : (clearWork s).pending = s.pending := rfl

end Sys2Proof.Machine
end

