-- ==== Sys2Proof/Laws/Ops.lean ====
section
/-! SUPPORT. What the shared operations can do, said once for each: the operations of the heads, the
spindle and the faults leave the link, the cartridge, the record, the rest state and the settings
(`Apart`); what they make of the positioner, the spindle, the sector in work and the fault slot; how an
item begins and ends; and when an event leaves nothing further to work out. -/

namespace Sys2Proof.Machine

/-! ### Operations of the mechanism -/

/-- What no operation of the heads, the spindle or the faults changes. -/
def Apart (s t : State) : Prop :=
  t.pins = s.pins ∧ t.link = s.link ∧ t.cart = s.cart ∧ t.record = s.record ∧ t.rest = s.rest
  ∧ t.set = s.set ∧ t.freeUsed = s.freeUsed ∧ t.pending = s.pending
  ∧ t.cu.slot = s.cu.slot ∧ t.cu.resets = s.cu.resets ∧ t.cu.accepted = s.cu.accepted
  ∧ t.cu.repliesSent = s.cu.repliesSent ∧ t.cu.queue.length = s.cu.queue.length

theorem Apart.rfl {s : State} : Apart s s := by simp [Apart]

theorem Apart.trans {s t u : State} (h : Apart s t) (k : Apart t u) : Apart s u := by
  simp only [Apart] at *
  simp [h, k]

theorem closeOp_apart (s : State) : Apart s (closeOp s) := by simp [Apart]

theorem sectorResult_apart (r : SectorResult) (s : State) : Apart s (sectorResult r s) := by
  simp [Apart]

theorem clockFallback_apart (s : State) : Apart s (clockFallback s) := by simp [Apart]

theorem tellRequester_eq (o : TargetOutcome) (s : State) :
    tellRequester o s = if s.pos.requester.isSome then tell o s else s := by
  unfold tellRequester
  cases s.pos.requester <;> simp

theorem tellRequester_apart (o : TargetOutcome) (s : State) : Apart s (tellRequester o s) := by
  rw [tellRequester_eq]
  split <;> simp [Apart]

theorem tellHeldEnded_apart (s : State) : Apart s (tellHeldEnded s) := by
  unfold tellHeldEnded
  split <;> simp [Apart]

theorem offer_apart (r : FaultRecord) (s : State) : Apart s (offer r s) := by
  simp [Apart, offer]

theorem noteEnd_apart (cls : FaultClass) (s : State) : Apart s (noteEnd cls s) := by
  unfold noteEnd
  split <;> simp [Apart]

theorem releaseHolder_apart (s : State) : Apart s (releaseHolder s) := by
  unfold releaseHolder
  split
  · exact Apart.rfl
  · refine Apart.trans (t := offer _ _) ?_ (noteEnd_apart _ _)
    simp [Apart, offer]

theorem markTorn_apart (p : Place) (s : State) : Apart s (markTorn p s) := by
  unfold markTorn
  split <;> simp [Apart]

theorem clearTorn_apart (p : Place) (s : State) : Apart s (clearTorn p s) := by
  unfold clearTorn
  split <;> simp [Apart]

theorem cutWrite_apart (s : State) : Apart s (cutWrite s) := by
  unfold cutWrite
  split
  · exact (((closeOp_apart s).trans (markTorn_apart _ _)).trans (sectorResult_apart _ _)).trans
      (releaseHolder_apart _)
  · exact Apart.rfl

theorem depart_apart (s : State) : Apart s (depart s) := by
  unfold depart
  split
  · simp [Apart]
  · exact cutWrite_apart s
  · exact Apart.rfl

theorem endSector_apart (sig : ReadSignal) (s : State) : Apart s (endSector sig s) := by
  unfold endSector
  split
  · split <;> simp [Apart]
  · exact (((closeOp_apart s).trans (clearTorn_apart _ _)).trans (sectorResult_apart _ _)).trans
      (releaseHolder_apart _)
  · exact Apart.rfl

theorem requestParked_apart (t : Target) (q : Option Requester) (s : State) :
    Apart s (requestParked t q s) := by
  unfold requestParked
  split
  · simp [Apart, enterLoading]
  · split <;> simp [Apart]

theorem spindleSeesParked_apart (s : State) : Apart s (spindleSeesParked s) := by
  unfold spindleSeesParked
  split <;> (try split) <;> simp [Apart]

theorem enterParked_apart (s : State) : Apart s (enterParked s) :=
  Apart.trans (t := clockFallback { s with pos := s.pos.park }) (by simp [Apart])
    (spindleSeesParked_apart _)

theorem heldActs_apart (s : State) : Apart s (heldActs s) := by
  unfold heldActs
  split
  · simp only
    split
    · exact Apart.trans (by simp [Apart]) (requestParked_apart _ _ _)
    · simp [Apart]
  · exact Apart.rfl

theorem enterRetracting_apart (s : State) : Apart s (enterRetracting s) := by
  have h : Apart s (clockFallback (tellRequester .ended (depart s))) :=
    ((depart_apart s).trans (tellRequester_apart _ _)).trans (clockFallback_apart _)
  unfold enterRetracting
  simp only
  split
  · exact Apart.trans (h.trans (by simp [Apart])) (enterParked_apart _)
  · exact h.trans (by simp [Apart])

theorem discardHeld_apart (s : State) : Apart s (discardHeld s) :=
  (tellHeldEnded_apart s).trans (by simp [Apart, discardHeld])

theorem requestRetract_apart (s : State) : Apart s (requestRetract s) := by
  unfold requestRetract
  split
  · exact discardHeld_apart s
  · exact discardHeld_apart s
  · exact discardHeld_apart s
  · exact (discardHeld_apart s).trans (enterRetracting_apart _)

/-- A discarded request is held no more (R64). -/
theorem discardHeld_held (s : State) : (discardHeld s).pos.held = none := rfl

theorem enterEmergency_apart (s : State) : Apart s (enterEmergency s) := by
  have h : Apart s (clockFallback (tellHeldEnded (tellRequester .ended (depart s)))) :=
    (((depart_apart s).trans (tellRequester_apart _ _)).trans (tellHeldEnded_apart _)).trans
      (clockFallback_apart _)
  unfold enterEmergency
  simp only
  split
  · exact Apart.trans (h.trans (by simp [Apart])) (enterParked_apart _)
  · exact h.trans (by simp [Apart])

theorem requestEmergency_apart (s : State) : Apart s (requestEmergency s) := by
  unfold requestEmergency
  split
  · exact Apart.rfl
  · exact Apart.rfl
  · exact enterEmergency_apart s

theorem startRequest_apart (s : State) : Apart s (startRequest s) := by
  unfold startRequest
  split <;> (try split) <;> simp [Apart]

theorem stopRequest_apart (s : State) : Apart s (stopRequest s) := by
  unfold stopRequest
  simp only
  split
  · simp [Apart]
  · simp [Apart]
  · simp [Apart]
  · split
    · simp [Apart]
    · simp [Apart]
    · simp [Apart]
    · refine Apart.trans ?_ (requestRetract_apart _)
      simp [Apart]

theorem cancelQueue_apart (s : State) : Apart s (cancelQueue s) := by simp [Apart]

theorem respond_apart (cls : FaultClass) (s : State) : Apart s (respond cls s) := by
  have cut := (noteEnd_apart cls s).trans (cutWrite_apart _)
  cases cls
  · exact ((cut.trans (requestEmergency_apart _)).trans (stopRequest_apart _)).trans
      (cancelQueue_apart _)
  · exact ((cut.trans (requestRetract_apart _)).trans (stopRequest_apart _)).trans
      (cancelQueue_apart _)
  · exact ((cut.trans (requestRetract_apart _)).trans (stopRequest_apart _)).trans
      (cancelQueue_apart _)
  · exact ((cut.trans (requestRetract_apart _)).trans (stopRequest_apart _)).trans
      (cancelQueue_apart _)
  · exact (cut.trans (requestRetract_apart _)).trans (cancelQueue_apart _)
  · exact cut
  · exact cut
  · exact (noteEnd_apart _ s).trans (requestRetract_apart _)
  · exact (noteEnd_apart _ s).trans (requestRetract_apart _)
  · exact (noteEnd_apart _ s).trans (requestRetract_apart _)
  · exact Apart.rfl
  · exact Apart.rfl

/-- A fault changes the heads, the spindle, the clock, the channel, the fault unit, the attention set and
the marks of the queue, and nothing else. -/
theorem raise_apart (cls : FaultClass) (s : State) : Apart s (raise cls s) :=
  (offer_apart _ s).trans (respond_apart _ _)

theorem replaceRequester_apart (q : Option Requester) (s : State) :
    Apart s (replaceRequester q s) := by
  unfold replaceRequester
  split
  · exact Apart.rfl
  · exact tellRequester_apart _ s

theorem requestTarget_apart (t : Target) (q : Option Requester) (s : State) :
    Apart s (requestTarget t q s) := by
  have h : Apart s { s with mail := { s.mail with told := none } } := by simp [Apart]
  refine h.trans ?_
  unfold requestTarget
  simp only
  split
  · exact requestParked_apart _ _ _
  · exact (replaceRequester_apart q _).trans (by simp [Apart])
  · split
    · exact (replaceRequester_apart q _).trans (by simp [Apart])
    · exact (replaceRequester_apart q _).trans (by simp [Apart, newSeek])
  · split
    · exact (replaceRequester_apart q _).trans (by simp [Apart])
    · exact (replaceRequester_apart q _).trans (by simp [Apart, newSeek])
  · split
    · split <;> simp [Apart]
    · exact (depart_apart _).trans (by simp [Apart, newSeek])
  · exact (replaceRequester_apart q _).trans (by simp [Apart])
  · exact (tellHeldEnded_apart _).trans (by simp [Apart])
  · exact (tellHeldEnded_apart _).trans (by simp [Apart])

/-! ### The sector in work -/

theorem releaseHolder_chan (s : State) : (releaseHolder s).chan = s.chan := by
  unfold releaseHolder
  split
  · rfl
  · unfold noteEnd
    split <;> simp [offer]

/-- After a departure from FOLLOWING no sector is in work, and the gate is closed if a write was. -/
theorem depart_op (s : State) : (depart s).chan.op = none := by
  unfold depart
  split
  · simp
  · rename_i h
    simp only [cutWrite, h, releaseHolder_chan, sectorResult_chan, markTorn]
    split <;> simp
  · assumption

/-- A cut closes the gate (R124). -/
theorem cutWrite_gate (s : State) (p : Place) (d : List Byte) (h : s.chan.op = some (.write p d)) :
    (cutWrite s).chan.op = none ∧ (cutWrite s).chan.wgate = false
      ∧ (cutWrite s).chan.writeCurrent = 0 := by
  simp only [cutWrite, h, releaseHolder_chan, sectorResult_chan, markTorn]
  split <;> simp

/-- With no write in progress a cut has no effect (R146). -/
theorem cutWrite_idle (s : State) (h : ∀ p d, s.chan.op ≠ some (.write p d)) : cutWrite s = s := by
  unfold cutWrite
  split
  · rename_i p d hp
    exact absurd hp (h p d)
  · rfl

/-! ### The fault slot -/

/-- The slot after an offer (R144). -/
theorem offer_slot (r : FaultRecord) (s : State) :
    (offer r s).fault.slot = some (offerTo s.fault.slot r) := rfl

/-- An offered record leaves the held one, or takes its place if its priority is higher. -/
theorem offerTo_some (h r : FaultRecord) :
    (offerTo (some h) r).count = min 255 (h.count + 1)
    ∧ (offerTo (some h) r = { h with count := min 255 (h.count + 1) }
      ∨ (offerTo (some h) r).cls = r.cls ∧ r.cls.priority < h.cls.priority) := by
  by_cases c : r.cls.priority < h.cls.priority <;> simp [offerTo, c]

/-! ### Items of the slot -/

/-- The command with this code takes the slot and begins (R176). -/
theorem runHead_of_waiting {code : Byte} {e : Entry} {s : State} (f : Entry → State → State)
    (h : Waiting code e s) : runHead code f s = settle (f e (takeHead e s)) := by
  obtain ⟨-, ⟨hs, -⟩, hr, hp, hq, hc, hx⟩ := h
  cases hl : s.cu.queue with
  | nil => simp [hl] at hq
  | cons a as =>
    simp only [hl, List.head?_cons, Option.some.injEq] at hq
    subst hq
    simp [runHead, headFor, headMayRun, slotFree, hs, Slot.free, hr, hp, hl, hc, hx]

/-- The queue head takes the slot: the beginning of every queued command's next state. -/
theorem takeHead_eq (e : Entry) (s : State) : takeHead e s = begun e .idle s := rfl

/-- With no data request in the line or being sent, none is withdrawn. -/
theorem withdrawLine_of_none {s : State} (h : s.link.line = []) (k : sendsRequest s = false) :
    withdrawLine s = s := by
  have hs : s.link.send.map Outbound.withdraw = s.link.send := by
    unfold sendsRequest at k
    split at k
    · cases k
    · rename_i hn
      rcases hq : s.link.send with _ | f
      · rfl
      · cases f <;> first | rfl | exact absurd hq (hn _ _)
  unfold withdrawLine
  rw [hs, ← h]

/-- Where no block works for an item, an item that ends leaves all but the slot as it is. -/
theorem clearWork_of_noWork {s : State} (h : NoWork s) : clearWork s = s := by
  obtain ⟨-, -, ht, hr, hf, -, h0, h1, ho, hy, hg, hl, hs, hq, hh, hc, he, hm⟩ := h
  have hd : dropRequester s = s := by
    simp only [dropRequester, hh, Option.map_none]
    rw [← hq, ← hh]
  unfold clearWork
  rw [withdrawLine_of_none hl hs, hd]
  obtain ⟨_, _, _, ⟨⟩, _, _, _, _, ⟨⟩, _⟩ := s
  simp_all

/-- A tick of the handshake: one byte more is acknowledged, but not the last, or the part goes on waiting;
nothing else changes but the count of free values used. -/
theorem ackByte_eq (s : State) :
    (s.link.send = none → ackByte s = s)
    ∧ ∀ f, s.link.send = some f → ∃ n, ackByte s
        = { s with link := { s.link with acked := n }, freeUsed := s.freeUsed + 1 }
      ∧ (n = s.link.acked ∨ n = min (s.link.acked + 1) (f.bytes.length - 1)) := by
  refine ⟨fun h => by simp [ackByte, h], fun f h => ?_⟩
  simp only [ackByte, h]
  split <;> exact ⟨_, rfl, by simp⟩

/-- An item other than a queued command ends: its work is cleared and the slot is free (R177). -/
theorem finishWith_internal (o : OutcomeCode) (fields : List Byte) (s : State)
    (h : ∀ e, s.cu.slot.item ≠ .command e) : finishWith o fields s = freeSlot (clearWork s) := by
  unfold finishWith
  split
  · rename_i e he
    exact absurd he (h e)
  · rfl

/-- A queued command ends (R177): its reply enters the outbox, or waits in the slot. -/
theorem finishWith_command (o : OutcomeCode) (fields : List Byte) (s : State) (e : Entry)
    (h : s.cu.slot.item = .command e) :
    let r : Reply := { tag := e.tag, code := e.code, outcome := o, fields, queued := true }
    finishWith o fields s
      = if placesUsed s < 8 then freeSlot (putReply r (clearWork s))
        else setWork (.replying r) (clearWork s) := by
  have hp : placesUsed (clearWork s) = placesUsed s := rfl
  simp only [finishWith, h, placeFree, hp, Config.outboxMax, decide_eq_true_eq]
  rfl

/-! ### Timers -/

/-- A tick takes a microsecond from a timer that runs. -/
@[simp] theorem Timer.down_eq (t : Timer) : Timer.down t = t.map fun n => n - 1 := by
  cases t <;> rfl

/-! ### RST -/

/-- With RST released a row has its meaning. -/
@[simp] theorem unlessReset_released (f : State → State) (s : State) (h : s.pins.rst = false) :
    unlessReset f s = f s := by
  simp [unlessReset, h]

/-- While RST stays asserted nothing acts (R193). -/
@[simp] theorem unlessReset_asserted (f : State → State) (s : State) (h : s.pins.rst = true) :
    unlessReset f s = s := by
  simp [unlessReset, h]

/-! ### Working an event out -/

/-- An event that leaves no transition to make leaves the state as it is, but for the answers. -/
theorem settle_of_done {s : State} (h : advance s = none) : settle s = { s with mail := Mail.none } := by
  simp [settle, settleFuel, advanceMany, h]

/-- One transition and nothing after it. -/
theorem settle_of_one {s t : State} (h : advance s = some t) (k : advance t = none) :
    settle s = { t with mail := Mail.none } := by
  simp [settle, settleFuel, advanceMany, h, k]

/-- With no copy write and no load, an event goes to the item in the slot. -/
theorem advance_item {s : State} (h : s.record.load = none) (k : s.record.copyWrite = none) :
    advance s = advanceItem s := by
  simp [advance, advanceCopies, advanceLoad, h, k]

/-- On a part with no work in hand an event has nothing further to work out. -/
theorem settle_quiet {s : State} (h : Quiet s) : settle s = s := by
  obtain ⟨hs, hl, hc, hn⟩ := h
  have hm : s.mail = Mail.none := hn.2.2.2.2.2.2.2.2.2.2.2.2.2.2.2
  have hi : advanceItem s = none := by simp [advanceItem, hs, Slot.free]
  rw [settle_of_done (by rw [advance_item hl hc, hi])]
  cases s
  simp_all

end Sys2Proof.Machine
end

