-- ==== Sys2Proof/WellFormed.lean ====
section
/-! DEFINITION. Which commands are well formed: the operands that the spec bounds. -/

namespace Sys2Proof

/-- A read signal carries at most the bytes of one sector (R112). -/
def ReadSignal.wellFormed (g : ReadSignal) : Bool := g.data.length ≤ Config.sectorBytes

/-- The operands keep the bounds that the spec gives: a command body of 2..14 bytes and a data body of
512 (section 11.3), and the sixteen bytes of the user area (12.5). The other operands have none. -/
def Instr.wellFormed : Instr → Bool
  | .commandFrame body => 2 ≤ body.length && body.length ≤ 14
  | .dataFrame body => body.length == Config.sectorBytes
  | .receiveError _ => true
  | .byteGapExpiry => true
  | .discardQuietExpiry => true
  | .busGrant => true
  | .dirLowDuringSend => true
  | .frameSent => true
  | .kindByteTakesPlace => true
  | .replyTakesPlace => true
  | .hardReset _ => true
  | .spinUp => true
  | .spinDown => true
  | .seek => true
  | .read => true
  | .write => true
  | .verify => true
  | .reassign => true
  | .format => true
  | .rest => true
  | .eject => true
  | .readTable => true
  | .setParameter => true
  | .saveSettings => true
  | .saveSettingsReadBack area => area.length == 16
  | .loadDefaults => true
  | .sense _ => true
  | .clearAttention _ _ => true
  | .abort _ => true
  | .hold _ => true
  | .release _ => true
  | .reset _ => true
  | .cancelledCommandTakesSlot => true
  | .autoStart => true
  | .buttonEject => true
  | .timedWake => true
  | .softResetPark => true
  | .insertion _ _ _ => true
  | .seatedFalling => true
  | .ejectButtonPress => true
  | .releaseWindowExpiry => true
  | .indexArrival sig => sig.wellFormed
  | .kickTimerExpiry => true
  | .accelGapSaturation => true
  | .spinUpTimerExpiry => true
  | .indexLoss => true
  | .stopTimerExpiry => true
  | .brakeTimerExpiry => true
  | .markStrobe _ _ _ _ sig => sig.wellFormed
  | .missingSampleDeclaration => true
  | .servoLoss => true
  | .seekTimeout => true
  | .loadTimerExpiry _ => true
  | .retractTimerExpiry => true
  | .emergencyTimerExpiry => true
  | .parkRises => true
  | .writeFault => true
  | .dataTimerExpiry => true
  | .gateWaitTimerExpiry => true
  | .formatReadWaitExpiry => true
  | .copyAttemptTimerExpiry => true
  | .supwarnFalls => true
  | .supwarnRises => true
  | .restTimerExpiry => true
  | .byteReceived _ _ => true

end Sys2Proof
end

