-- ==== Sys2Proof/Tests/Slice0.lean ====
section
/-! SUPPORT. The author's tests: an ill-formed command for each check of WellFormed; the worked cases of the
spec, on the operation they work out; and for each statement that has hypotheses, states and operands that
meet them, clause by clause (`test_…_met`). -/

open Sys2Proof Sys2Proof.Machine

namespace Sys2Proof.Tests

/-! ### Well-formed commands -/

set_option maxRecDepth 8000 in
theorem test_wellFormed_refuses :
    (Instr.commandFrame [0x30#8]).wellFormed = false
    ∧ (Instr.commandFrame (List.replicate 15 0#8)).wellFormed = false
    ∧ (Instr.dataFrame (List.replicate 511 0#8)).wellFormed = false
    ∧ (Instr.saveSettingsReadBack (List.replicate 15 0#8)).wellFormed = false
    ∧ (Instr.indexArrival
        { ident := none, checkOk := true, data := List.replicate 513 0#8 }).wellFormed = false
    ∧ (Instr.markStrobe 0 0 false false
        { ident := none, checkOk := true, data := List.replicate 513 0#8 }).wellFormed = false := by
  decide

set_option maxRecDepth 8000 in
theorem test_wellFormed_admits :
    (Instr.commandFrame [0x30#8, 1#8]).wellFormed = true
    ∧ (Instr.commandFrame (List.replicate 14 0#8)).wellFormed = true
    ∧ (Instr.dataFrame (List.replicate 512 0#8)).wellFormed = true
    ∧ (Instr.saveSettingsReadBack (List.replicate 16 0#8)).wellFormed = true := by
  decide

/-! ### Worked cases of the spec -/

/-- Section 2.4, regulating into lock with Gs 3: the drive levels of the five arrivals. -/
theorem test_regulate_worked :
    regulate 200 25400 3 = 255 ∧ regulate 255 24880 3 = 233 ∧ regulate 233 24950 3 = 224
    ∧ regulate 224 25010 3 = 226 ∧ regulate 226 25004 3 = 227 := by decide

/-- Section 2.4, a deviation and its recovery with Gs 3. -/
theorem test_deviation_worked :
    regulate 227 25260 3 = 255 ∧ regulate 255 25300 3 = 255 ∧ regulate 255 24990 3 = 253
    ∧ regulate 253 25000 3 = 253 ∧ inWindow 250 25260 = false ∧ inWindow 125 25180 = false
    ∧ inWindow 125 25100 = true := by decide

/-- Section 3.4, the square roots of the worked cases. -/
theorem test_isqrt_worked :
    isqrt 1228800 = 1108 ∧ isqrt 160000 = 400 ∧ isqrt 24166400 = 4915 ∧ isqrt 960000 = 979
    ∧ isqrt 82080 = 286 := by decide

/-- Section 3.4, worked cases of both types. -/
theorem test_seek_worked :
    coarseCurrent .a (CartType.factoryTrims .a) 15360 0 = 127
    ∧ coarseCurrent .a (CartType.factoryTrims .a) 2000 1000 = -127
    ∧ coarseCurrent .b (CartType.factoryTrims .b) 151040 2500 = 19
    ∧ coarseCurrent .b (CartType.factoryTrims .b) (-6000) (-1000) = 7
    ∧ coarseCurrent .b (CartType.factoryTrims .b) 513 300 = -4 := by decide

/-- Section 3.4, fine cases, and the currents of the settling sequence. -/
theorem test_fine_worked :
    fineCurrent (CartType.factoryTrims .a) 300 120 = -124
    ∧ fineCurrent (CartType.factoryTrims .a) 0 1 = -1
    ∧ fineCurrent (CartType.factoryTrims .b) 512 300 = -127
    ∧ fineCurrent (CartType.factoryTrims .b) (-8) 1 = -2
    ∧ fineCurrent (CartType.factoryTrims .a) 30 70 = -99
    ∧ fineCurrent (CartType.factoryTrims .a) (-12) 42 = -65
    ∧ fineCurrent (CartType.factoryTrims .a) (-18) 6 = -12
    ∧ fineCurrent (CartType.factoryTrims .a) (-6) (-12) = 17 := by decide

/-- R78, the table of generations. -/
theorem test_newer_worked :
    newer 57#16 56#16 = true ∧ newer 0#16 65535#16 = true ∧ newer 40000#16 1#16 = false
    ∧ newer 1#16 40000#16 = true ∧ newer 100#16 32868#16 = false
    ∧ newer 32868#16 100#16 = false ∧ newer 10#16 10#16 = false := by decide

/-- Section 5.2, the table of translations; an empty entry of a zone is `none`. -/
theorem test_translate_worked :
    translate .a (emptyZones .a) 0 = ({ cyl := 1, head := 0, sector := 0 }, none)
    ∧ translate .a (emptyZones .a) 5000 = ({ cyl := 159, head := 0, sector := 0 }, none)
    ∧ translate .a ((emptyZones .a).set 7 { spares := 7#32, list := [{ offset := 576, spare := 2 }] })
        5000 = ({ cyl := 160, head := 1, sector := 10 }, some 2)
    ∧ translate .a (emptyZones .a) 10111 = ({ cyl := 320, head := 1, sector := 7 }, none)
    ∧ translate .b (emptyZones .b) 12345 = ({ cyl := 406, head := 1, sector := 9 }, none)
    ∧ translate .b ((emptyZones .b).set 20 { spares := 8#32, list := [{ offset := 185, spare := 3 }] })
        12345 = ({ cyl := 420, head := 0, sector := 3 }, some 3)
    ∧ translate .b (emptyZones .b) 19455 = ({ cyl := 639, head := 1, sector := 15 }, none) := by
  decide

/-- Section 5.4, a Type A zone through four reassignments. -/
theorem test_reassign_worked :
    let z0 : Zone := { spares := 3#32, list := [{ offset := 12, spare := 0 }, { offset := 400, spare := 1 }] }
    let z1 : Zone := { spares := 7#32, list := z0.list ++ [{ offset := 576, spare := 2 }] }
    let z2 : Zone := { spares := 15#32, list := [{ offset := 12, spare := 0 },
      { offset := 100, spare := 3 }, { offset := 400, spare := 1 }, { offset := 576, spare := 2 }] }
    let z3 : Zone := { spares := 31#32, list := [{ offset := 12, spare := 0 },
      { offset := 100, spare := 3 }, { offset := 400, spare := 4 }, { offset := 576, spare := 2 }] }
    let z4 : Zone := { spares := 63#32, list := [{ offset := 12, spare := 0 },
      { offset := 100, spare := 3 }, { offset := 400, spare := 4 }, { offset := 576, spare := 5 }] }
    reassignZone false .a 576 z0 = .moved 2 z1 ∧ reassignZone false .a 100 z1 = .moved 3 z2
    ∧ reassignZone false .a 400 z2 = .moved 4 z3 ∧ reassignZone false .a 576 z3 = .moved 5 z4
    ∧ spareScan .a z4 = 6 ∧ spareScan .a { z4 with spares := 255#32 } = 8 := by decide

/-! ### States -/

/-- A Type A session with an empty zone table. -/
def sessionA : Session :=
  { type := .a, lock := false, generation := 7#16, serial := 1#32, zones := emptyZones .a }

/-- A READY Type A cartridge, the platter STOPPED and the heads PARKED. -/
def atRest : State :=
  { State.reset with
    pins := { State.reset.pins with seated := true, notchA := true }
    cart := { State.reset.cart with state := .ready, type := some .a }
    record := { State.reset.record with session := .full sessionA, copyStatus := .good } }

/-- A READY Type A cartridge, the heads FOLLOWING cylinder 160 and the clock MARK_LOCKED. -/
def flying : State :=
  { atRest with
    pins := { atRest.pins with park := false }
    spin := { atRest.spin with state := .atSpeed, drive := 227, period := 25000, gap := 0 }
    clk := { locked := true, good := 32, miss := some 1200 }
    pos := { atRest.pos with state := .following, target := some { cyl := 160, offset := 0 }
                             x := 40960, xp := some 40960, cylinder := 160, resume := 160 } }

/-- The same state with the spindle in this state and the heads in that one. -/
def mech (sp : SpindleState) (p : PosState) (s : State) : State :=
  { s with spin := { s.spin with state := sp }, pos := { s.pos with state := p } }

/-- The cartridge is in this state. -/
def inCart (c : CartState) (s : State) : State := { s with cart := { s.cart with state := c } }

/-- A change is unsaved. -/
def unsaved (s : State) : State := { s with record := { s.record with unsaved := true } }

/-- The cartridge is write-protected. -/
def protect (s : State) : State := { s with cart := { s.cart with wp := true } }

/-- A record of this class in the fault slot. -/
def faultOf (cls : FaultClass) (n : Nat) : FaultRecord :=
  { cls, cyl := 160, head := 0, tag := none, lba := none, count := n }

/-- The fault slot holds a record of this class. -/
def faulty (cls : FaultClass) (s : State) : State :=
  { s with fault := { s.fault with slot := some (faultOf cls 1) } }

/-- A queue entry with tag 7. -/
def entry (code : Byte) (params : List Byte) : Entry := { code, tag := 7#8, params, cancelled := false }

/-- A command waits at the head of the queue. -/
def withHead (code : Byte) (params : List Byte) (s : State) : State :=
  { s with cu := { s.cu with queue := [entry code params], accepted := 1 } }

/-- A command works in the slot. -/
def inSlot (code : Byte) (params : List Byte) (w : Work) (s : State) : State :=
  { s with cu := { s.cu with slot := { Slot.free with item := .command (entry code params), work := w }
                             accepted := 1 } }

/-- The transfer context of a command of two blocks from LBA 5,000, at the sector of its first. -/
def transferOf (cmd : DataCommand) (ph : DataPhase) : Transfer :=
  { cmd, tag := 7#8, first := 5000, count := 2, idx := 0, done := 0
    place := { cyl := 160, head := 0, sector := 15 }, spare := none, attempt := 1, offset := 0
    firstPass := false, recovered := false, failing := none, torn := none, reassigned := 0
    abortPending := false, phase := ph, limit := 8, verifyOn := false, nextRequest := 2
    chain := false, mark := false, outcome := .done, timedOut := false, result := .notMade }

/-- A READ of two blocks reads the sector of its first block. -/
def reading (attempt : Nat) : State :=
  let s := inSlot Code.read [0#8, 0#8, 0x13#8, 0x88#8, 2#8] .data flying
  { s with chan := { s.chan with
      transfer := some { transferOf .read .sector with attempt }
      op := some (.read { cyl := 160, head := 0, sector := 15 }) } }

/-- A WRITE of two blocks writes the sector of its first block. -/
def writingState : State :=
  let s := inSlot Code.write [0#8, 0#8, 0x13#8, 0x88#8, 2#8] .data flying
  { s with chan := { s.chan with
      transfer := some (transferOf .write .sector), wgate := true, writeCurrent := 18
      op := some (.write { cyl := 160, head := 0, sector := 15 } []) } }

/-- Eight outbox places are used. -/
def fullOutbox (s : State) : State := { s with cu := { s.cu with resets := List.replicate 8 1#8 } }

/-- A reply to a READ. -/
def replyR : Reply := { tag := 7#8, code := Code.read, outcome := .done, fields := [], queued := true }

/-- Section 5.6, READ TABLE 1 and 2 after the worked REASSIGN: zone 20 of a Type B cartridge. -/
theorem test_tables_worked :
    let z : Zone := { spares := 31#32, list := [{ offset := 40, spare := 0 }, { offset := 185, spare := 4 },
      { offset := 300, spare := 1 }, { offset := 512, spare := 2 }] }
    let s := inCart .ready { atRest with record := { atRest.record with
      session := .full { sessionA with type := .b, zones := (emptyZones .b).set 20 z } } }
    readTable [1#8, 20#8, 0#8] s = (.done, [1#8, 20#8, 0#8, 0#8, 0#8, 31#8, 4#8, 1#8, 5#8])
    ∧ readTable [2#8, 20#8, 0#8] s = (.done, [2#8, 20#8, 4#8, 4#8] ++ be16 40 ++ [0#8] ++ be16 12200
        ++ be16 185 ++ [4#8] ++ be16 12345 ++ be16 300 ++ [1#8] ++ be16 12460
        ++ be16 512 ++ [2#8] ++ be16 12672)
    ∧ readTable [2#8, 20#8, 4#8] s = (.done, [2#8, 20#8, 4#8, 0#8])
    ∧ readTable [2#8, 20#8, 5#8] s = (.outOfRange, [2#8])
    ∧ readTable [1#8, 32#8, 0#8] s = (.outOfRange, [1#8]) := by decide

/-- Section 9.6, settings from a blank memory: a Type B cartridge is seated at power-on. -/
theorem test_settings_worked :
    let g : Settings := { State.reset.set with trims := CartType.factoryTrims .b }
    let taken (p v : Nat) (g : Settings) : Nat × Settings := (setParameterValue p v g).getD (0, g)
    let g1 := taken 1 20 g
    let g2 := taken 4 7 g1.2
    let g3 := taken 6 0 g2.2
    (g1.1 = 15 ∧ g2.1 = 1 ∧ g3.1 = 1)
    ∧ g3.2.active = { retry := 15, timeout := 2, autoStart := false, writeVerify := true }
    ∧ g3.2.image = UserSettings.builtIn ∧ g3.2.trims.kv = 1 ∧ g3.2.trims.wc = 24 := by decide

/-- Section 8.8, the fault slot over a session: class and count after each raising. -/
theorem test_faultSlot_worked :
    let s1 := offerTo none (faultOf .dataCheck 0)
    let s2 := offerTo (some s1) (faultOf .speedDeviation 0)
    let s3 := offerTo (some s2) (faultOf .dataCheck 0)
    let s4 := offerTo (some s3) (faultOf .offTrack 0)
    (s1.cls, s1.count) = (.dataCheck, 1) ∧ (s2.cls, s2.count) = (.speedDeviation, 2)
    ∧ (s3.cls, s3.count) = (.speedDeviation, 3) ∧ (s4.cls, s4.count) = (.offTrack, 4) := by decide

/-- R92: the entry to PARKED ends a write-back whose request was held in the retract, with neither copy
written. -/
theorem test_parkRises_ends_held_write_back :
    let w : CopyWrite := { owner := .writeBack, targeting := true, copy := 0, attempt := 1, readBack := false
                           sector := 0, armed := false, timer := none, expired := false, written0 := false }
    let s := inSlot Code.spinDown [] .downSave (unsaved (mech .atSpeed .retracting atRest))
    let s := { s with record := { s.record with copyWrite := some w }
                      pos := { s.pos with held := some ({ cyl := 0, offset := 0 }, some .record) } }
    (parkSeen s).record.copyWrite = none ∧ (parkSeen s).cu.slot.result = .neither
    ∧ (parkSeen s).record.copyStatus = .degraded ∧ (parkSeen s).pos.state = .parked := by decide

/-! ### The hypotheses of the statements are met -/

theorem test_StepTakesTheFrontCommand_met :
    State.reset.pending = [] ∧ internalStep State.reset = none
    ∧ atRest.pending = []
    ∧ (internalStep { atRest with cu := { atRest.cu with pendWake := true } }).isSome = true := by
  decide

/-- The states of the clauses on the internal step: a waiting reply, a waiting kind byte, a busy slot, a
soft reset, a BUTTON EJECT, a marked head, an unmarked one, and the two requests alone. -/
theorem test_StepTakesTheFrontCommand_met_internal :
    let r : Reply := { tag := 7#8, code := 0x12#8, outcome := .done, fields := [], queued := true }
    let waits := inSlot Code.seek [] (.replying r) atRest
    let busy := inSlot Code.seek [] .seekSpin atRest
    let head (c : Bool) : State := { atRest with cu := { atRest.cu with
      queue := [{ entry Code.seek [] with cancelled := c }] } }
    waits.pins.rst = false ∧ (placesUsed waits < 8 ∧ ∃ r, waits.cu.slot.work = .replying r)
    ∧ (let k := { busy with link := { busy.link with kindWaiting := true } }
       k.pins.rst = false ∧ k.cu.slot.work = .seekSpin ∧ placesUsed k < 8 ∧ k.link.kindWaiting = true)
    ∧ (busy.cu.slot.work = .seekSpin ∧ busy.link.kindWaiting = false ∧ busy.cu.slot.item ≠ .free)
    ∧ (atRest.cu.slot.work = .idle ∧ atRest.link.kindWaiting = false ∧ atRest.cu.slot.item = .free
       ∧ atRest.cu.resets = [] ∧ atRest.cu.pendEject = false ∧ atRest.cu.queue = []
       ∧ atRest.cu.pendAuto = false ∧ atRest.cu.pendWake = false)
    ∧ (let q := { atRest with cu := { atRest.cu with resets := [3#8] } }
       q.cu.resets ≠ [] ∧ q.cu.queue.head? = none)
    ∧ (let q := { atRest with cu := { atRest.cu with pendEject := true, pendAuto := true, pendWake := true } }
       q.cu.pendEject = true ∧ q.cu.pendAuto = true ∧ q.cu.pendWake = true ∧ q.cu.queue = [])
    ∧ (∃ e, (head true).cu.queue.head? = some e ∧ e.cancelled = true)
    ∧ ((head false).cu.queue.head? = some (entry Code.seek []) ∧ (entry Code.seek []).cancelled = false
       ∧ ((entry Code.seek []).code, Instr.seek) ∈ queuedRows) :=
  ⟨rfl, ⟨by decide, _, rfl⟩, by decide, by decide, by decide, by decide, by decide, ⟨_, rfl, rfl⟩, by decide⟩

theorem test_EveryCommandCompletes_met :
    (∃ t, exec .indexLoss flying = .next t) ∧ ∃ t, step flying = .next t := ⟨⟨_, rfl⟩, _, rfl⟩

theorem test_ResetMeetsTheLaws_met :
    let l : Levels := { seated := false, notchA := false, notchB := false, wprot := false
                        park := true, supwarn := true, rst := false }
    l.seated = false ∧ l.notchA = false ∧ l.notchB = false ∧ l.wprot = false ∧ l.park = true
    ∧ l.supwarn = true ∧ l.rst = false := by decide

/-- With the command `c` at the front of the commands. -/
def front (c : Instr) (s : State) : State := { s with pending := [c] }

theorem test_SpindleLawKept_met :
    (SpindleLaw flying ∧ ∃ t, step (front .indexLoss flying) = .next t)
    ∧ (SpindleLaw (mech .kick .parked atRest) ∧ ∃ t, step (mech .kick .parked atRest) = .next t)
    ∧ SpindleLaw (mech .braking .parked atRest) ∧ SpindleLaw (mech .coasting .retracting flying) :=
  ⟨⟨trivial, _, rfl⟩, ⟨rfl, _, rfl⟩, rfl, rfl⟩

theorem test_WriteGateLawKept_met :
    (GateLaw writingState ∧ ∃ t, step (front .writeFault writingState) = .next t)
    ∧ GateLaw (reading 1) :=
  ⟨⟨⟨rfl, fun _ => ⟨rfl, rfl, rfl⟩, (nomatch ·)⟩, _, rfl⟩, ⟨rfl, (nomatch ·), fun _ => rfl⟩⟩

/-- A drive that sends the reply at the head of its outbox, with one command in the slot. -/
def busy : State :=
  let s := reading 1
  { s with link := { s.link with outbox := [replyR], send := some (.reply replyR) }
           cu := { s.cu with accepted := 2 } }

/-- A drive that sends the second data request of its WRITE. -/
def asks : State :=
  { writingState with link := { writingState.link with line := [(7#8, 1)], send := some (.request 7#8 1) } }

/-- Four commands wait and eight places are used. -/
def crowded : State :=
  { atRest with cu := { atRest.cu with queue := List.replicate 4 (entry Code.seek [0#8, 1#8]), accepted := 4
                                       resets := List.replicate 8 1#8 } }

theorem test_QueueOutboxAndCountKept_met :
    (BoundsLaw crowded ∧ ∃ t, step crowded = .next t)
    ∧ (CountLaw busy ∧ ∃ t, step (front .frameSent busy) = .next t)
    ∧ (CountLaw asks ∧ ∃ t, step (front .frameSent asks) = .next t) := by
  refine ⟨⟨⟨by decide, by decide, ?_⟩, _, rfl⟩, ⟨⟨rfl, ?_, nofun, ?_⟩, _, rfl⟩,
    ⟨rfl, nofun, ?_, ?_⟩, _, rfl⟩
  · intro tag h; simp [crowded, atRest, State.reset, Slot.free] at h
  · intro r h; simpa [busy, eq_comm] using h
  · intro r h; simp [busy, reading, inSlot] at h
  · intro t i h
    simp only [asks, Option.some.injEq, Outbound.request.injEq] at h
    obtain ⟨rfl, rfl⟩ := h
    rfl
  · intro r h; simp [asks, writingState, inSlot] at h

/-- A drive whose session has a zone with a reassigned offset and a retired spare. -/
def moved : State :=
  { atRest with record := { atRest.record with session := .full { sessionA with
      zones := (emptyZones .a).set 7 { spares := 7#32, list := [{ offset := 576, spare := 2 }] } } } }

theorem test_ZoneTableLawKept_met :
    NoMail moved ∧ ZonesLaw moved ∧ ∃ t, step moved = .next t := by
  refine ⟨rfl, ⟨?_, ?_, ?_⟩, _, rfl⟩
  · intro r h
    simp only [fullSession, moved, Option.some.injEq] at h
    subst h
    decide
  · intro f h; simp [moved, atRest, State.reset] at h
  · intro l c h; simp [moved, atRest, State.reset] at h

theorem test_RangesClockSessionAndFaultLawsKept_met :
    (RangeLaw { flying with
        spin := { flying.spin with drive := 255, gap := 1000000, period := 1000000 }
        pos := { flying.pos with current := -127 }, chan := { flying.chan with rotation := 31 } }
      ∧ ∃ t, step (front .missingSampleDeclaration flying) = .next t)
    ∧ (RangeLaw { busy with link := { busy.link with acked := 5 } } ∧ (Outbound.reply replyR).bytes.length = 6)
    ∧ ClockLaw flying ∧ ClockLaw State.reset ∧ SessionLaw flying ∧ SessionLaw State.reset
    ∧ FaultLaw { flying with fault := { flying.fault with slot := some (faultOf .servoLoss 255) } }
    ∧ FaultLaw State.reset ∧ NoMail flying ∧ ∃ t, step (front .servoLoss flying) = .next t := by
  refine ⟨⟨⟨?_, fun _ => rfl, by decide⟩, _, rfl⟩, ⟨⟨?_, (nomatch ·), by decide⟩, rfl⟩,
    ⟨by decide, by decide⟩, ⟨by decide, by decide⟩, (nomatch ·), fun _ => ⟨rfl, rfl⟩, ?_, ?_, rfl, _,
    rfl⟩
  · intro f h; simp [flying, atRest, State.reset] at h
  · intro f h
    obtain rfl : Outbound.reply replyR = f := by simpa [busy] using h
    decide
  · intro r h
    obtain rfl : faultOf .servoLoss 255 = r := by simpa using h
    decide
  · intro r h; simp [State.reset] at h

/-- A RELEASED cartridge with LATCH asserted, its eject in the slot. -/
def releasing : State :=
  { atRest with
    cart := { atRest.cart with
      state := .released, latch := true, origin := some .ready
      eject := some { button := false, force := false, stage := .leaveOrJam, window := some 2000000 } }
    cu := { atRest.cu with slot := { Slot.free with item := .command (entry Code.eject [0#8]), work := .eject }
                           accepted := 1 } }

/-- A cartridge in STANDBY, the spindle BRAKING. -/
def standing : State :=
  { mech .braking .parked atRest with rest := { atRest.rest with state := .standby, timer := some 1 } }

theorem test_RestLawKept_met :
    NoMail standing ∧ ContextLaw standing ∧ RestLaw standing ∧ (∃ t, step standing = .next t)
    ∧ ContextLaw (reading 1) ∧ ∃ t, step (reading 1) = .next t := by
  refine ⟨rfl, ⟨fun _ => rfl, (nomatch ·), ?_, ?_, ?_, ?_, (nomatch ·), by decide⟩,
    ⟨fun _ => by decide, (nomatch ·), by decide, (nomatch ·), fun _ _ => rfl⟩, ⟨_, rfl⟩,
    ⟨(nomatch ·), ?_, ?_, fun _ => rfl, ?_, ?_, (nomatch ·), by decide⟩, _, rfl⟩ <;>
  intro h <;> exact absurd rfl h

theorem test_LatchLawKept_met :
    ContextLaw releasing ∧ LatchLaw releasing ∧ releasing.cart.latch = true
    ∧ ∃ t, step (front .seatedFalling releasing) = .next t := by
  refine ⟨⟨(nomatch ·), ?_, ?_, ?_, ?_, ?_, fun _ => ⟨rfl, _, rfl, rfl⟩, by decide⟩,
    fun _ => ⟨rfl, rfl, rfl, by decide, rfl, _, rfl, rfl⟩, rfl, _, rfl⟩ <;>
  intro h <;> exact absurd rfl h

theorem test_FaultAndWriteProtectGuard_met :
    (let s := front .parkRises (faulty .servoLoss atRest)
     s.pos.state = .parked ∧ class13Held s = true ∧ (∀ l rest, s.pending ≠ .hardReset l :: rest)
      ∧ ∃ t, step s = .next t ∧ class13Held t = true)
    ∧ (protect atRest).cart.wp = true ∧ (protect atRest).chan.wgate = false
    ∧ ∃ t, step (protect atRest) = .next t := by
  refine ⟨⟨rfl, rfl, ?_, _, rfl, rfl⟩, rfl, rfl, _, rfl⟩
  intro l rest h
  simp [front] at h

theorem test_FaultRecordKept_met :
    let s := front .indexLoss { flying with
      fault := { flying.fault with slot := some (faultOf .dataCheck 1) } }
    FaultLaw s ∧ s.fault.slot = some (faultOf .dataCheck 1)
    ∧ (∀ c rest, s.pending = c :: rest → mayEmptyFaultSlot c = false) ∧ ∃ t, step s = .next t := by
  refine ⟨?_, rfl, ?_, _, rfl⟩
  · intro r h
    obtain rfl : faultOf .dataCheck 1 = r := by simpa [front] using h
    decide
  · intro c rest h
    simp only [front, List.cons.injEq] at h
    obtain ⟨rfl, _⟩ := h
    rfl

/-- One state for each branch of the velocity, each with |r| one above the limit of 512, and one whose
seek goes on where the head is. -/
theorem test_CoarseSeekCurrent_met :
    let load : State := mech .atSpeed .loading { flying with pos := { flying.pos with xp := none } }
    let coast : State := mech .atSpeed .coasting
      { flying with pos := { flying.pos with remembered := .seeking } }
    let seek : State := mech .atSpeed .seeking { flying with pos := { flying.pos with seekCount := 398 } }
    let tgt : Target := { cyl := 160, offset := 0 }
    (flying.cart.type = some .a)
    ∧ (load.pos.landHere = false ∧ load.pos.target = some tgt ∧ load.pos.state = .loading
        ∧ load.pos.xp = none ∧ load.pos.seekCount + 1 < 400
        ∧ (512 : Int) < |256 * 160 + 0 - (256 * 158 + (-1))|)
    ∧ (coast.pos.state = .coasting ∧ coast.pos.remembered = .seeking ∧ coast.pos.seekCount + 1 < 400
        ∧ (512 : Int) < |256 * 160 + 0 - (256 * 162 + 1)|)
    ∧ (seek.pos.state = .seeking ∧ seek.pos.xp = some 40960 ∧ seek.pos.seekCount + 1 = 399)
    ∧ (let s := { load with pos := { load.pos with landHere := true } }
       (if s.pos.landHere then some ({ cyl := 158, offset := 0 } : Target) else s.pos.target)
          = some { cyl := 158, offset := 0 }
        ∧ (512 : Int) < |256 * 158 + 0 - (256 * 158 + 513)|) := by
  decide

theorem test_FineSeekCurrent_met :
    let coast (p : PosState) : State := mech .atSpeed .coasting
      { flying with pos := { flying.pos with remembered := p } }
    (flying.pos.landHere = false ∧ flying.pos.target = some { cyl := 160, offset := 0 }
        ∧ flying.pos.state = .following ∧ flying.pos.xp = some 40960)
    ∧ ((coast .following).pos.state = .coasting ∧ (coast .following).pos.remembered = .following)
    ∧ ((coast .settling).pos.remembered = .settling ∧ (coast .settling).pos.seekCount + 1 < 400
        ∧ |(256 * 160 + 0 - (256 * 158 + 0) : Int)| ≤ 512)
    ∧ (let s := mech .atSpeed .settling { flying with pos := { flying.pos with restartUsed := false
                                                                               seekCount := 399 } }
       s.pos.state = .settling ∧ s.pos.restartUsed = false ∧ s.pos.xp = some 40960
        ∧ |(256 * 160 + 0 - (256 * 161 + 256) : Int)| ≤ 512)
    ∧ (let s := mech .atSpeed .loading { flying with pos := { flying.pos with xp := none } }
       s.pos.state = .loading ∧ s.pos.xp = none ∧ s.pos.seekCount + 1 < 400) := by
  decide

/-- The spindle in this state, with the gap of an index about to come and this count of arrivals in the
lock window. -/
def turning (st : SpindleState) (gap inCount : Nat) : State :=
  { atRest with spin := { atRest.spin with state := st, gap, inCount, drive := 200 } }

theorem test_IndexArrivalActs_met :
    Quiet (turning .accel 25500 0)
    ∧ ((turning .accel 25500 0).spin.state = .accel ∧ min 25500 1000000 ≤ 25500)
    ∧ (25500 < min (turning .accel 25501 0).spin.gap 1000000)
    ∧ (turning .kick 1000000 0).spin.state = .kick ∧ (turning .braking 30000 0).spin.state = .braking
    ∧ (turning .stopped 30000 0).spin.state = .stopped
    ∧ (turning .coasting 30000 0).spin.state = .coasting
    ∧ (let s := turning .regulate 25125 3
       s.spin.state = .regulate ∧ (24875 ≤ min s.spin.gap 1000000 ∧ min s.spin.gap 1000000 ≤ 25125)
        ∧ 4 ≤ s.spin.inCount + 1)
    ∧ (let s := turning .regulate 24875 2
       (24875 ≤ min s.spin.gap 1000000 ∧ min s.spin.gap 1000000 ≤ 25125) ∧ s.spin.inCount + 1 < 4)
    ∧ (let s := turning .regulate 24874 3
       s.spin.state = .regulate
        ∧ ¬ (24875 ≤ min s.spin.gap 1000000 ∧ min s.spin.gap 1000000 ≤ 25125))
    ∧ (let s := turning .atSpeed 25250 0
       s.spin.state = .atSpeed ∧ s.spin.deviating = false
        ∧ ¬ (min s.spin.gap 1000000 < 24750 ∨ 25250 < min s.spin.gap 1000000))
    ∧ (let s := turning .atSpeed 25251 0
       (min s.spin.gap 1000000 < 24750 ∨ 25250 < min s.spin.gap 1000000) ∧ s.spin.outCount + 1 < 2)
    ∧ (let s := { turning .atSpeed 24749 0 with
          spin := { (turning .atSpeed 24749 0).spin with outCount := 1 } }
       s.spin.state = .atSpeed ∧ s.spin.deviating = false
        ∧ (min s.spin.gap 1000000 < 24750 ∨ 25250 < min s.spin.gap 1000000)
        ∧ 2 ≤ s.spin.outCount + 1 ∧ s.chan.wgate = false)
    ∧ (let s := { writingState with spin := { writingState.spin with gap := 25251, outCount := 1 } }
       s.spin.state = .atSpeed ∧ s.spin.deviating = false ∧ 25250 < min s.spin.gap 1000000
        ∧ 2 ≤ s.spin.outCount + 1 ∧ s.chan.wgate = true)
    ∧ (let dev (gap n : Nat) : State := { turning .atSpeed gap n with
          spin := { (turning .atSpeed gap n).spin with deviating := true } }
       ((dev 25126 3).spin.deviating = true ∧ 25125 < min (dev 25126 3).spin.gap 1000000)
        ∧ (24875 ≤ min (dev 24875 2).spin.gap 1000000 ∧ (dev 24875 2).spin.inCount + 1 < 4)
        ∧ (min (dev 25125 3).spin.gap 1000000 ≤ 25125 ∧ 4 ≤ (dev 25125 3).spin.inCount + 1))
    ∧ (turning .accel 25500 0).pins.rst = false := by
  decide

theorem test_DeviationRecovers_met :
    let dev (gap n : Nat) : State :=
      { flying with spin := { flying.spin with deviating := true, gap, inCount := n } }
    (dev 25125 2).spin.state = .atSpeed ∧ (dev 25125 2).spin.deviating = true
    ∧ (24875 ≤ min (dev 25125 2).spin.gap 1000000 ∧ min (dev 25125 2).spin.gap 1000000 ≤ 25125
        ∧ (dev 25125 2).spin.inCount + 1 < 4)
    ∧ (24875 ≤ min (dev 24875 3).spin.gap 1000000 ∧ 4 ≤ (dev 24875 3).spin.inCount + 1)
    ∧ (25125 < min (dev 25126 3).spin.gap 1000000) := by
  decide

theorem test_ReassignmentMovesOneOffset_met :
    let z : Zone := { spares := 7#32, list := [{ offset := 576, spare := 2 }] }
    let full : Zone := { z with spares := 255#32 }
    spareScan .a full = CartType.a.spareWidth
    ∧ (spareScan .a z < CartType.a.spareWidth ∧ rising z.list = true ∧ 2 < spareScan .a z)
    ∧ spareScan .b { spares := 0x7FFFFFFF#32, list := [] } = 31
    ∧ (631 < CartType.a.userSlots ∧ z.consistent .a = true
        ∧ ∃ k z', reassignZone false .a 631 z = .moved k z') := by
  refine ⟨by decide, ⟨by decide, by decide, by decide⟩, by decide, by decide, by decide, _, _, rfl⟩

theorem test_TranslationIsInjective_met :
    (∀ z ∈ (emptyZones .a).set 7 { spares := 7#32, list := [{ offset := 576, spare := 2 }] },
      z.consistent .a = true)
    ∧ 10111 < CartType.a.capacity ∧ 5000 < CartType.a.capacity
    ∧ (translate .a (emptyZones .a) 5000).1 = (translate .a (emptyZones .a) (7 * 632 + 576)).1 := by
  decide

/-- A copy of a record of generation g. -/
def copyOf (g : BitVec 16) : RecordCopy := { session := { sessionA with generation := g }, inProgress := false }

theorem test_ChoiceOfCopy_met :
    (100 + 65536 - 32868) % 65536 = 32768 ∧ flying.record.session = .full sessionA
    ∧ newer (copyOf 57#16).session.generation (copyOf 56#16).session.generation = true
    ∧ (newer (copyOf 32868#16).session.generation (copyOf 100#16).session.generation = false
        ∧ (copyOf 100#16).session.generation ≠ (copyOf 32868#16).session.generation)
    ∧ (copyOf 57#16).session.generation = (copyOf 57#16).session.generation
    ∧ ∃ i c st, chooseCopy (some (copyOf 56#16)) (some (copyOf 57#16)) = some (i, c, st) :=
  ⟨by decide, rfl, by decide, by decide, rfl, _, _, _, rfl⟩

theorem test_FaultSlotTakesRecord_met :
    atRest.fault.slot = none
    ∧ ((faulty .dataCheck atRest).fault.slot = some (faultOf .dataCheck 1)
        ∧ FaultClass.speedDeviation.priority < (faultOf .dataCheck 1).cls.priority)
    ∧ (faultOf .stallSpinUp 1).cls.priority ≤ FaultClass.stallBrake.priority
    ∧ (faultOf .stallSpinUp 1).cls.priority = (faultOf .stallBrake 1).cls.priority
    ∧ (faultOf .servoLoss 1).cls.priority ≠ (faultOf .stallBrake 1).cls.priority := by
  decide

theorem test_RecordReadsBack_met :
    (emptyZones .b).length = CartType.b.zoneCount
    ∧ (∀ z ∈ (emptyZones .b).set 20 { spares := 0x80000000#32, list := [{ offset := 607, spare := 31 }] },
        z.consistent .b = true ∧ z.spares.toNat < 2 ^ CartType.b.spareWidth) := by
  decide

/-- A drive that can receive a command frame, in its last free outbox place. -/
def seven : State := { atRest with cu := { atRest.cu with resets := List.replicate 7 1#8 } }

theorem test_BytesMakeFrames_met :
    (2 ≤ [0x30#8, 1#8].length ∧ (List.replicate 14 0x30#8).length ≤ 14 ∧ seven.pins.rst = false
      ∧ seven.link.assembly = .idle ∧ seven.link.send = none ∧ placesUsed seven < 8)
    ∧ (List.replicate 512 0#8).length = 512 := by
  exact ⟨by decide, List.length_replicate⟩

/-- A FORMAT of the drive, in this phase and step. -/
def formatOf (ph : FormatPhase) (st : FormatStep) (waits : List (Nat × Nat)) : Format :=
  { serial := 1#32, lock := false, verify := true, type := .a, phase := ph, cylinder := 1, zones := []
    retired := 0, reassigned := 0, exhausted := none, abortPending := false, step := st, head := 0
    seen := [], zone := 0, index := 0, userPart := false, waits, torn := none }

/-- The drive formats. -/
def formatting (ph : FormatPhase) (st : FormatStep) (waits : List (Nat × Nat)) : State :=
  { inSlot Code.format [0#8, 0#8, 0#8, 1#8, 0#8, 1#8] .format flying with
    fmt := some (formatOf ph st waits) }

theorem test_CommandFrameTaken_met :
    Receives seven
    ∧ (paramLength Code.eject = some [0#8].length ∧ Code.eject.toNat < 0x30 ∧ seven.cu.queue.length < 4)
    ∧ (paramLength 0x1E#8 = none ∧ (List.replicate 12 0#8).length ≤ 12)
    ∧ (paramLength Code.seek = some 2 ∧ 2 ≠ [0#8].length)
    ∧ Receives { crowded with cu := { crowded.cu with resets := List.replicate 7 1#8 } }
    ∧ 4 ≤ crowded.cu.queue.length
    ∧ [0#8].length < 2 ∧ 14 < (List.replicate 15 0#8).length := by
  decide

/-- A WRITE awaits the frame of its first block. -/
def asking (ph : DataPhase) : State :=
  let s := inSlot Code.write [0#8, 0#8, 0x13#8, 0x88#8, 2#8] .data flying
  { s with chan := { s.chan with
      transfer := some (transferOf .write ph), slot0 := .awaiting 0, slot1 := .awaiting 1
      outstanding := [{ idx := 0, timer := some 2000000 }] } }

/-- The receive assembly stands so. -/
def assembling (a : Assembly) (s : State) : State := { s with link := { s.link with assembly := a } }

theorem test_DataFramesAndErrorsTaken_met :
    ((asking .target).pins.rst = false ∧ (asking .target).link.send = none
      ∧ (asking .target).link.assembly ≠ .discard
      ∧ (asking .target).chan.outstanding = [{ idx := 0, timer := some 2000000 }]
      ∧ (asking .target).chan.transfer = some (transferOf .write .target)
      ∧ (transferOf .write .target).phase ≠ .save ∧ (transferOf .write .target).phase ≠ .drain)
    ∧ ((asking .drain).chan.outstanding = [{ idx := 0, timer := some 2000000 }]
        ∧ ∀ t, (asking .drain).chan.transfer = some t → t.phase = .save ∨ t.phase = .drain)
    ∧ (atRest.chan.outstanding = [] ∧ atRest.link.send = none ∧ atRest.link.assembly ≠ .discard)
    ∧ (List.replicate 512 0#8).length = 512 ∧ (List.replicate 511 0#8).length ≠ 512
    ∧ ((assembling .discard atRest).link.assembly = .discard
        ∧ (assembling .discard atRest).link.send = none)
    ∧ busy.link.send.isSome = true
    ∧ midFrame (assembling (.kind .command) atRest) = true ∧ midFrame atRest = false := by
  refine ⟨by decide, ⟨rfl, ?_⟩, by decide, List.length_replicate, ?_, by decide⟩
  · intro t h
    obtain rfl : transferOf .write .drain = t := by simpa [asking] using h
    exact .inr rfl
  · rw [List.length_replicate]; decide

/-- A READ's block stands ready in the buffer. -/
def readyState : State :=
  let s := reading 1
  { s with chan := { s.chan with slot0 := .holding 0 [1#8], readyTimer := some 2000000 } }

theorem test_BusGrantSends_met :
    busy.link.send.isSome = true
    ∧ (let s := { busy with link := { busy.link with send := none } }
       s.link.send = none ∧ s.link.outbox = replyR :: [])
    ∧ (let s := { (asking .target) with link := { (asking .target).link with line := [(7#8, 1)] } }
       s.link.send = none ∧ s.link.outbox = [] ∧ s.link.line = (7#8, 1) :: [])
    ∧ (readyState.link.send = none ∧ readyState.link.outbox = [] ∧ readyState.link.line = []
        ∧ readyFrame readyState = some (0, [1#8]))
    ∧ (atRest.link.send = none ∧ req atRest = false)
    ∧ midFrame (assembling (.length .command 0#8) atRest) = true := by
  decide

theorem test_FramesLeave_met :
    atRest.link.send = none ∧ busy.link.send = some (.reply replyR)
    ∧ (let s := { (asking .target) with
          link := { (asking .target).link with line := [(7#8, 1)], send := some (.request 7#8 1) } }
       s.link.send = some (.request 7#8 1) ∧ s.link.line = (7#8, 1) :: [])
    ∧ (let s := { atRest with link := { atRest.link with send := some (.request 7#8 1) } }
       s.link.send = some (.request 7#8 1) ∧ s.link.line.head? ≠ some (7#8, 1))
    ∧ (let s := { readyState with link := { readyState.link with send := some (.data 0 [1#8]) } }
       s.link.send = some (.data 0 [1#8]) ∧ s.chan.transfer = some (transferOf .read .sector))
    ∧ (let s := { atRest with link := { atRest.link with send := some (.withdrawn 7#8 1) } }
       s.link.send = some (.withdrawn 7#8 1))
    ∧ (let s := { atRest with link := { atRest.link with send := some (.data 0 [1#8]) } }
       s.link.send = some (.data 0 [1#8]) ∧ s.chan.transfer = none)
    ∧ readyState.pins.rst = false := by
  decide

theorem test_OutputsFollow_met :
    let resetting : State := { busy with pins := { busy.pins with rst := true } }
    (busy.pins.rst = false ∧ busy.link.send = some (.reply replyR)
      ∧ (Outbound.reply replyR).bytes[busy.link.acked]? = some 0xA8#8)
    ∧ (let s := { busy with link := { busy.link with acked := 5 } }
       (Outbound.reply replyR).bytes[s.link.acked]? = some 0#8
        ∧ ¬ s.link.acked + 1 < (Outbound.reply replyR).bytes.length)
    ∧ RangeLaw busy ∧ (resetting.pins.rst = true ∧ resetting.pending = [])
    ∧ (∀ l, Instr.busGrant ≠ .hardReset l) ∧ (List.replicate 512 0#8).length = 512
    ∧ SpindleState.coasting.phase = .float ∧ SpindleState.braking.phase = .short := by
  refine ⟨by decide, by decide, ⟨?_, (nomatch ·), by decide⟩, by decide, nofun,
    List.length_replicate, by decide⟩
  intro f h
  obtain rfl : Outbound.reply replyR = f := by simpa [busy] using h
  decide

/-- A command kind byte waits for a place. -/
def kindWaits (s : State) : State := { s with link := { s.link with kindWaiting := true } }

/-- A reply waits for a place. -/
def replyWaits (s : State) : State :=
  { s with cu := { s.cu with slot := { s.cu.slot with work := .replying replyR } } }

theorem test_PlacesTaken_met :
    ((kindWaits seven).link.kindWaiting = true ∧ placesUsed (kindWaits seven) < 8)
    ∧ (seven.link.kindWaiting = false ∧ 8 ≤ placesUsed (kindWaits (fullOutbox atRest)))
    ∧ ((replyWaits seven).cu.slot.work = .replying replyR ∧ placesUsed (replyWaits seven) < 8)
    ∧ ((replyWaits (fullOutbox atRest)).cu.slot.work = .replying replyR
        ∧ 8 ≤ placesUsed (replyWaits (fullOutbox atRest)))
    ∧ ((fullOutbox atRest).link.send = none ∧ (fullOutbox atRest).link.assembly ≠ .discard
        ∧ (fullOutbox atRest).link.heldFrame = false ∧ 8 ≤ placesUsed (fullOutbox atRest))
    ∧ (∀ r, atRest.cu.slot.work ≠ .replying r) ∧ seven.pins.rst = false := by
  refine ⟨by decide, by decide, by decide, by decide, by decide, ?_, rfl⟩
  intro r h; simp [atRest, State.reset, Slot.free] at h

theorem test_ByteTaken_met :
    busy.link.send.isSome = true
    ∧ (seven.link.send = none ∧ seven.link.assembly = .idle ∧ placesUsed seven < 8)
    ∧ ((fullOutbox atRest).link.assembly = .idle ∧ 8 ≤ placesUsed (fullOutbox atRest))
    ∧ (assembling .discard atRest).link.assembly = .discard
    ∧ (0xA8#8 ≠ 0xA1#8 ∧ 0xA8#8 ≠ 0xA4#8)
    ∧ (assembling (.kind .data) atRest).link.assembly = .kind .data
    ∧ (assembling (.length .command 0#8) atRest).link.assembly = .length .command 0#8
    ∧ lengthFits .command ((0#8).toNat * 256 + (14#8).toNat) = true
    ∧ lengthFits .command ((0#8).toNat * 256 + (15#8).toNat) = false
    ∧ lengthFits .data ((2#8).toNat * 256 + (0#8).toNat) = true
    ∧ ((assembling (.body .command 2 []) atRest).link.assembly = .body .command 2 []
        ∧ ([] : List Byte).length + 1 < 2) := by
  decide

theorem test_ImmediateCommandsAnswered_met :
    Receives seven ∧ State.reset.cart.state = .empty ∧ Receives State.reset ∧ seven.cart.state ≠ .empty
    ∧ 0x0400#16 &&& 0xFC00#16 ≠ 0#16
    ∧ (0x03DF#16 &&& 0xFC00#16 = 0#16 ∧ (0x03DF#16).getLsbD 5 = false)
    ∧ ((0x0020#16).getLsbD 5 = true ∧ seven.fault.warning = false)
    ∧ (let s := { seven with fault := { seven.fault with warning := true } }
       Receives s ∧ s.fault.warning = true ∧ s.fault.holder = none) := by
  decide

theorem test_AbortAndResetTell_met :
    Receives seven ∧ abortReaches seven = false ∧ Receives (reading 1) ∧ abortReaches (reading 1) = true := by
  decide

theorem test_GatesRefuse_met :
    (Waiting Code.seek (entry Code.seek [0#8, 1#8])
        (withHead Code.seek [0#8, 1#8] (inCart .blank atRest)))
    ∧ Waiting Code.read (entry Code.read [0#8, 0#8, 0#8, 0#8, 1#8])
        (withHead Code.read [0#8, 0#8, 0#8, 0#8, 1#8] (inCart .blank atRest))
    ∧ dataGate (withHead Code.read [] (inCart .blank atRest)).cart.state = some .unformatted
    ∧ Waiting Code.spinUp (entry Code.spinUp [1#8]) (withHead Code.spinUp [1#8] (faulty .servoLoss atRest))
    ∧ spinUpGate true atRest.cart.state = none ∧ class13Held (faulty .servoLoss atRest) = true
    ∧ RefusedReason.recordDamaged ≠ .typeUnknown := by
  and_intros <;> decide

theorem test_SpinUpBegins_met :
    let e0 := entry Code.spinUp [0#8]
    let e1 := entry Code.spinUp [1#8]
    let h0 := withHead Code.spinUp [0#8]
    let h1 := withHead Code.spinUp [1#8]
    (Waiting Code.spinUp e0 (h0 (inCart .present atRest))
      ∧ spinUpGate (byteAt e0.params 0 % 2 == 1) (inCart .present atRest).cart.state = none
      ∧ class13Held (h0 (inCart .present atRest)) = false
      ∧ atRest.spin.state = .stopped ∧ atRest.pos.state = .parked)
    ∧ (Waiting Code.spinUp e0 (h0 flying) ∧ flying.cart.state ≠ .present
        ∧ byteAt e0.params 0 % 2 = 0 ∧ flying.spin.state = .atSpeed)
    ∧ (Waiting Code.spinUp e0 (h0 atRest) ∧ atRest.spin.state ≠ .atSpeed)
    ∧ (Waiting Code.spinUp e1 (h1 atRest) ∧ byteAt e1.params 0 % 2 = 1 ∧ atRest.record.unsaved = false)
    ∧ (Waiting Code.spinUp e1 (h1 flying) ∧ flying.record.unsaved = false)
    ∧ (Waiting Code.spinUp e1 (h1 (unsaved flying)) ∧ (unsaved flying).record.unsaved = true) := by
  dsimp only
  and_intros <;> decide

theorem test_SeekBegins_met :
    (Waiting Code.seek (entry Code.seek [1#8, 0x41#8]) (withHead Code.seek [1#8, 0x41#8] atRest)
      ∧ seekGate atRest.cart.state = none ∧ class13Held atRest = false ∧ atRest.cart.type = some .a
      ∧ CartType.a.lastCylinder < word16At [1#8, 0x41#8] 0)
    ∧ (Waiting Code.seek (entry Code.seek [1#8, 0x40#8]) (withHead Code.seek [1#8, 0x40#8] atRest)
        ∧ word16At [1#8, 0x40#8] 0 ≤ CartType.a.lastCylinder ∧ atRest.spin.state ≠ .atSpeed)
    ∧ (Waiting Code.seek (entry Code.seek [0#8, 0#8])
          (withHead Code.seek [0#8, 0#8] (mech .atSpeed .parked atRest))
        ∧ (mech .atSpeed .parked atRest).spin.state = .atSpeed)
    ∧ (Waiting Code.seek (entry Code.seek [0#8, 160#8]) (withHead Code.seek [0#8, 160#8] flying)
        ∧ flying.pos.state = .following
        ∧ flying.pos.target = some { cyl := word16At [0#8, 160#8] 0, offset := 0 }) := by
  and_intros <;> decide

theorem test_SeekBegins_met_requests :
    let e := entry Code.seek [0#8, 7#8]
    let waits (p : PosState) : State := mech .atSpeed p (withHead Code.seek [0#8, 7#8] flying)
    let asked (p : PosState) (q : Option Requester) (h : Option (Target × Option Requester)) : State :=
      { waits p with pos := { (waits p).pos with requester := q, held := h } }
    let t : Target := { cyl := 7, offset := 0 }
    (∀ p ∈ [PosState.loading, .seeking, .settling, .following, .coasting, .retracting, .emergency],
      Waiting 0x12#8 e (waits p) ∧ seekGate (waits p).cart.state = none ∧ class13Held (waits p) = false
      ∧ (waits p).cart.type = some .a ∧ word16At e.params 0 ≤ CartType.a.lastCylinder
      ∧ (waits p).spin.state = .atSpeed ∧ (waits p).pos.state ≠ .parked
      ∧ (waits p).pos.target = some { cyl := 160, offset := 0 } ∧ (waits p).pos.target ≠ some t
      ∧ ∀ q ∈ [none, some Requester.channel, some .seek],
          (asked p q none).mail = Mail.none ∧ (asked p q (some (t, q))).mail = Mail.none)
    ∧ (Loadable (waits .parked) ∧ (mech .kick .parked flying).spin.state ≠ .atSpeed
        ∧ class13Held (faulty .stallBrake (waits .parked)) = true
        ∧ ({ waits .parked with cart := { (waits .parked).cart with type := none } } : State).cart.type = none)
    ∧ (reading 1).chan.op = some (.read { cyl := 160, head := 0, sector := 15 }) := by
  dsimp only
  and_intros <;> decide

theorem test_DataCommandsBegin_met :
    let p (n : Byte) : List Byte := [0#8, 0#8, 0x27#8, 0x7F#8, n]
    (Waiting Code.verify (entry Code.verify (p 0#8)) (withHead Code.verify (p 0#8) atRest)
      ∧ atRest.cart.state = .ready ∧ class13Held atRest = false ∧ fullSession atRest = some sessionA
      ∧ byteAt (p 0#8) 4 = 0)
    ∧ (byteAt (p 2#8) 4 ≠ 0 ∧ sessionA.type.capacity < word32At (p 2#8) 0 + min (byteAt (p 2#8) 4) 16)
    ∧ (Waiting Code.write (entry Code.write (p 1#8)) (withHead Code.write (p 1#8) (protect atRest))
        ∧ word32At (p 1#8) 0 + min (byteAt (p 1#8) 4) 16 ≤ sessionA.type.capacity
        ∧ (protect atRest).cart.wp = true)
    ∧ (Waiting Code.read (entry Code.read (p 1#8)) (withHead Code.read (p 1#8) atRest)
        ∧ atRest.spin.state ≠ .atSpeed ∧ DataCommand.read ≠ .write)
    ∧ (Waiting Code.write (entry Code.write (p 1#8)) (withHead Code.write (p 1#8) atRest)
        ∧ atRest.cart.wp = false)
    ∧ (Waiting Code.write (entry Code.write (p 1#8)) (withHead Code.write (p 1#8) flying)
        ∧ flying.spin.state = .atSpeed) := by
  dsimp only
  and_intros <;> decide

theorem test_ReassignBegins_met :
    let p : List Byte := [0#8, 0#8, 0x27#8, 0x7F#8]
    let worn : State := { atRest with record := { atRest.record with session := .full { sessionA with
      zones := List.replicate 16 { spares := 255#32, list := [] } } } }
    (Waiting Code.reassign (entry Code.reassign [0#8, 0#8, 0x27#8, 0x80#8])
        (withHead Code.reassign [0#8, 0#8, 0x27#8, 0x80#8] atRest)
      ∧ sessionA.type.capacity ≤ word32At [0#8, 0#8, 0x27#8, 0x80#8] 0)
    ∧ (Waiting Code.reassign (entry Code.reassign p) (withHead Code.reassign p (protect atRest))
        ∧ word32At p 0 < sessionA.type.capacity ∧ (protect atRest).cart.wp = true)
    ∧ (Waiting Code.reassign (entry Code.reassign p) (withHead Code.reassign p worn)
        ∧ ∃ r, fullSession worn = some r
            ∧ spareScan r.type (zoneAt r.zones (word32At p 0 / r.type.userSlots)) = r.type.spareWidth)
    ∧ (Waiting Code.reassign (entry Code.reassign p) (withHead Code.reassign p atRest)
        ∧ atRest.cart.wp = false ∧ atRest.spin.state ≠ .atSpeed
        ∧ spareScan .a (zoneAt sessionA.zones (word32At p 0 / CartType.a.userSlots)) ≠ CartType.a.spareWidth)
    ∧ (Waiting Code.reassign (entry Code.reassign p) (withHead Code.reassign p flying)
        ∧ flying.spin.state = .atSpeed) := by
  refine ⟨by decide, by decide, ⟨by decide, _, rfl, by decide⟩, by decide, by decide⟩

theorem test_FormatBegins_met :
    let p (l v : Byte) : List Byte := [0#8, 0#8, 0#8, 1#8, l, v]
    let w (l v : Byte) (s : State) : Prop :=
      Waiting Code.format (entry Code.format (p l v)) (withHead Code.format (p l v) s)
    let locked : State := { atRest with
      record := { atRest.record with session := .full { sessionA with lock := true } } }
    w 0#8 0#8 (inCart .present atRest) ∧ w 0#8 0#8 (inCart (.refused .typeConflict) atRest)
    ∧ (w 0#8 0#8 (faulty .servoLoss (inCart .blank atRest)) ∧ class13Held (faulty .servoLoss atRest) = true)
    ∧ (w 2#8 1#8 atRest ∧ ¬ (byteAt (p 2#8 1#8) 4 ≤ 1 ∧ byteAt (p 2#8 1#8) 5 ≤ 1))
    ∧ (w 1#8 1#8 (protect atRest) ∧ (protect atRest).cart.wp = true
        ∧ byteAt (p 1#8 1#8) 4 ≤ 1 ∧ byteAt (p 1#8 1#8) 5 ≤ 1)
    ∧ (w 1#8 1#8 locked ∧ locked.cart.state = .ready ∧ ∃ r, fullSession locked = some r ∧ r.lock = true)
    ∧ (w 1#8 1#8 (inCart (.refused .recordDamaged) atRest) ∧ atRest.spin.state ≠ .atSpeed)
    ∧ (w 1#8 1#8 flying ∧ flying.spin.state = .atSpeed
        ∧ ¬ (flying.cart.state = .ready ∧ ∃ r, fullSession flying = some r ∧ r.lock = true)) := by
  refine ⟨by decide, by decide, by decide, by decide, by decide, ⟨by decide, rfl, _, rfl, rfl⟩,
    by decide, by decide, rfl, ?_⟩
  rintro ⟨-, r, h, hl⟩
  obtain rfl : sessionA = r := by simpa [fullSession, flying, atRest] using h
  simp [sessionA] at hl

theorem test_RestAndSpinDownBegin_met :
    let p (st m w : Byte) : List Byte := [st, m, w]
    let w (st m wk : Byte) (s : State) : Prop :=
      Waiting Code.rest (entry Code.rest (p st m wk)) (withHead Code.rest (p st m wk) s)
    (w 0#8 0#8 0#8 (inCart .present atRest)
      ∧ ¬ ((inCart .present atRest).cart.state = .ready ∨ (inCart .present atRest).cart.state = .blank))
    ∧ (w 2#8 0#8 0#8 atRest ∧ ¬ (byteAt (p 2#8 0#8 0#8) 0 ≤ 1 ∧ byteAt (p 2#8 0#8 0#8) 2 ≤ 1))
    ∧ (w 1#8 255#8 1#8 (unsaved atRest) ∧ (unsaved atRest).record.unsaved = true)
    ∧ (w 0#8 1#8 1#8 flying ∧ flying.record.unsaved = false)
    ∧ (w 0#8 0#8 1#8 atRest ∧ atRest.pos.state = .parked ∧ ¬ byteAt (p 0#8 0#8 1#8) 0 = 1)
    ∧ (w 1#8 255#8 1#8 atRest ∧ byteAt (p 1#8 255#8 1#8) 0 = 1 ∧ atRest.spin.state = .stopped)
    ∧ (let d (s : State) : Prop :=
         Waiting Code.spinDown (entry Code.spinDown []) (withHead Code.spinDown [] s)
       (d State.reset ∧ State.reset.cart.state = .empty)
    ∧ (d flying ∧ flying.record.unsaved = false)
    ∧ (d (faulty .servoLoss (unsaved atRest)) ∧ class13Held (faulty .servoLoss (unsaved atRest)) = true
        ∧ (faulty .servoLoss (unsaved atRest)).record.unsaved = true)
    ∧ (d (unsaved flying) ∧ class13Held (unsaved flying) = false ∧ flying.spin.state = .atSpeed)
    ∧ (d (unsaved atRest) ∧ atRest.spin.state ≠ .atSpeed)
    ∧ (d atRest ∧ atRest.pos.state = .parked ∧ atRest.spin.state = .stopped)) := by
  dsimp only
  and_intros <;> decide

theorem test_EjectReleases_met :
    let w (s : State) : Prop := Waiting Code.eject (entry Code.eject [1#8]) (withHead Code.eject [1#8] s)
    (w State.reset ∧ State.reset.cart.state = .empty) ∧ (w flying ∧ flying.cart.state ≠ .empty)
    ∧ (w atRest ∧ atRest.record.unsaved = false ∧ atRest.pos.state = .parked
        ∧ atRest.spin.state = .stopped ∧ atRest.spin.brakeFailed = false ∧ atRest.pins.seated = true)
    ∧ (let s := { atRest with pins := { atRest.pins with seated := false } }
       w s ∧ s.pins.seated = false) := by
  dsimp only
  and_intros <;> decide

/-- A SAVE SETTINGS waits for its read-back. -/
def saving (s : State) : State :=
  let u := inSlot Code.saveSettings [] .saving s
  { u with set := { u.set with saving := some (userAreaOf u.set.active) } }

theorem test_TablesAndSettingsAnswered_met :
    let w (n z k : Byte) (s : State) : Prop := Waiting Code.readTable
      (entry Code.readTable [n, z, k]) (withHead Code.readTable [n, z, k] s)
    (w 5#8 0#8 0#8 atRest ∧ 4 < byteAt [5#8] 0) ∧ w 3#8 0#8 0#8 State.reset ∧ w 4#8 0#8 0#8 State.reset
    ∧ w 0#8 0#8 0#8 (inCart .blank atRest) ∧ w 0#8 0#8 0#8 (inCart (.refused .recordDamaged) atRest)
    ∧ w 0#8 0#8 0#8 (inCart .present atRest) ∧ w 2#8 0#8 0#8 (inCart .blank atRest)
    ∧ (w 0#8 0#8 0#8 moved ∧ moved.cart.state = .ready ∧ (fullSession moved).isSome = true)
    ∧ (w 1#8 15#8 0#8 moved ∧ byteAt [1#8, 15#8] 1 = 15) ∧ w 2#8 16#8 0#8 moved
    ∧ (∃ r, fullSession moved = some r ∧ (zoneAt r.zones 7).list.length = 1
        ∧ w 2#8 7#8 1#8 moved ∧ w 2#8 7#8 2#8 moved)
    ∧ Waiting Code.loadDefaults (entry Code.loadDefaults []) (withHead Code.loadDefaults [] State.reset)
    ∧ (Waiting Code.setParameter (entry Code.setParameter [1#8, 20#8])
          (withHead Code.setParameter [1#8, 20#8] atRest)
        ∧ byteAt [1#8, 20#8] 0 = 1 ∧ byteAt [2#8, 0#8] 0 = 2 ∧ byteAt [3#8, 0#8] 0 = 3
        ∧ byteAt [4#8, 7#8] 0 = 4 ∧ byteAt [5#8, 32#8] 0 = 5 ∧ byteAt [6#8, 0#8] 0 = 6
        ∧ byteAt [7#8, 64#8] 0 = 7 ∧ byteAt [8#8, 63#8] 0 = 8 ∧ 8 < byteAt [9#8, 0#8] 0)
    ∧ Waiting Code.saveSettings (entry Code.saveSettings []) (withHead Code.saveSettings [] atRest)
    ∧ ((saving seven).pins.rst = false ∧ NoWork (saving seven)
        ∧ (saving seven).cu.slot.item = .command (entry Code.saveSettings [])
        ∧ (saving seven).cu.slot.work = .saving
        ∧ (saving seven).set.saving = some (userAreaOf seven.set.active) ∧ placesUsed (saving seven) < 8)
    ∧ userAreaOf seven.set.active ≠ List.replicate 16 0#8
    ∧ (NoWork (saving (fullOutbox atRest)) ∧ 8 ≤ placesUsed (saving (fullOutbox atRest))) := by
  dsimp only
  refine ⟨by decide, by decide, by decide, by decide, by decide, by decide, by decide, by decide, by decide,
    by decide, ⟨_, rfl, by decide⟩, ?_⟩
  and_intros <;> decide

theorem test_CancelledAnswered_met :
    (let s := marked (withHead Code.seek [0#8, 1#8] atRest)
     s.cu.queue.head? = some { entry Code.seek [0#8, 1#8] with cancelled := true } ∧ Quiet s
      ∧ s.cu.pendEject = false)
    ∧ (let s := withHead Code.seek [0#8, 1#8] atRest
       s.cu.queue.head? = some (entry Code.seek [0#8, 1#8])
        ∧ (entry Code.seek [0#8, 1#8]).cancelled = false)
    ∧ (withHead Code.seek [0#8, 1#8] (reading 1)).cu.slot.item ≠ .free
    ∧ (withHead Code.seek [0#8, 1#8] seven).cu.resets ≠ []
    ∧ (let s := marked (withHead Code.seek [0#8, 1#8] atRest)
       let u := { s with cu := { s.cu with pendEject := true } }
       u.cu.resets = [] ∧ u.cu.pendEject = true ∧ u.cu.queue.head?.isSome = true) := by
  dsimp only
  and_intros <;> decide

theorem test_InternalOperationsRun_met :
    let auto (s : State) : State := { s with cu := { s.cu with pendAuto := true } }
    let wake (r : RestState) (s : State) : State :=
      { s with cu := { s.cu with pendWake := true }, rest := { s.rest with state := r } }
    (Quiet (auto atRest) ∧ (auto atRest).cu.pendAuto = true ∧ (auto atRest).cart.state ≠ .present)
    ∧ (Quiet (auto (inCart .present atRest)) ∧ (auto (inCart .present atRest)).spin.state ≠ .atSpeed)
    ∧ (Quiet (auto (inCart .present flying)) ∧ (auto (inCart .present flying)).spin.state = .atSpeed)
    ∧ (Quiet atRest ∧ atRest.cu.pendAuto = false)
    ∧ Quiet (wake .none atRest)
    ∧ (Quiet (wake .idle (faulty .stallBrake atRest)) ∧ class13Held (faulty .stallBrake atRest) = true)
    ∧ Quiet (wake .standby atRest)
    ∧ (Quiet (wake .idle flying) ∧ (wake .idle flying).rest.wakeActive = false)
    ∧ (Quiet seven ∧ seven.cu.resets = 1#8 :: List.replicate 6 1#8 ∧ seven.pos.state = .parked
        ∧ seven.cu.queue = [])
    ∧ (let s := withHead Code.seek [0#8, 1#8] seven
       s.cu.queue.head? = some (entry Code.seek [0#8, 1#8]))
    ∧ (let s := marked (withHead Code.seek [0#8, 1#8] seven)
       Quiet s ∧ s.cu.queue.head?.isSome = true ∧ (s.cu.queue.head?.map fun e => e.cancelled) = some true) := by
  dsimp only
  and_intros <;> decide

theorem test_ButtonEjects_met :
    let pressed (s : State) : State := { s with cu := { s.cu with pendEject := true } }
    let held : State := { flying with cart := { flying.cart with hold := true } }
    (State.reset.cart.state = .empty)
    ∧ (held.cart.state = .ready ∧ held.cu.pendEject = false ∧ held.cart.hold = true)
    ∧ (flying.cart.hold = false ∧ abortReaches flying = false)
    ∧ ((reading 1).cart.hold = false ∧ abortReaches (reading 1) = true)
    ∧ (Quiet (pressed atRest) ∧ (pressed atRest).cu.resets = [] ∧ (pressed atRest).cu.pendEject = true
        ∧ atRest.pos.state = .parked ∧ atRest.spin.state = .stopped ∧ atRest.spin.brakeFailed = false
        ∧ atRest.pins.seated = true)
    ∧ (let s := pressed (unsaved (mech .coasting .retracting flying))
       Quiet s ∧ s.record.unsaved = true ∧ s.cart.wp = false ∧ s.spin.state ≠ .atSpeed
        ∧ s.pos.state = .retracting)
    ∧ (Quiet atRest ∧ atRest.cu.pendEject = false)
    ∧ (inCart .released atRest).cart.state = .released ∧ atRest.cart.state ≠ .released := by
  dsimp only
  and_intros <;> decide

theorem test_ShellComesAndGoes_met :
    State.reset.cart.state = .empty ∧ atRest.cart.state ≠ .empty
    ∧ ((inCart .present atRest).cart.state = .present ∧ atRest.spin.state = .stopped
        ∧ atRest.pos.state = .parked)
    ∧ (inCart .released atRest).cart.state = .released
    ∧ (flying.cart.state ≠ .released ∧ flying.cart.state ≠ .present ∧ flying.spin.state ≠ .stopped) := by
  and_intros <;> decide

/-- The spindle brakes, a start pending or not. -/
def braking (again : Bool) : State :=
  { atRest with spin := { atRest.spin with
      state := .braking, stop := some 1, brake := some 1, pendingStart := again } }

theorem test_SpindleTimersAct_met :
    (∀ st ∈ [SpindleState.kick, .accel, .regulate],
      SpindleLaw (mech st .parked atRest) ∧ GateLaw (mech st .parked atRest)
      ∧ (mech st .parked atRest).pos.held = none ∧ (mech st .parked atRest).spin.state = st)
    ∧ (flying.spin.state ≠ .kick ∧ flying.spin.state ≠ .accel ∧ flying.spin.state ≠ .regulate)
    ∧ (flying.spin.state = .atSpeed ∧ Quiet flying ∧ flying.pos.state = .following
        ∧ flying.pins.park = false ∧ flying.pins.rst = false)
    ∧ (atRest.spin.state ≠ .regulate ∧ atRest.spin.state ≠ .atSpeed)
    ∧ ((braking true).spin.state = .braking ∧ (braking true).spin.pendingStart = true
      ∧ (braking true).pos.state = .parked)
    ∧ (braking false).spin.pendingStart = false ∧ atRest.spin.state ≠ .braking
    ∧ (SpindleLaw (braking false) ∧ GateLaw (braking false) ∧ (braking false).pos.held = none
        ∧ (braking false).spin.brake ≠ none)
    ∧ atRest.spin.brake = none := by
  refine ⟨?_, by decide, by decide, by decide, by decide, rfl, by decide,
    ⟨rfl, ⟨rfl, (nomatch ·), fun _ => rfl⟩, rfl, by decide⟩, rfl⟩
  intro st h
  simp only [List.mem_cons, List.not_mem_nil, or_false] at h
  rcases h with rfl | rfl | rfl <;>
    exact ⟨rfl, ⟨rfl, (nomatch ·), fun _ => rfl⟩, rfl, rfl⟩

theorem test_MarkStrobeActs_met :
    (¬ ∃ ty, flying.cart.type = some ty ∧ 321 ≤ ty.lastCylinder)
    ∧ (∃ ty, flying.cart.type = some ty ∧ 320 ≤ ty.lastCylinder)
    ∧ (atRest.pos.state = .parked ∧ Quiet atRest ∧ atRest.pos.state.flying = false)
    ∧ (flying.pos.state ≠ .parked ∧ flying.pos.state.flying = true ∧ flying.pos.held = none)
    ∧ (Quiet flying ∧ flying.pos.state = .following ∧ flying.pos.landHere = false
        ∧ flying.pos.target = some { cyl := 160, offset := 0 } ∧ flying.pos.xp = some 40960
        ∧ |({ cyl := 160, offset := 0 } : Target).position - (256 * 160 + 48)| ≤ 48) := by
  refine ⟨?_, ⟨.a, rfl, by decide⟩, by decide, by decide, by decide⟩
  rintro ⟨ty, h, hle⟩
  obtain rfl : CartType.a = ty := by simpa [flying, atRest] using h
  simp [CartType.lastCylinder] at hle

/-- The heads of `flying` in this state, with these counts. -/
def sampling (p remembered : PosState) (settle seekCount offTrack : Nat) (restartUsed : Bool) : State :=
  { flying with pos := { flying.pos with
      state := p, remembered, settle, seekCount, offTrack, restartUsed } }

theorem test_MarkStrobeActs_met_samples :
    let meets (s : State) : Prop := s.pins.rst = false ∧ s.cart.type = some .a ∧ 160 ≤ CartType.a.lastCylinder
      ∧ s.pos.landHere = false ∧ s.pos.target = some { cyl := 160, offset := 0 } ∧ Quiet s
      ∧ s.pins.park = false ∧ s.chan.wgate = false
    let r (pe : Int) : Int := 256 * (160 : Nat) + 0 - (256 * (160 : Nat) + pe)
    (∀ p ∈ [PosState.loading, .seeking, .settling, .following, .coasting],
      ∀ m ∈ [PosState.following, .seeking, .settling], ∀ n ∈ [0, 2, 3], ∀ k ∈ [0, 398, 399], ∀ o ∈ [0, 1, 2],
        meets (sampling p m n k o false) ∧ meets (sampling p m n k o true))
    ∧ (|r 512| ≤ 512 ∧ ¬ |r 513| ≤ 512 ∧ |r (-32)| ≤ 32 ∧ ¬ |r 33| ≤ 32 ∧ |r 48| ≤ 48 ∧ 48 < |r (-49)|)
    ∧ (3 + 1 ≥ 4 ∧ 2 + 1 < 4 ∧ 398 + 1 < 400 ∧ 400 ≤ 399 + 1 ∧ 1 + 1 < 3 ∧ 3 ≤ 2 + 1)
    ∧ ((reading 1).chan.op = some (.read { cyl := 160, head := 0, sector := 15 })
        ∧ (reading 1).chan.wgate = false ∧ (reading 1).pos.state = .following)
    ∧ (let l := { flying with pos := { flying.pos with state := .loading, landHere := true } }
       (if l.pos.landHere then some ({ cyl := 7, offset := 0 } : Target) else l.pos.target)
         = some { cyl := 7, offset := 0 })
    ∧ (writingState.chan.op = some (.write { cyl := 160, head := 0, sector := 15 } [])
        ∧ writingState.chan.wgate = true ∧ writingState.pos.state = .following
        ∧ Stage (.command (entry Code.write [0#8, 0#8, 0x13#8, 0x88#8, 2#8])) .data writingState
        ∧ writingState.chan.transfer = some (transferOf .write .sector)
        ∧ writingState.chan.outstanding = [] ∧ placesUsed writingState < 8
        ∧ writingState.pos.target = some { cyl := 160, offset := 0 } ∧ writingState.pins.rst = false) := by
  dsimp only
  refine ⟨?_, ?_⟩
  · intro p _ m _ n _ k _ o _
    refine ⟨⟨rfl, rfl, by decide, rfl, rfl, ?_, rfl, rfl⟩, ⟨rfl, rfl, by decide, rfl, rfl, ?_, rfl, rfl⟩⟩ <;>
      and_intros <;> rfl
  · and_intros <;> decide

theorem test_MissingSamplesAct_met :
    let coast (n : Nat) : State := mech .atSpeed .coasting
      { flying with pos := { flying.pos with missing := n } }
    let seek (p : PosState) (n : Nat) (s : State) : State := mech .atSpeed p
      { s with pos := { s.pos with seekCount := n } }
    let again (s : State) : State := { s with pos := { s.pos with restartUsed := true } }
    let from' (p : PosState) (s : State) : State := { s with pos := { s.pos with remembered := p } }
    (atRest.pos.state = .parked ∧ atRest.pins.rst = false)
    ∧ (flying.pos.state = .following ∧ Quiet flying ∧ flying.pins.park = false)
    ∧ ((coast 7).pos.state = .coasting ∧ 8 ≤ (coast 7).pos.missing + 1)
    ∧ (Quiet (coast 6) ∧ (coast 6).pos.missing + 1 < 8 ∧ (coast 6).pos.remembered = .following)
    ∧ (∀ s ∈ [seek .seeking 398 flying, seek .settling 398 (inSlot Code.seek [0#8, 1#8] .seekTarget flying)],
        (s.pos.state = .seeking ∨ s.pos.state = .settling) ∧ s.chan.op = none ∧ s.pos.seekCount + 1 < 400)
    ∧ (∀ s ∈ [seek .seeking 399 flying, again (seek .settling 399 flying)],
        s.chan.op = none ∧ 400 ≤ s.pos.seekCount + 1)
    ∧ (∀ s ∈ [from' .seeking (seek .coasting 398 (coast 6)), from' .settling (seek .coasting 399 (coast 6))],
        s.pos.state = .coasting ∧ s.pos.missing + 1 < 8 ∧ s.pos.remembered ≠ .following)
    ∧ (let s := seek .seeking 398 flying
       Quiet s ∧ s.pos.state = .seeking ∧ s.pos.seekCount + 1 < 400)
    ∧ (let s := again (mech .atSpeed .settling flying)
       Quiet s ∧ s.pos.state = .settling ∧ s.pos.restartUsed = true ∧ s.pins.park = false) := by
  dsimp only
  and_intros <;> decide

theorem test_HeadTimersAct_met :
    let r := mech .coasting .retracting flying
    let e := mech .coasting .emergency flying
    let holds (s : State) : State :=
      { s with pos := { s.pos with held := some ({ cyl := 7, offset := 0 }, some .seek) } }
    (atRest.pos.state ≠ .loading ∧ atRest.pos.state ≠ .retracting ∧ atRest.pos.state ≠ .emergency
      ∧ atRest.pins.rst = false)
    ∧ ((mech .atSpeed .loading flying).pos.state = .loading ∧ Quiet (mech .atSpeed .loading flying)
        ∧ (mech .atSpeed .loading flying).spin.state = .atSpeed)
    ∧ (inSlot Code.seek [0#8, 7#8] .seekTarget (mech .atSpeed .loading flying)).pos.state = .loading
    ∧ (r.pos.state = .retracting ∧ Quiet r ∧ r.pins.park = false ∧ r.pos.held = none)
    ∧ (e.pos.state = .emergency ∧ Quiet e)
    ∧ (let s := holds (mech .atSpeed .retracting flying)
       s.pos.held = some ({ cyl := 7, offset := 0 }, some .seek)
        ∧ Quiet { s with pos := { s.pos with held := none } } ∧ s.spin.state = .atSpeed
        ∧ s.pos.state = .retracting ∧ class13Held s = false ∧ s.cart.type ≠ none) := by
  dsimp only
  and_intros <;> decide

/-- A data command with this code, transfer context and sector in work, the heads on the track. -/
def channel (code : Byte) (t : Transfer) (op : Option SectorOp) : State :=
  let s := inSlot code [0#8, 0#8, 0x13#8, 0x88#8, 2#8] .data flying
  { s with chan := { s.chan with transfer := some t, op } }

/-- A full sector of zeros, read well at the place of `transferOf`. -/
def goodRead : ReadSignal := { ident := some (160, 0, 15), checkOk := true, data := List.replicate 512 0#8 }

theorem test_BlockEndsWithItsSector_met :
    let at' : Place := { cyl := 160, head := 0, sector := 15 }
    let met (s : State) (t : Transfer) (code : Byte) : Prop :=
      s.chan.transfer = some t ∧ t.abortPending = false ∧ t.timedOut = false ∧ t.place = at'
      ∧ s.mail = Mail.none ∧ s.record.copyWrite = none ∧ s.record.load = none
      ∧ s.cu.slot.item = .command (entry code [0#8, 0#8, 0x13#8, 0x88#8, 2#8])
      ∧ s.cu.slot.work = .data ∧ onTarget t.place.cyl t.offset s = true ∧ placesUsed s < 8
      ∧ (∀ i x, s.link.send ≠ some (.data i x))
    let read (code : Byte) (t : Transfer) : Prop :=
      let s := channel code t (some (.read at'))
      met s t code ∧ t.cmd ≠ .write ∧ t.phase = .sector ∧ t.chain = false ∧ t.mark = false
        ∧ t.failing = none ∧ s.chan.op = some (.read t.place)
    let r := transferOf .read .sector
    let v := transferOf .verify .sector
    (read Code.read { r with attempt := 8 } ∧ r.idx + 1 < r.count ∧ 8 ≤ r.limit)
    ∧ (read Code.read { r with idx := 1, attempt := 9 } ∧ ¬ 1 + 1 < r.count ∧ r.limit < 9)
    ∧ read Code.verify v ∧ read Code.verify { v with idx := 1, done := 1 }
    ∧ (flying.chan.slot0 = .free ∧ flying.chan.slot1 = .free
        ∧ readyState.chan.slot0 = .holding 0 [1#8] ∧ readyState.chan.slot1 = .free)
    ∧ (endsAt 0 (.read at') = true ∧ endsAt 0 (.write at' []) = true)
    ∧ (goodRead.ident = some (160, 0, 15) ∧ goodRead.checkOk = true
        ∧ ¬ ReadSignal.none.ident = some (160, 0, 15)) := by
  dsimp only
  refine ⟨⟨⟨⟨rfl, rfl, rfl, rfl, rfl, rfl, rfl, rfl, rfl, by decide, by decide, nofun⟩, ?_⟩, ?_⟩,
    ⟨⟨⟨rfl, rfl, rfl, rfl, rfl, rfl, rfl, rfl, rfl, by decide, by decide, nofun⟩, ?_⟩, ?_⟩,
    ⟨⟨rfl, rfl, rfl, rfl, rfl, rfl, rfl, rfl, rfl, by decide, by decide, nofun⟩, ?_⟩,
    ⟨⟨rfl, rfl, rfl, rfl, rfl, rfl, rfl, rfl, rfl, by decide, by decide, nofun⟩, ?_⟩, ?_, ?_, ?_⟩ <;> decide

theorem test_goodRead_length : goodRead.data.length = 512 := List.length_replicate

/-- A session whose zones have no spare left. -/
def worn (s : State) : State :=
  { s with record := { s.record with session := .full { sessionA with
      zones := List.replicate 16 { spares := 255#32, list := [] } } } }

theorem test_BlockEndsWithItsSector_met_writes :
    let at' : Place := { cyl := 160, head := 0, sector := 15 }
    let w := transferOf .write .sector
    let b := transferOf .write .back
    (let s := channel Code.write w (some (.write at' []))
     s.chan.transfer = some w ∧ w.cmd = .write ∧ w.phase = .sector ∧ w.verifyOn = false
      ∧ w.idx + 1 < w.count ∧ s.chan.op = some (.write w.place []) ∧ s.fault.holder = none
      ∧ onTarget w.place.cyl w.offset s = true ∧ s.mail = Mail.none ∧ s.cu.slot.work = .data)
    ∧ (let t := { w with idx := 1, done := 1, mark := true }
       let s := channel Code.write t (some (.write at' []))
       ¬ t.idx + 1 < t.count ∧ t.mark = true ∧ s.cart.wp = false ∧ s.record.session = .full sessionA)
    ∧ (let t := { w with idx := 1, done := 1 }
       let s := channel Code.write t (some (.write at' []))
       t.mark = false ∧ s.chan.outstanding = [] ∧ placesUsed s < 8)
    ∧ ({ w with verifyOn := true } : Transfer).verifyOn = true
    ∧ (let c := channel Code.write b (some (.read at'))
       let s := { c with chan := { c.chan with slot0 := .holding 0 goodRead.data } }
       s.chan.transfer = some b ∧ b.phase = .back ∧ b.idx + 1 < b.count
        ∧ holdingData b.idx s = some goodRead.data ∧ s.chan.op = some (.read b.place)
        ∧ onTarget b.place.cyl b.offset s = true ∧ s.record.session = .full sessionA)
    ∧ (∃ k zones, reassignLba false .a sessionA.zones 5000 = .moved k zones)
    ∧ (∃ r o, (worn flying).record.session = .full r ∧ reassignLba false .a r.zones 5000 = .refused o)
    ∧ (transferOf .write .back).mark = false := by
  dsimp only
  refine ⟨by decide, ⟨by decide, by decide, by decide, rfl⟩, by decide, rfl,
    ⟨rfl, by decide, by decide, rfl, rfl, by decide, rfl⟩,
    ⟨_, _, rfl⟩, ⟨_, _, rfl, rfl⟩, rfl⟩

theorem test_BlockEndsWithItsSector_met_drain :
    let sending : State :=
      let s := channel Code.read (transferOf .read .drain) none
      { s with link := { s.link with send := some (.data 0 [1#8]) } }
    (∀ t ∈ [transferOf .read .drain, transferOf .write .drain],
      let code := if t.cmd = .read then Code.read else Code.write
      let s := channel code t none
      s.chan.transfer = some t ∧ t.phase = .drain
      ∧ Stage (.command (entry code [0#8, 0#8, 0x13#8, 0x88#8, 2#8])) .data s
      ∧ s.link.send = none ∧ readyFrame s = none ∧ s.chan.outstanding = [])
    ∧ (sending.chan.transfer = some (transferOf .read .drain) ∧ sending.link.send = some (.data 0 [1#8]))
    ∧ (asking .drain).chan.outstanding ≠ [] := by
  dsimp only
  and_intros <;> decide

/-- The clock is on REFERENCE. -/
def unlocked (s : State) : State := { s with clk := { s.clk with locked := false } }

/-- The sector buffer holds this block of data. -/
def holds (s : State) : State := { s with chan := { s.chan with slot0 := .holding 0 [1#8] } }

theorem flying_level : Level flying := by
  intro g h
  obtain rfl : ({ cyl := 160, offset := 0 } : Target) = g := by simpa [flying] using h
  rfl

theorem test_BlockEndsWithItsSector_met_starts :
    let starts (s : State) (t : Transfer) : Prop := s.chan.transfer = some t ∧ s.chan.op = none
      ∧ s.record.copyWrite = none ∧ s.record.load = none ∧ t.place.sector = 15 ∧ s.spin.state = .atSpeed
      ∧ s.spin.deviating = false ∧ s.cart.wp = false ∧ s.cart.state = .ready
      ∧ onTarget t.place.cyl t.offset s = true
    let r := transferOf .read .sector
    let w := transferOf .write .sector
    let full (s : State) : State := { s with chan := { s.chan with
      slot0 := .holding 0 [1#8], slot1 := .holding 1 [1#8] } }
    (∀ t ∈ [r, transferOf .verify .sector, { r with firstPass := true }, { r with firstPass := true, attempt := 2 },
        { r with attempt := 9 }, w, transferOf .write .back, transferOf .read .target],
      ∀ s ∈ [channel Code.read t none, holds (channel Code.read t none)],
        starts s t ∧ s.clk.locked = true ∧ starts (unlocked s) t ∧ (unlocked s).clk.locked = false)
    ∧ (r.attempt = 1 ∧ r.firstPass = false ∧ r.abortPending = false ∧ r.timedOut = false ∧ 1 ≤ r.limit
        ∧ attemptOffset (1 + 1) = r.offset ∧ attemptOffset (2 + 1) ≠ r.offset ∧ r.limit < 9)
    ∧ (let s := full (channel Code.read r none)
       starts s r ∧ ¬ (s.chan.slot0 = .free ∨ s.chan.slot1 = .free))
    ∧ onTarget 160 0 (mech .atSpeed .settling flying) = false
    ∧ holdingData 0 (channel Code.write w none) = none
    ∧ holdingData 0 (holds (channel Code.write w none)) = some [1#8] := by
  dsimp only
  and_intros <;> decide

theorem test_BlockEndsWithItsSector_met_stages :
    let i (code : Byte) : Item := .command (entry code [0#8, 0#8, 0x13#8, 0x88#8, 2#8])
    let on159 (s : State) : State := { s with pos := { s.pos with target := some { cyl := 159, offset := 0 } } }
    (∀ c ∈ [DataCommand.read, .write, .verify], ∀ ph ∈ [DataPhase.spin, .begin, .target, .sector, .back],
      ∀ s ∈ [channel (dataCode c) (transferOf c ph) none,
          mech .kick .parked (channel (dataCode c) (transferOf c ph) none),
          mech .atSpeed .parked (channel (dataCode c) (transferOf c ph) none),
          on159 (channel (dataCode c) (transferOf c ph) none)],
        s.chan.transfer = some (transferOf c ph) ∧ Stage (i (dataCode c)) .data s
        ∧ s.record.session = .full sessionA ∧ s.chan.op = none)
    ∧ (0 < (transferOf .write .spin).count ∧ (translate .a sessionA.zones 5000).1.cyl = 159
        ∧ onTarget 159 0 (on159 flying) = true ∧ onTarget 159 0 flying = false)
    ∧ (let s := mech .atSpeed .parked (channel Code.write (transferOf .write .spin) none)
       s.spin.state = .atSpeed ∧ s.pos.state = .parked ∧ Loadable s
        ∧ class13Held (faulty .stallBrake s) = true ∧ Stage (i Code.write) .data (faulty .stallBrake s))
    ∧ (transferOf .read .target).mark = false
    ∧ (let t := { transferOf .write .target with mark := true }
       let s := channel Code.write t none
       s.chan.transfer = some t ∧ Stage (i Code.write) .data s ∧ t.mark = true ∧ Saveable s)
    ∧ (∀ o ∈ [OutcomeCode.done, .sparesExhausted],
        let t := { transferOf .write .save with outcome := o, mark := true }
        let s := channel Code.write t none
        s.chan.transfer = some t ∧ Stage (i Code.write) .data s ∧ t.phase = .save)
    ∧ (framesGone (transferOf .write .target) flying ∧ framesGone (transferOf .read .target) flying
        ∧ ¬ framesGone (transferOf .write .target) (asking .target)
        ∧ ¬ framesGone (transferOf .read .target) readyState) := by
  dsimp only
  refine ⟨by decide, by decide, by decide, rfl, ⟨rfl, by decide, rfl, rfl, rfl, rfl, rfl, flying_level⟩,
    by decide, rfl, ⟨nofun, rfl⟩, ?_, ?_⟩
  · change (asking .target).chan.outstanding ≠ []; decide
  · rintro ⟨-, h⟩; revert h; decide

theorem test_WriteFaultCuts_met :
    flying.chan.wgate = false
    ∧ (GateLaw writingState ∧ writingState.chan.wgate = true ∧ writingState.mail = Mail.none
        ∧ writingState.record.copyWrite = none ∧ writingState.record.load = none
        ∧ writingState.cu.slot.item = .command (entry Code.write [0#8, 0#8, 0x13#8, 0x88#8, 2#8])
        ∧ writingState.cu.slot.work = .data ∧ writingState.chan.transfer = some (transferOf .write .sector)
        ∧ writingState.chan.outstanding = []
        ∧ (∀ g, writingState.pos.target = some g → g.offset = 0) ∧ placesUsed writingState < 8) := by
  refine ⟨rfl, ⟨rfl, fun _ => ⟨rfl, rfl, rfl⟩, (nomatch ·)⟩, rfl, rfl, rfl, rfl, rfl, rfl, rfl, rfl,
    ?_, by decide⟩
  intro g h
  obtain rfl : ({ cyl := 160, offset := 0 } : Target) = g := by
    simpa [writingState, inSlot, flying] using h
  rfl

theorem test_WriteFaultCuts_met_mark :
    let t := { transferOf .write .sector with mark := true }
    let s := { writingState with chan := { writingState.chan with transfer := some t } }
    GateLaw s ∧ s.chan.wgate = true
    ∧ Stage (.command (entry Code.write [0#8, 0#8, 0x13#8, 0x88#8, 2#8])) .data s
    ∧ s.chan.transfer = some t ∧ t.cmd = .write ∧ t.phase = .sector ∧ t.mark = true ∧ s.cart.wp = false
    ∧ isFull s = true ∧ Level s :=
  ⟨⟨rfl, fun _ => ⟨rfl, rfl, rfl⟩, (nomatch ·)⟩, rfl, ⟨rfl, rfl, rfl, rfl, rfl⟩, rfl, rfl, rfl, rfl, rfl, rfl,
    flying_level⟩

theorem test_WriteFaultCuts_met_holder :
    let h := faultOf .speedDeviation 0
    let at' : Place := { cyl := 160, head := 0, sector := 15 }
    let s := { writingState with fault := { writingState.fault with holder := some h } }
    (s.pins.rst = false ∧ s.fault.holder = some h ∧ s.chan.op = some (.write at' []) ∧ s.mail = Mail.none
      ∧ endsAt 0 (.write at' []) = true
      ∧ Stage (.command (entry Code.write [0#8, 0#8, 0x13#8, 0x88#8, 2#8])) .data s
      ∧ s.chan.transfer = some (transferOf .write .sector) ∧ s.chan.outstanding = [] ∧ placesUsed s < 8
      ∧ s.pos.state = .following ∧ Level s)
    ∧ (writingState.fault.holder = none ∧ writingState.chan.op = some (.write at' [])) := by
  dsimp only
  exact ⟨⟨rfl, rfl, rfl, rfl, by decide, ⟨rfl, rfl, rfl, rfl, rfl⟩, rfl, rfl, by decide, rfl, flying_level⟩, rfl, rfl⟩

theorem test_WriteFaultCuts_met_ends :
    let i (code : Byte) : Item := .command (entry code [0#8, 0#8, 0x13#8, 0x88#8, 2#8])
    let abort (t : Transfer) : Transfer := { t with abortPending := true }
    let mark (t : Transfer) : Transfer := { t with mark := true }
    let w := transferOf .write .sector
    let b := transferOf .write .back
    (∀ t ∈ [transferOf .read .target, transferOf .read .sector, transferOf .verify .sector, w, b,
          mark w, mark b, { w with chain := true, verifyOn := true }, { transferOf .read .sector with attempt := 9 },
          { transferOf .verify .sector with attempt := 9 }],
      ∀ u ∈ [t, abort t, { t with timedOut := true }],
        let s := holds (channel (dataCode u.cmd) u none)
        s.chan.transfer = some u ∧ Stage (i (dataCode u.cmd)) .data s ∧ u.phase ≠ .save ∧ u.phase ≠ .drain
        ∧ s.chan.op = none ∧ s.cart.wp = false ∧ s.pos.state = .following ∧ isFull s = true
        ∧ s.chan.outstanding = [] ∧ holdingData u.idx s = some [1#8] ∧ onTarget u.place.cyl 0 s = true
        ∧ (∀ g, s.pos.target = some g → g.offset = 0))
    ∧ (let s := channel Code.read (abort (transferOf .read .sector)) none
       s.chan.slot0 = .free ∧ s.chan.slot1 = .free ∧ framesGone (transferOf .read .sector) s)
    ∧ ((transferOf .read .sector).attempt ≤ (transferOf .read .sector).limit
        ∧ (transferOf .read .sector).limit < 9)
    ∧ (channel Code.read (abort (transferOf .read .sector)) (some (.read w.place))).chan.op ≠ none
    ∧ (∃ k zones, reassignLba false .a sessionA.zones 5000 = .moved k zones)
    ∧ (∃ n o, (worn flying).record.session = .full n ∧ reassignLba false .a n.zones 5000 = .refused o)
    ∧ (FaultClass.servoLoss ∈ classes13 ∧ FaultClass.seekSeek ∈ seekFailures)
    ∧ (let t := abort { transferOf .read .sector with offset := 32 }
       let c := channel Code.read t none
       let s := { c with pos := { c.pos with target := some { cyl := 160, offset := 32 } } }
       s.chan.transfer = some t ∧ Stage (i Code.read) .data s ∧ t.abortPending = true ∧ t.timedOut = false
        ∧ t.chain = false ∧ t.mark = false ∧ s.pos.target = some { cyl := 160, offset := 32 }
        ∧ s.pos.state = .following ∧ s.chan.op = none) := by
  dsimp only
  refine ⟨?_, ⟨rfl, rfl, nofun, rfl⟩, by decide, by decide, ⟨_, _, rfl⟩, ⟨_, _, rfl, rfl⟩, by decide, by decide⟩
  intro t ht u hu
  refine ⟨rfl, ⟨rfl, rfl, rfl, rfl, rfl⟩, ?_, ?_, rfl, rfl, rfl, rfl, rfl, ?_, ?_, flying_level⟩ <;>
    (revert u; revert t; decide)

/-- A record copy write of this copy, at this attempt. -/
def copyWriteOf (copy attempt : Nat) : CopyWrite :=
  { owner := .writeBack, targeting := false, copy, attempt, readBack := false, sector := 0, armed := true
    timer := some 1, expired := false, written0 := true }

/-- A REASSIGN of LBA 5,000 at this phase; with `begun` a spare has been allocated. -/
def reassignOf (ph : ReassignPhase) (begun : Bool) : Reassign :=
  { tag := 7#8, lba := 5000, place := { cyl := 160, head := 0, sector := 15 }, attempt := 1, offset := 0
    firstPass := false, allocated := begun, spare := if begun then some 0 else none, dataLost := false
    torn := false, abortPending := false, phase := ph, limit := 8, outcome := .done, timedOut := false
    result := .notMade }

/-- The drive reassigns, with this wait for a spare. -/
def reassigning (r : Reassign) (wait : Timer) : State :=
  let s := inSlot Code.reassign [0#8, 0#8, 0x13#8, 0x88#8] .reassign flying
  { s with chan := { s.chan with reassign := some r, gateWait := wait, slot0 := .holding 0 [1#8] } }

theorem test_WaitsExpire_met :
    Quiet atRest
    ∧ ((asking .drain).chan.transfer = some (transferOf .write .drain)
        ∧ (asking .drain).chan.outstanding = [{ idx := 0, timer := some 2000000 }])
    ∧ ((asking .target).chan.op = none ∧ (transferOf .write .target).phase ≠ .save)
    ∧ (let s := { writingState with
          chan := { writingState.chan with outstanding := [{ idx := 1, timer := some 1 }] } }
       s.chan.transfer = some (transferOf .write .sector) ∧ s.chan.op ≠ none)
    ∧ (readyState.chan.transfer = some (transferOf .read .sector) ∧ readyState.chan.readyTimer ≠ none
        ∧ readyState.chan.op ≠ none)
    ∧ (let s := { readyState with chan := { readyState.chan with
          op := none, transfer := some (transferOf .read .target) } }
       s.chan.op = none ∧ s.chan.transfer = some (transferOf .read .target) ∧ s.chan.readyTimer ≠ none)
    ∧ ((transferOf .read .drain).phase = .drain ∧ (transferOf .read .drain).outcome = .done)
    ∧ (let s := { asking .target with chan := { (asking .target).chan with gateWait := some 1 } }
       s.chan.gateWait ≠ none ∧ s.chan.transfer = some (transferOf .write .target))
    ∧ ((formatting .writing .track [(0, 1)]).chan.gateWait = none
        ∧ (formatOf .writing .track [(0, 1)]).phase = .writing)
    ∧ (let f := formatOf .verifying .spares [(0, 1)]
       let s := formatting .verifying .spares [(0, 1)]
       s.fmt = some f ∧ f.phase = .verifying ∧ f.waits ≠ [] ∧ f.step ≠ .copies
        ∧ f.abortPending = false ∧ s.chan.op = none ∧ s.mail = Mail.none ∧ s.record.copyWrite = none
        ∧ s.record.load = none
        ∧ s.cu.slot.item = .command (entry Code.format [0#8, 0#8, 0#8, 1#8, 0#8, 1#8])
        ∧ s.cu.slot.work = .format ∧ placesUsed s < 8)
    ∧ (∀ c ∈ [copyWriteOf 0 2, copyWriteOf 0 3, copyWriteOf 1 3],
        c.timer ≠ none ∧ (c.attempt < 3 ∨ 3 ≤ c.attempt))
    ∧ (let s := { readyState with chan := { readyState.chan with
          op := none, transfer := some (transferOf .read .drain) } }
       s.chan.transfer = some (transferOf .read .drain) ∧ s.chan.readyTimer ≠ none)
    ∧ ({ transferOf .read .drain with outcome := .dataCheck } : Transfer).outcome ≠ .recovered
    ∧ (let r := reassignOf .write true
       let s := reassigning r (some 1)
       s.chan.reassign = some r ∧ s.chan.gateWait ≠ none ∧ s.chan.transfer = none ∧ s.chan.op = none
        ∧ { s with chan := { s.chan with op := some (.write r.place []) } }.chan.op ≠ none)
    ∧ atRest.pins.rst = false := by
  dsimp only
  and_intros <;> decide

theorem test_SupplyAndRestTimerAct_met :
    let warned : State := { atRest with fault := { atRest.fault with warning := true } }
    warned.fault.warning = true
    ∧ (atRest.fault.warning = false ∧ Quiet atRest ∧ atRest.pos.state = .parked
        ∧ atRest.spin.state = .stopped)
    ∧ (flying.fault.warning = false ∧ Quiet flying ∧ flying.pos.state = .following
        ∧ flying.spin.state = .atSpeed ∧ flying.pins.park = false)
    ∧ atRest.rest.timer = none
    ∧ ({ atRest with rest := { atRest.rest with timer := some 1 } } : State).rest.timer ≠ none := by
  dsimp only
  and_intros <;> decide

theorem test_HardResetRestores_met :
    let l (w r : Bool) : Levels :=
      { seated := true, notchA := true, notchB := false, wprot := false, park := false, supwarn := w
        rst := r }
    (l true false).supwarn = true ∧ (l true true).supwarn = true ∧ (l false false).supwarn = false := by
  dsimp only
  and_intros <;> decide

/-- The item `i` works in the slot, at this stage. -/
def slotted (i : Item) (w : Work) (s : State) : State :=
  { s with cu := { s.cu with slot := { Slot.free with item := i, work := w } } }

/-- The executing item is marked for its abort. -/
def aborting (s : State) : State :=
  { s with cu := { s.cu with slot := { s.cu.slot with abortPending := true } } }

/-- The platter AT_SPEED, the heads PARKED. -/
def parkedAtSpeed : State := mech .atSpeed .parked atRest

/-- The heads FOLLOWING cylinder 0. -/
def atRecord : State := { flying with pos := { flying.pos with target := some { cyl := 0, offset := 0 } } }

theorem test_StartSeekAndWakeStages_met :
    let i : Item := .command (entry Code.spinUp [1#8])
    let seeks : Item := .command (entry Code.seek [0#8, 1#8])
    (∀ w ∈ [Work.startSpin, .startHeads, .spinOnly, .reloadSave, .reloadSpin, .reloadHeads],
      ∀ s ∈ [atRest, parkedAtSpeed, atRecord], Stage i w (slotted i w s)
        ∧ Stage .autoStart w (slotted .autoStart w s)
        ∧ (slotted i w s).cu.slot.abortPending = false ∧ (aborting (slotted i w s)).cu.slot.abortPending = true)
    ∧ (∀ w ∈ [Work.seekSpin, .seekTarget], ∀ s ∈ [atRest, parkedAtSpeed, flying],
        Stage seeks w (slotted seeks w s))
    ∧ (∀ w ∈ [Work.wakeSpin, .wakeTarget], ∀ s ∈ [atRest, parkedAtSpeed, flying],
        Stage .timedWake w (slotted .timedWake w s))
    ∧ (atRest.spin.state ≠ .atSpeed ∧ parkedAtSpeed.pos.state = .parked ∧ Loadable parkedAtSpeed
        ∧ parkedAtSpeed.rest.wakeActive = false ∧ onTarget 0 0 atRecord = true)
    ∧ { parkedAtSpeed with rest := { parkedAtSpeed.rest with wakeActive := true } }.rest.wakeActive = true
    ∧ (FaultClass.servoLoss ∈ classes13 ∧ FaultClass.seekLoad ∈ seekFailures
        ∧ TargetOutcome.failed ≠ .complete ∧ RecordResult.one ≠ .neither)
    ∧ ∀ p ∈ [PosState.seeking, .settling, .coasting, .loading, .retracting, .emergency],
        let s := aborting (slotted seeks .seekTarget (mech .atSpeed p flying))
        s.cu.slot.abortPending = true ∧ Stage seeks .seekTarget s ∧ s.pos.state = p := by
  dsimp only
  and_intros <;> decide

/-- The record load of a start, of this copy, sector and attempt. -/
def loadOf (copy sector attempt : Nat) (offset : Int) (firstPass waiting : Bool) : Load :=
  { copy, sector, attempt, offset, firstPass, limit := 8, waiting, report0 := CopyReport.notRead, copy0 := none }

/-- The drive loads the record at this stage. -/
def loading (w : Work) (l : Load) (s : State) : State :=
  let v := slotted (.command (entry Code.spinUp [1#8])) w s
  { v with record := { v.record with load := some l, image := [] } }

theorem test_LoadStages_met :
    (∀ w ∈ [Work.startLoad, .reloadLoad], ∀ l ∈ [loadOf 0 0 1 0 false false, loadOf 1 0 9 0 false true],
      let s := loading w l atRecord
      s.cu.slot.item = .command (entry Code.spinUp [1#8]) ∧ s.cu.slot.work = w ∧ s.mail = Mail.none
      ∧ s.record.copyWrite = none ∧ s.record.load = some l ∧ s.chan.op = none
      ∧ s.cu.slot.abortPending = false ∧ headsGone s = false ∧ s.cart.type = some .a)
    ∧ (onTarget 0 (loadOf 0 0 1 0 false false).offset atRecord = true ∧ atRecord.clk.locked = true)
    ∧ ({ atRecord with clk := { atRecord.clk with locked := false } }.clk.locked = false
        ∧ attemptOffset ((loadOf 0 0 1 0 true false).attempt + 1) = 0)
    ∧ (∀ g, atRecord.pos.target = some g → g.offset = 0)
    ∧ ((loadOf 0 0 9 0 false false).limit < 9 ∧ (loadOf 0 1 9 0 false false).sector ≠ 0)
    ∧ (2 ≤ (loadOf 0 0 2 0 false false).limit ∧ attemptOffset (2 + 1) ≠ 0 ∧ atRecord.pos.state = .following)
    ∧ headsGone (loading .startLoad (loadOf 0 0 1 0 false false) parkedAtSpeed) = true
    ∧ (aborting (loading .startLoad (loadOf 0 0 1 0 false false) atRecord)).cu.slot.abortPending = true
    ∧ { atRecord with chan := { atRecord.chan with
        op := some (.read { cyl := 0, head := 0, sector := 0 }) } }.chan.op ≠ none := by
  refine ⟨by decide, by decide, by decide, ?_, by decide, by decide, by decide, by decide, by decide⟩
  intro g h
  obtain rfl : ({ cyl := 0, offset := 0 } : Target) = g := by simpa [atRecord] using h
  rfl

/-- The images of a first sector: none, one in the sector, and one of two sectors. -/
theorem test_LoadStages_met_images :
    headerFinding [0#8] ≠ none
    ∧ (let m := recordImage .a false false 1#16 1#32 (emptyZones .a)
       headerFinding m = none ∧ ¬ 0 + 1 < (word16At m 12 + 511) / 512)
    ∧ (let m := (recordImage .b false false 1#16 1#32 (List.replicate 32 { spares := 15#32, list := [
         { offset := 0, spare := 0 }, { offset := 1, spare := 1 }, { offset := 2, spare := 2 },
         { offset := 3, spare := 3 }] })).take 512
       headerFinding m = none ∧ 0 + 1 < (word16At m 12 + 511) / 512) := by
  decide

/-- A copy write in hand, the heads on cylinder 0. -/
def copying (c : CopyWrite) (image : List Byte) : State :=
  { atRecord with record := { atRecord.record with copyWrite := some c, image } }

theorem test_CopyWriteStages_met :
    let t : CopyWrite := { owner := .writeBack, targeting := true, copy := 0, attempt := 1, readBack := false
                           sector := 0, armed := false, timer := none, expired := false, written0 := false }
    (atRecord.record.session = .full sessionA ∧ atRecord.cart.wp = false ∧ onTarget 0 0 atRecord = true
      ∧ onTarget 0 0 flying = false)
    ∧ ((copying t []).record.copyWrite = some t ∧ (copying t []).mail = Mail.none)
    ∧ (∀ c ∈ [copyWriteOf 0 2, copyWriteOf 1 3, { copyWriteOf 0 3 with armed := false, sector := 1 },
          { copyWriteOf 1 1 with readBack := true, armed := false, sector := 1 },
          { copyWriteOf 1 2 with expired := true, owner := .format, written0 := false }],
        let s := copying c (List.replicate 100 0#8)
        s.record.copyWrite = some c ∧ s.mail = Mail.none ∧ s.chan.op = none ∧ c.targeting = false
        ∧ headsGone s = false ∧ s.clk.locked = true ∧ s.spin.state = .atSpeed ∧ s.spin.deviating = false
        ∧ s.cart.wp = false)
    ∧ ((copying (copyWriteOf 0 2) (List.replicate 100 0#8)).record.image.length + 511) / 512
        ≤ (copyWriteOf 0 2).sector + 1
    ∧ ¬ ((copying (copyWriteOf 0 2) (List.replicate 513 0#8)).record.image.length + 511) / 512
        ≤ (copyWriteOf 0 2).sector + 1
    ∧ (FaultClass.offTrack ∉ classes13 ∧ FaultClass.offTrack ∉ seekFailures)
    ∧ (let s := mech .coasting .retracting (copying (copyWriteOf 1 1) [])
       headsGone s = true ∧ s.record.copyWrite = some (copyWriteOf 1 1))
    ∧ (t.targeting = true ∧ t.written0 = false
       ∧ (mech .atSpeed .parked (copying t [])).pos.state = .parked
       ∧ (mech .coasting .retracting (copying t [])).pos.state ≠ .parked) := by
  dsimp only
  refine ⟨by decide, by decide, by decide, ?_, ?_, by decide, by decide, by decide⟩ <;>
    simp only [copying, copyWriteOf, List.length_replicate] <;> decide

/-- R89: the write-back of a write-protected cartridge. -/
theorem test_writeBack_protected :
    beginWriteBack (protect flying) = savedAs .writeProtected (protect flying)
    ∧ (protect flying).cart.wp = true := by
  decide

theorem test_ReassignStages_met :
    let i : Item := .command (entry Code.reassign [0#8, 0#8, 0x13#8, 0x88#8])
    (∀ r ∈ [reassignOf .spin false, reassignOf .readTarget false, reassignOf .read false,
          { reassignOf .read false with attempt := 9 }, { reassignOf .read false with attempt := 2 },
          reassignOf .writeTarget true, reassignOf .write true, { reassignOf .write true with timedOut := true },
          reassignOf .back true, reassignOf .save true, { reassignOf .save true with outcome := .sparesExhausted },
          { reassignOf .readTarget false with abortPending := true }],
      let s := reassigning r none
      Stage i .reassign s ∧ s.chan.reassign = some r ∧ s.record.session = .full sessionA
      ∧ s.chan.transfer = none ∧ s.fmt = none ∧ s.pos.state = .following ∧ s.chan.op = none
      ∧ s.cart.wp = false ∧ onTarget r.place.cyl r.offset s = true)
    ∧ (attemptOffset (1 + 1) = 0 ∧ attemptOffset (2 + 1) ≠ 0)
    ∧ (∀ g, (reassigning (reassignOf .read false) none).pos.target = some g → g.offset = 0)
    ∧ (let s := mech .atSpeed .parked (reassigning (reassignOf .spin false) none)
       s.pos.state = .parked ∧ Loadable s ∧ Stage i .reassign s)
    ∧ onTarget (translate .a sessionA.zones 5000).1.cyl 0 { flying with pos := { flying.pos with
        target := some { cyl := 159, offset := 0 } } } = true
    ∧ (∃ k zones, reassignLba false .a sessionA.zones 5000 = .moved k zones)
    ∧ (holdingData 0 (reassigning (reassignOf .back true) none) = some [1#8])
    ∧ spareScan .a (zoneAt (List.replicate 16 { spares := 255#32, list := [] }) 7) = CartType.a.spareWidth
    ∧ FaultClass.offTrack ∉ classes13 := by
  dsimp only
  refine ⟨by decide, by decide, ?_, by decide, by decide, ⟨_, _, rfl⟩, by decide, by decide, by decide⟩
  intro g h
  obtain rfl : ({ cyl := 160, offset := 0 } : Target) = g := by
    simpa [reassigning, inSlot, flying] using h
  rfl

theorem test_ReassignStages_met_starts :
    let i : Item := .command (entry Code.reassign [0#8, 0#8, 0x13#8, 0x88#8])
    (∀ r ∈ [reassignOf .read false, { reassignOf .read false with firstPass := true },
          { reassignOf .read false with firstPass := true, attempt := 2 },
          { reassignOf .read false with attempt := 9 }, reassignOf .readTarget false, reassignOf .write true,
          reassignOf .back true],
      let s := reassigning r none
      ∀ v ∈ [s, unlocked s], Stage i .reassign v ∧ v.chan.reassign = some r
        ∧ v.record.session = .full sessionA ∧ v.chan.transfer = none ∧ v.fmt = none ∧ v.chan.op = none
        ∧ r.place.sector = 15 ∧ onTarget r.place.cyl r.offset v = true ∧ v.spin.state = .atSpeed
        ∧ v.spin.deviating = false ∧ v.cart.wp = false ∧ v.cart.state = .ready
        ∧ holdingData 0 v = some [1#8])
    ∧ (flying.clk.locked = true ∧ (unlocked flying).clk.locked = false)
    ∧ (1 ≤ (reassignOf .read false).limit ∧ (reassignOf .read false).limit < 9)
    ∧ (attemptOffset (1 + 1) = 0 ∧ attemptOffset (2 + 1) ≠ 0)
    ∧ (let s := { reassigning (reassignOf .write true) none with
          chan := { (reassigning (reassignOf .write true) none).chan with slot0 := .free } }
       holdingData 0 s = none ∧ Stage i .reassign s)
    ∧ onTarget 160 0 (mech .atSpeed .settling flying) = false := by
  dsimp only
  and_intros <;> decide

theorem test_FormatPhases_met :
    let e := entry Code.format [0#8, 0#8, 0#8, 1#8, 0#8, 1#8]
    (∀ x ∈ [(FormatPhase.preparing, FormatStep.spin), (.preparing, .target), (.marking, .copies),
          (.writing, .target), (.writing, .track), (.verifying, .target), (.verifying, .spares),
          (.verifying, .users), (.finishing, .target), (.finishing, .copies)],
      let f := formatOf x.1 x.2 []
      let s := formatting x.1 x.2 []
      Stage (.command e) .format s ∧ s.fmt = some f ∧ f.phase = x.1 ∧ f.step = x.2 ∧ f.waits = []
      ∧ f.abortPending = false ∧ s.pos.state = .following ∧ s.chan.op = none ∧ s.clk.locked = true
      ∧ s.spin.state = .atSpeed ∧ s.cart.wp = false ∧ s.chan.transfer = none ∧ s.chan.reassign = none)
    ∧ (let s := mech .atSpeed .parked (formatting .preparing .spin [])
       s.pos.state = .parked ∧ Loadable s ∧ Stage (.command e) .format s)
    ∧ ((mech .kick .parked (formatting .preparing .spin [])).spin.state ≠ .atSpeed)
    -- the last sector of a track, on either head, on a cylinder and on the last one
    ∧ (let f := { formatOf .writing .track [] with
          cylinder := 160, seen := [1, 2, 3, 4, 5, 6, 7, 8, 9, 10, 11, 12, 13, 14, 15] }
       f.seen.length + 1 = 16 ∧ f.head = 0 ∧ ({ f with head := 1 } : Format).head ≠ 0 ∧ f.cylinder < 320
        ∧ flying.pos.target = some { cyl := f.cylinder, offset := 0 }
        ∧ 320 ≤ ({ f with cylinder := 320 } : Format).cylinder ∧ f.verify = true
        ∧ ({ f with verify := false } : Format).verify = false)
    ∧ (0 ∉ (formatOf .writing .track []).seen ∧ onTarget 160 0 flying = true ∧ onTarget 161 0 flying = false
        ∧ ∃ w ∈ (formatOf .writing .track [(0, 1)]).waits, w.1 = 0)
    -- the spare check and the user check, in the middle, at the end of a zone and in the last zone
    ∧ (let f := formatOf .verifying .spares []
       f.userPart = false ∧ f.index + 1 < 8 ∧ 8 ≤ ({ f with index := 7 } : Format).index + 1
        ∧ f.cylinder = 1 + 20 * f.zone ∧ ({ f with cylinder := 20 } : Format).cylinder ≠ 1 + 20 * f.zone)
    ∧ (let f := { formatOf .verifying .users [] with userPart := true }
       f.seen.length + 1 < min 16 (632 - 0) ∧ 0 + 16 < 632
        ∧ ¬ 32 * (20 - (1 + 20 * 0)) + 16 * 1 + 16 < 632 ∧ f.zone + 1 < 16
        ∧ 16 ≤ ({ f with zone := 15 } : Format).zone + 1)
    ∧ (∃ k z, reassignZone false .a 0 (zoneAt [] 0) = .moved k z)
    ∧ spareScan .a { spares := 255#32, list := [] } = CartType.a.spareWidth
    -- waits and faults
    ∧ (∃ w ∈ (formatOf .verifying .spares [(0, 0)]).waits, w.2 = 0)
    ∧ ((true, false) ≠ (true, true) ∧ FaultClass.servoLoss ∈ classes13 ∧ FaultClass.seekSeek ∈ seekFailures)
    ∧ ({ formatOf .writing .track [] with abortPending := true } : Format).abortPending = true := by
  dsimp only
  refine ⟨by decide, by decide, by decide, by decide, by decide, by decide, by decide, ⟨_, _, rfl⟩, by decide,
    by decide, by decide, rfl⟩

theorem test_FormatPhases_met_starts :
    let e := entry Code.format [0#8, 0#8, 0#8, 1#8, 0#8, 1#8]
    let at20 (s : State) : State := { s with pos := { s.pos with target := some { cyl := 20, offset := 0 } } }
    let spares : Format := { formatOf .verifying .spares [] with cylinder := 20 }
    let users : Format := { formatOf .verifying .users [] with userPart := true, cylinder := 20, seen := [3] }
    (∀ f ∈ [spares, users, { users with waits := [(4, 1)] }, formatOf .verifying .target []],
      let c := formatting .verifying .spares []
      let s := at20 { c with fmt := some f }
      ∀ v ∈ [s, unlocked s], Stage (.command e) .format v ∧ v.fmt = some f ∧ v.chan.op = none
        ∧ v.chan.transfer = none ∧ v.chan.reassign = none ∧ onTarget 20 0 v = true)
    ∧ slotPlace spares.zone (632 + spares.index) = { cyl := 20, head := 1, sector := 8 }
    ∧ ¬ (4 ∈ users.seen ∨ 632 ≤ 32 * (20 - (1 + 20 * 0)) + 16 * 0 + 4)
    ∧ (3 ∈ users.seen ∧ 632 ≤ 32 * (20 - (1 + 20 * 0)) + 16 * 1 + 8) := by
  dsimp only
  and_intros <;> decide

theorem test_RestAndEjectStages_met :
    let rest (standby : Byte) : Item := .command (entry Code.rest [standby, 1#8, 0#8])
    let down : Item := .command (entry Code.spinDown [])
    let homing (p : PosState) : State := mech .coasting p flying
    let ejecting (st : EjectStage) (force : Bool) (s : State) : State :=
      let v := slotted (.command (entry Code.eject [0#8])) .eject s
      { v with cart := { v.cart with state := .unloading, origin := some .ready
                                     eject := some { button := false, force, stage := st, window := none } } }
    (∀ w ∈ [Work.restSave, .restPark, .restStop], ∀ s ∈ [atRest, parkedAtSpeed, flying, homing .retracting,
        braking false], Stage (rest 0#8) w (slotted (rest 0#8) w s) ∧ Stage (rest 1#8) w (slotted (rest 1#8) w s))
    ∧ (∀ w ∈ [Work.downSpin, .downSave, .downPark, .downStop], ∀ s ∈ [atRest, parkedAtSpeed, flying,
        homing .emergency, braking false], Stage down w (slotted down w s))
    ∧ (byteAt [1#8] 0 = 1 ∧ ¬ byteAt [0#8] 0 = 1)
    ∧ (flying.pos.state.flying = true ∧ flying.chan.op = none ∧ flying.pins.park = false
        ∧ flying.pos.held = none)
    ∧ ((homing .retracting).pos.state.home = true ∧ (homing .retracting).pos.state ≠ .parked)
    ∧ (parkedAtSpeed.pos.state = .parked ∧ Loadable parkedAtSpeed ∧ parkedAtSpeed.cart.wp = false
        ∧ parkedAtSpeed.spin.brakeFailed = false)
    ∧ ((braking false).spin.state = .braking ∧ (braking false).pos.state = .parked
        ∧ (braking false).spin.state ≠ .stopped)
    ∧ (atRest.spin.state = .stopped ∧ atRest.pins.seated = true)
    ∧ (∀ st ∈ [EjectStage.writeBackSpin, .writeBack, .park, .brake, .release, .leaveOrJam],
        ∀ s ∈ [atRest, parkedAtSpeed, flying, homing .retracting, braking false],
        let v := ejecting st true s
        Stage (.command (entry Code.eject [0#8])) .eject v
        ∧ v.cart.eject = some { button := false, force := true, stage := st, window := none })
    ∧ (let failed : State := { braking false with spin := { (braking false).spin with brakeFailed := true } }
       failed.spin.brakeFailed = true ∧ failed.pos.state = .parked)
    ∧ (RecordResult.both ≠ .neither ∧ FaultClass.offTrack ≠ .stallBrake)
    ∧ ∀ s ∈ [atRest, flying], Stage (.softReset 1#8) .resetPark (slotted (.softReset 1#8) .resetPark s) := by
  dsimp only
  and_intros <;> decide

end Sys2Proof.Tests
end

/-! ## Proofs: the spindle (chapter 2)

The regulator step, the window test and the recovery check, each said once; then what an index arrival does
to a deviating spindle. -/

namespace Sys2Proof.Machine

/-- The window of half-width w around the nominal period (R25). -/
theorem inWindow_iff (w p : Nat) : inWindow w p = true ↔ 25000 - w ≤ p ∧ p ≤ 25000 + w := by
  rw [inWindow, Bool.and_eq_true, decide_eq_true_iff, decide_eq_true_iff]
  rfl

/-- The lock window (R25). -/
theorem inWindow_lockHalf_iff (p : Nat) :
    inWindow Config.lockHalf p = true ↔ 24875 ≤ p ∧ p ≤ 25125 :=
  inWindow_iff Config.lockHalf p

/-- The regulator step in the words of R32. -/
theorem regulate_eq (d p gs : Nat) :
    let e : Int := (gs : Int) * ((p : Int) - 25000)
    let q : Int := e / 16 + (if 8 ≤ e - 16 * (e / 16) then 1 else 0)
    regulate d p gs = (max 0 (min 255 ((d : Int) + q))).toNat := by
  intro e q
  have step : shiftRound e 4 = q := shiftRound_four e
  rw [← step, ← clampInt_eq 0 255 _ (by decide)]
  rfl

/-! ### The recovery check (R36) -/

theorem recoveryCheck_of_outside {p : Spindle} (out : inWindow Config.lockHalf p.period = false) :
    p.recoveryCheck = { p with inCount := 0 } := by
  simp [Spindle.recoveryCheck, out]

theorem recoveryCheck_of_inside_lt {p : Spindle} (inside : inWindow Config.lockHalf p.period = true)
    (few : p.inCount + 1 < 4) : p.recoveryCheck = { p with inCount := p.inCount + 1 } := by
  rw [Spindle.recoveryCheck, if_pos inside, if_neg (Nat.not_le.mpr few)]

theorem recoveryCheck_of_inside_ge {p : Spindle} (inside : inWindow Config.lockHalf p.period = true)
    (fourth : 4 ≤ p.inCount + 1) : p.recoveryCheck = { p with inCount := 0, deviating := false } := by
  rw [Spindle.recoveryCheck, if_pos inside, if_pos fourth]

/-- The recovery check writes the in-window count and the deviating flag alone. -/
theorem recoveryCheck_frame (p : Spindle) :
    p.recoveryCheck = { p with
      inCount := p.recoveryCheck.inCount, deviating := p.recoveryCheck.deviating } := by
  unfold Spindle.recoveryCheck
  split
  · split <;> rfl
  · rfl

@[simp] theorem recoveryCheck_state (p : Spindle) : p.recoveryCheck.state = p.state := by
  rw [recoveryCheck_frame]

@[simp] theorem recoveryCheck_drive (p : Spindle) : p.recoveryCheck.drive = p.drive := by
  rw [recoveryCheck_frame]

@[simp] theorem recoveryCheck_period (p : Spindle) : p.recoveryCheck.period = p.period := by
  rw [recoveryCheck_frame]

@[simp] theorem recoveryCheck_gap (p : Spindle) : p.recoveryCheck.gap = p.gap := by
  rw [recoveryCheck_frame]

/-! ### An index arrival at a deviating spindle -/

/-- The spindle with P measured (R27) and the regulator step made (R32). -/
def Spindle.regulated (gs : Nat) (p : Spindle) : Spindle :=
  { p.measure with drive := regulate p.drive p.measure.period gs }

/-- In AT_SPEED with the flag set an index arrival measures, regulates and checks the recovery, and changes
the spindle alone. -/
theorem indexSpindle_of_deviating {s : State} (turning : s.spin.state = .atSpeed)
    (dev : s.spin.deviating = true) :
    indexSpindle s = { s with spin := (s.spin.regulated s.set.trims.gs).recoveryCheck } := by
  simp [indexSpindle, Spindle.index, Spindle.measure, Spindle.regulated, turning, dev]

/-- The gate of a record copy with the spindle replaced by one in AT_SPEED (R121): the rest of the state
enters as before. -/
theorem copyGate_setSpin {p : Spindle} (turning : p.state = .atSpeed) (cyl : Nat) (s : State) :
    copyGate cyl { s with spin := p }
      = (onTarget cyl 0 s && s.clk.locked && !p.deviating && !s.cart.wp) := by
  simp [copyGate, onTarget, turning]

end Sys2Proof.Machine

namespace Sys2Proof

open Machine

/-- Settles O16: the arrival is the recovery check of the measured and regulated spindle, and the three
clauses on the count and the flag are the three cases of the check. -/
theorem deviationRecovers : Obligations.DeviationRecovers := by
  intro s turning dev p e q u
  let m : Spindle := s.spin.regulated s.set.trims.gs
  have hu : u = { s with spin := m.recoveryCheck } := indexSpindle_of_deviating turning dev
  have atSpeed : m.recoveryCheck.state = .atSpeed := (recoveryCheck_state m).trans turning
  have window : inWindow Config.lockHalf m.period = true ↔ 24875 ≤ p ∧ p ≤ 25125 :=
    inWindow_lockHalf_iff p
  have drive : m.drive = (max 0 (min 255 ((s.spin.drive : Int) + q))).toNat :=
    regulate_eq s.spin.drive p s.set.trims.gs
  rw [hu]
  refine ⟨fun lo hi few => ?below, fun lo hi fourth => ?fourth, fun out => ?outside,
    (recoveryCheck_drive m).trans drive, recoveryCheck_period m, recoveryCheck_gap m, atSpeed, rfl, rfl,
    fun cyl => copyGate_setSpin atSpeed cyl s⟩
  case below =>
    have check := recoveryCheck_of_inside_lt (window.mpr ⟨lo, hi⟩) few
    exact ⟨congrArg Spindle.inCount check, (congrArg Spindle.deviating check).trans dev⟩
  case fourth =>
    have check := recoveryCheck_of_inside_ge (window.mpr ⟨lo, hi⟩) fourth
    exact ⟨congrArg Spindle.inCount check, congrArg Spindle.deviating check⟩
  case outside =>
    have not_inside : inWindow Config.lockHalf m.period = false := by
      rw [Bool.eq_false_iff, Ne, window]
      omega
    have check := recoveryCheck_of_outside not_inside
    exact ⟨congrArg Spindle.inCount check, (congrArg Spindle.deviating check).trans dev⟩

end Sys2Proof

/-! ## Proofs: the head positioner (chapter 3)

The formulas in the words of R54 and R55, what a sample leaves of the current through cuts and departures,
and the current that each kind of sample sets; then the two statements on the current of a sample. -/

namespace Sys2Proof.Machine

/-! ### The formulas -/

/-- The clamped shift-round of a current in the words of R54 and R55. -/
theorem clampCurrent_shiftRound_six (p : Int) :
    let q : Int := p / 64 + (if 32 ≤ p - 64 * (p / 64) then 1 else 0)
    clampCurrent (shiftRound p 6) = max (-127) (min 127 q) := by
  intro q
  have rounded : shiftRound p 6 = q := shiftRound_six p
  rw [rounded]
  exact clampInt_eq (-127) 127 q (by decide)

/-- |r| above 512 makes a sample of a seek SEEKING (R54). -/
theorem seekState_of_far {r : Int} (far : 512 < |r|) : seekState r = .seeking := if_pos far

/-- |r| at most 512 makes a sample of a seek SETTLING (R55). -/
theorem seekState_of_near {r : Int} (near : |r| ≤ 512) : seekState r = .settling :=
  if_neg (not_lt.mpr near)

/-- The profile velocity with the square root of the library for the exact isqrt (R54). -/
theorem profile_eq (ty : CartType) (r : Int) :
    profile ty r
      = (if r < 0 then -1 else 1) * (min ty.vmax (Nat.sqrt (2 * ty.decel * r.natAbs)) : Nat) := by
  rw [← isqrt_eq_sqrt]
  rfl

theorem seekCurrent_seeking {ty : CartType} {s : State} (type : s.cart.type = some ty) (r v : Int) :
    seekCurrent .seeking r v s = coarseCurrent ty s.set.trims r v := by
  simp [seekCurrent, type]

theorem seekCurrent_settling (r v : Int) (s : State) :
    seekCurrent .settling r v s = fineCurrent s.set.trims r v := rfl

/-! ### The velocity (R50) -/

theorem measuredVelocity_of_coasting {s : State} (st : s.pos.state = .coasting) (x : Int) :
    measuredVelocity x s = 0 := by
  simp [measuredVelocity, st]

theorem measuredVelocity_of_first {s : State} (first : s.pos.xp = none) (x : Int) :
    measuredVelocity x s = 0 := by
  unfold measuredVelocity
  split <;> simp_all

theorem measuredVelocity_of_next {s : State} {xp : Int} (st : s.pos.state ≠ .coasting)
    (prev : s.pos.xp = some xp) (x : Int) : measuredVelocity x s = x - xp := by
  unfold measuredVelocity
  split <;> simp_all

/-! ### What leaves the positioner as it is -/

@[simp] theorem tellRequester_pos (o : TargetOutcome) (s : State) :
    (tellRequester o s).pos = s.pos := by
  rw [tellRequester_eq]
  split <;> rfl

@[simp] theorem offer_pos (r : FaultRecord) (s : State) : (offer r s).pos = s.pos := rfl

@[simp] theorem noteEnd_pos (cls : FaultClass) (s : State) : (noteEnd cls s).pos = s.pos := by
  unfold noteEnd
  split <;> rfl

@[simp] theorem releaseHolder_pos (s : State) : (releaseHolder s).pos = s.pos := by
  unfold releaseHolder
  split
  · rfl
  · rw [noteEnd_pos, offer_pos]

@[simp] theorem markTorn_pos (p : Place) (s : State) : (markTorn p s).pos = s.pos := by
  unfold markTorn
  split <;> rfl

/-- A cut of the sector write leaves the positioner as it is (R124). -/
@[simp] theorem cutWrite_pos (s : State) : (cutWrite s).pos = s.pos := by
  unfold cutWrite
  split
  · simp
  · rfl

@[simp] theorem depart_pos (s : State) : (depart s).pos = s.pos := by
  unfold depart
  split
  · simp
  · exact cutWrite_pos s
  · rfl

/-- OFF TRACK cuts the write and makes no request of the positioner. -/
theorem raise_offTrack_pos (s : State) : (raise .offTrack s).pos = s.pos := by
  simp [raise, respond]

/-! ### The state that the formulas see -/

/-- The target of a sample: its own cylinder after an aborted SEEK (R72), and otherwise the target held. -/
def sampleTarget (cyl : Nat) (s : State) : Option Target :=
  if s.pos.landHere then some { cyl, offset := 0 } else s.pos.target

/-- The state once the clock has counted a sample and the positioner has taken its X and its target. -/
def sighted (cyl : Nat) (pe : Int) (s : State) : State :=
  let x := 256 * (cyl : Int) + pe
  landTarget cyl { goodSample s with pos := { s.pos with x, xp := some x, cylinder := cyl } }

/-- The state once a sample has ended COASTING (R62). -/
def resumed (s : State) : State :=
  { s with pos := { s.pos with missing := 0, state := s.pos.remembered } }

theorem landTarget_target (cyl : Nat) (s : State) :
    (landTarget cyl s).pos.target = sampleTarget cyl s := by
  unfold landTarget sampleTarget
  split <;> rfl

theorem landTarget_frame (cyl : Nat) (s : State) :
    landTarget cyl s = { s with pos := { s.pos with
      target := (landTarget cyl s).pos.target, resume := (landTarget cyl s).pos.resume,
      landHere := (landTarget cyl s).pos.landHere } } := by
  unfold landTarget
  split <;> rfl

@[simp] theorem sighted_cart (cyl : Nat) (pe : Int) (s : State) : (sighted cyl pe s).cart = s.cart := by
  rw [sighted, landTarget_frame]
  rfl

@[simp] theorem sighted_set (cyl : Nat) (pe : Int) (s : State) : (sighted cyl pe s).set = s.set := by
  rw [sighted, landTarget_frame]
  rfl

@[simp] theorem sighted_seekCount (cyl : Nat) (pe : Int) (s : State) :
    (sighted cyl pe s).pos.seekCount = s.pos.seekCount := by
  rw [sighted, landTarget_frame]

@[simp] theorem sighted_restartUsed (cyl : Nat) (pe : Int) (s : State) :
    (sighted cyl pe s).pos.restartUsed = s.pos.restartUsed := by
  rw [sighted, landTarget_frame]

@[simp] theorem sighted_remembered (cyl : Nat) (pe : Int) (s : State) :
    (sighted cyl pe s).pos.remembered = s.pos.remembered := by
  rw [sighted, landTarget_frame]

theorem sighted_targetPosition {cyl : Nat} {s : State} {tgt : Target}
    (target : sampleTarget cyl s = some tgt) (pe : Int) :
    targetPosition (sighted cyl pe s) = tgt.position := by
  have held : (sighted cyl pe s).pos.target = some tgt := (landTarget_target cyl _).trans target
  rw [targetPosition, held]

/-! ### The current that each kind of sample sets -/

/-- A sample in FOLLOWING sets the fine current, also where it departs from the track (R55, R57, R58). -/
theorem followSample_current (r v : Int) (s : State) :
    (followSample r v s).pos.current = fineCurrent s.set.trims r v := by
  unfold followSample
  simp only
  split
  · rfl
  · split
    · simp [resettle, raise_offTrack_pos]
    · split
      · simp [resettle]
      · rfl

/-- The sample does not end the second run of 400 samples of its seek (R60). -/
def NoSecondTimeout (s : State) : Prop := s.pos.seekCount + 1 < 400 ∨ s.pos.restartUsed = false

/-- A sample of a seek with its state, current and counts set, before it completes the seek or times it
out. -/
def seekUpdate (r v : Int) (s : State) : State :=
  { s with pos := { s.pos with
      state := seekState r, current := seekCurrent (seekState r) r v s
      settle := settleNext (seekState r) s.pos.settle r, seekCount := s.pos.seekCount + 1 } }

/-- What a sample of a seek can come to but for a second timeout: the seek goes on, completes with its
settle, or restarts (R56, R60). -/
theorem seekSample_cases {s : State} (r v : Int) (early : NoSecondTimeout s) :
    seekSample r v s = seekUpdate r v s
    ∨ 4 ≤ settleNext (seekState r) s.pos.settle r ∧ seekSample r v s = seekCompletes (seekUpdate r v s)
    ∨ seekSample r v s = { seekUpdate r v s with
        pos := { (seekUpdate r v s).pos with seekCount := 0, restartUsed := true, settle := 0 } } := by
  by_cases settled : 4 ≤ settleNext (seekState r) s.pos.settle r
  · exact .inr (.inl ⟨settled, if_pos settled⟩)
  · by_cases last : 400 ≤ s.pos.seekCount + 1
    · have fresh : s.pos.restartUsed = false := early.resolve_left (Nat.not_lt.mpr last)
      have timesOut : seekSample r v s = seekTimesOut (seekUpdate r v s) :=
        (if_neg settled).trans (if_pos last)
      exact .inr (.inr (timesOut.trans (if_neg (by simp [seekUpdate, fresh]))))
    · exact .inl ((if_neg settled).trans (if_neg last))

theorem seekSample_current {s : State} (r v : Int) (early : NoSecondTimeout s) :
    (seekSample r v s).pos.current = seekCurrent (seekState r) r v s := by
  obtain h | ⟨-, h⟩ | h := seekSample_cases r v early
  · rw [h]; rfl
  · rw [h, seekCompletes]
    simp [seekUpdate]
  · rw [h]; rfl

/-- Far from the target a sample of a seek is SEEKING: with no settle counted it cannot complete. -/
theorem seekSample_state_of_far {r : Int} {s : State} (v : Int) (early : NoSecondTimeout s)
    (far : 512 < |r|) : (seekSample r v s).pos.state = .seeking := by
  obtain h | ⟨settled, -⟩ | h := seekSample_cases r v early
  · rw [h]; exact seekState_of_far far
  · simp [seekState_of_far far, settleNext] at settled
  · rw [h]; exact seekState_of_far far

/-! ### The sample by the state that it finds -/

section
variable {cyl : Nat} {s : State} {tgt : Target}

theorem takeSample_of_loading (target : sampleTarget cyl s = some tgt) (pe : Int)
    (st : s.pos.state = .loading) :
    let x := 256 * (cyl : Int) + pe
    takeSample cyl pe s
      = loadSample (tgt.position - x) (measuredVelocity x s) (sighted cyl pe s) := by
  rw [← sighted_targetPosition target pe]
  simp only [takeSample, positionSample, sighted, goodSample, st, PosState.flying, if_true]
  rfl

theorem takeSample_of_seeking (target : sampleTarget cyl s = some tgt) (pe : Int)
    (st : s.pos.state = .seeking ∨ s.pos.state = .settling) :
    let x := 256 * (cyl : Int) + pe
    takeSample cyl pe s
      = seekSample (tgt.position - x) (measuredVelocity x s) (sighted cyl pe s) := by
  rw [← sighted_targetPosition target pe]
  obtain st | st := st <;>
  · simp only [takeSample, positionSample, sighted, goodSample, st, PosState.flying, if_true]
    rfl

theorem takeSample_of_following (target : sampleTarget cyl s = some tgt) (pe : Int)
    (st : s.pos.state = .following) :
    let x := 256 * (cyl : Int) + pe
    takeSample cyl pe s
      = followSample (tgt.position - x) (measuredVelocity x s) (sighted cyl pe s) := by
  rw [← sighted_targetPosition target pe]
  simp only [takeSample, positionSample, sighted, goodSample, st, PosState.flying, if_true]
  rfl

/-- A sample in COASTING is one of the remembered state (R62). -/
theorem takeSample_of_coasting (target : sampleTarget cyl s = some tgt) (pe : Int)
    (st : s.pos.state = .coasting) :
    let x := 256 * (cyl : Int) + pe
    let u := resumed (sighted cyl pe s)
    takeSample cyl pe s
      = if s.pos.remembered = .following then followSample (tgt.position - x) (measuredVelocity x s) u
        else seekSample (tgt.position - x) (measuredVelocity x s) u := by
  intro x u
  rw [← sighted_targetPosition target pe, ← sighted_remembered cyl pe s]
  simp only [takeSample, positionSample, sighted, goodSample, st, PosState.flying, if_true, u]
  rfl

/-- The heads are at a track and the sample is none of a seek: FOLLOWING, or COASTING from it. -/
def OnTrack (s : State) : Prop :=
  s.pos.state = .following ∨ s.pos.state = .coasting ∧ s.pos.remembered = .following

/-- The sample is one of a seek: the first after LOADING, or one in SEEKING or SETTLING, or in COASTING
from them. -/
def InSeek (s : State) : Prop :=
  s.pos.state = .loading ∨ (s.pos.state = .seeking ∨ s.pos.state = .settling)
  ∨ s.pos.state = .coasting ∧ (s.pos.remembered = .seeking ∨ s.pos.remembered = .settling)

/-- A sample at a track sets the fine current (R55). -/
theorem takeSample_current_of_onTrack (target : sampleTarget cyl s = some tgt) (pe : Int)
    (track : OnTrack s) :
    let x := 256 * (cyl : Int) + pe
    (takeSample cyl pe s).pos.current
      = fineCurrent s.set.trims (tgt.position - x) (measuredVelocity x s) := by
  obtain st | ⟨st, rem⟩ := track
  · simp [takeSample_of_following target pe st, followSample_current]
  · simp [takeSample_of_coasting target pe st, rem, followSample_current, resumed]

/-- A sample of a seek is the first sample of a load, or a sample of SEEKING and SETTLING from a state with
the settings, the cartridge and the counts of the seek as they were. -/
theorem takeSample_of_inSeek (target : sampleTarget cyl s = some tgt) (pe : Int) (seek : InSeek s) :
    let x := 256 * (cyl : Int) + pe
    ∃ u : State, u.set = s.set ∧ u.cart = s.cart ∧ u.pos.seekCount = s.pos.seekCount
      ∧ u.pos.restartUsed = s.pos.restartUsed
      ∧ (takeSample cyl pe s = loadSample (tgt.position - x) (measuredVelocity x s) u
        ∨ takeSample cyl pe s = seekSample (tgt.position - x) (measuredVelocity x s) u) := by
  obtain st | st | ⟨st, rem⟩ := seek
  · exact ⟨sighted cyl pe s, by simp [takeSample_of_loading target pe st]⟩
  · exact ⟨sighted cyl pe s, by simp [takeSample_of_seeking target pe st]⟩
  · have away : s.pos.remembered ≠ .following := by
      obtain rem | rem := rem <;> simp [rem]
    exact ⟨resumed (sighted cyl pe s), by simp [takeSample_of_coasting target pe st, away, resumed]⟩

/-- But for a second timeout a sample of a seek sets the current by the distance (R56). -/
theorem takeSample_current_of_inSeek (target : sampleTarget cyl s = some tgt) (pe : Int)
    (seek : InSeek s) (early : NoSecondTimeout s) :
    let x := 256 * (cyl : Int) + pe
    let r := tgt.position - x
    (takeSample cyl pe s).pos.current = seekCurrent (seekState r) r (measuredVelocity x s) s := by
  intro x r
  obtain ⟨u, set, cart, count, used, h⟩ := takeSample_of_inSeek target pe seek
  have same : ∀ st v, seekCurrent st r v u = seekCurrent st r v s := by
    simp [seekCurrent, set, cart]
  rw [← same]
  obtain h | h := h <;> rw [h]
  · rfl
  · exact seekSample_current r _ (by rwa [NoSecondTimeout, count, used])

/-- Far from the target a sample of a seek leaves the positioner SEEKING (R56). -/
theorem takeSample_state_of_far (target : sampleTarget cyl s = some tgt) (pe : Int)
    (seek : InSeek s) (early : NoSecondTimeout s)
    (far : 512 < |tgt.position - (256 * (cyl : Int) + pe)|) :
    (takeSample cyl pe s).pos.state = .seeking := by
  obtain ⟨u, -, -, count, used, h⟩ := takeSample_of_inSeek target pe seek
  obtain h | h := h <;> rw [h]
  · exact seekState_of_far far
  · exact seekSample_state_of_far _ (by rwa [NoSecondTimeout, count, used]) far

/-- The three samples of a seek with their velocities (R50). -/
theorem inSeek_velocity {x xp v : Int}
    (h : s.pos.state = .loading ∧ s.pos.xp = none ∧ v = 0
      ∨ s.pos.state = .coasting ∧ (s.pos.remembered = .seeking ∨ s.pos.remembered = .settling) ∧ v = 0
      ∨ (s.pos.state = .seeking ∨ s.pos.state = .settling) ∧ s.pos.xp = some xp ∧ v = x - xp) :
    InSeek s ∧ measuredVelocity x s = v := by
  obtain ⟨st, first, rfl⟩ | ⟨st, rem, rfl⟩ | ⟨st, prev, rfl⟩ := h
  · exact ⟨.inl st, measuredVelocity_of_first first x⟩
  · exact ⟨.inr (.inr ⟨st, rem⟩), measuredVelocity_of_coasting st x⟩
  · have moving : s.pos.state ≠ .coasting := by
      obtain st | st := st <;> simp [st]
    exact ⟨.inr (.inl st), measuredVelocity_of_next moving prev x⟩

end

end Sys2Proof.Machine

namespace Sys2Proof

open Machine

/-- Settles O13: the sample is one of a seek with the velocity v, and far from the target its state is
SEEKING and its current that of the coarse formula. -/
theorem coarseSeekCurrent : Obligations.CoarseSeekCurrent := by
  intro s ty tgt cyl pe xp v type target sample early r far a vmax vd p q
  obtain ⟨seek, velocity⟩ :=
    inSeek_velocity (sample.imp_left fun ⟨st, still, first⟩ => ⟨st, first, still⟩)
  refine ⟨?current, takeSample_state_of_far target pe seek early far⟩
  have hvd : profile ty r = vd := by
    rw [profile_eq]
    cases ty <;> rfl
  calc (takeSample cyl pe s).pos.current
      = seekCurrent (seekState r) r v s := by
        rw [← velocity]
        exact takeSample_current_of_inSeek target pe seek early
    _ = clampCurrent (shiftRound p 6) := by
        rw [seekState_of_far far, seekCurrent_seeking type, coarseCurrent, hvd]
    _ = max (-127) (min 127 q) := clampCurrent_shiftRound_six p

/-- Settles O14: at a track every sample, and in a seek one near its target, sets the current of the fine
formula. -/
theorem fineSeekCurrent : Obligations.FineSeekCurrent := by
  intro s tgt cyl pe xp v target r sample p q
  have onTrack : OnTrack s → measuredVelocity (256 * (cyl : Int) + pe) s = v →
      (takeSample cyl pe s).pos.current = fineCurrent s.set.trims r v := by
    rintro track rfl
    exact takeSample_current_of_onTrack target pe track
  have fine : (takeSample cyl pe s).pos.current = fineCurrent s.set.trims r v := by
    obtain ⟨st, prev, rfl⟩ | ⟨st, rem, rfl⟩ | ⟨near, early, sample⟩ := sample
    · exact onTrack (.inl st) (measuredVelocity_of_next (by simp [st]) prev _)
    · exact onTrack (.inr ⟨st, rem⟩) (measuredVelocity_of_coasting st _)
    · obtain ⟨seek, rfl⟩ := inSeek_velocity sample
      rw [← seekCurrent_settling, ← seekState_of_near near]
      exact takeSample_current_of_inSeek target pe seek early
  exact fine.trans (clampCurrent_shiftRound_six p)

end Sys2Proof

/-! ## Proofs: the fault slot (chapter 8)

The offer of a record case by case (R144), the priority that the slot then has, and two offers in either
order. -/

namespace Sys2Proof.Machine

variable {slot : Option FaultRecord} {h r r1 r2 : FaultRecord}

/-! ### One offer -/

theorem offerTo_none (r : FaultRecord) : offerTo none r = { r with count := 1 } := rfl

/-- A record of higher priority takes the place of the held one and goes on with its count. -/
theorem offerTo_of_lt (higher : r.cls.priority < h.cls.priority) :
    offerTo (some h) r = { r with count := min 255 (h.count + 1) } :=
  if_pos higher

/-- The held record stays, at the same priority too, and counts the offered one. -/
theorem offerTo_of_le (le : h.cls.priority ≤ r.cls.priority) :
    offerTo (some h) r = { h with count := min 255 (h.count + 1) } :=
  if_neg (Nat.not_lt.mpr le)

/-- Of the held and the offered record, the slot has the one of higher priority, which is the smaller
number. -/
theorem offerTo_some_priority (h r : FaultRecord) :
    (offerTo (some h) r).cls.priority = min r.cls.priority h.cls.priority := by
  obtain higher | le := Nat.lt_or_ge r.cls.priority h.cls.priority
  · rw [offerTo_of_lt higher, Nat.min_eq_left higher.le]
  · rw [offerTo_of_le le, Nat.min_eq_right le]

theorem offerTo_priority_le_held (h r : FaultRecord) :
    (offerTo (some h) r).cls.priority ≤ h.cls.priority :=
  (offerTo_some_priority h r).trans_le (Nat.min_le_right _ _)

theorem offerTo_priority_le_offered (slot : Option FaultRecord) (r : FaultRecord) :
    (offerTo slot r).cls.priority ≤ r.cls.priority := by
  cases slot with
  | none => exact le_rfl
  | some h => exact (offerTo_some_priority h r).trans_le (Nat.min_le_left _ _)

/-! ### Two offers -/

/-- A record of the same priority as the one offered before it, or of a lower one, only counts. -/
theorem offerTo_offerTo_of_le (le : r1.cls.priority ≤ r2.cls.priority) :
    offerTo (some (offerTo slot r1)) r2
      = { offerTo slot r1 with count := min 255 ((offerTo slot r1).count + 1) } :=
  offerTo_of_le ((offerTo_priority_le_offered slot r1).trans le)

/-- A record and one of lower priority give the same slot in either order. The lower one only counts when
it comes second; when it comes first, it leaves the same count, and the higher one meets the held record or
the lower one with the same result. -/
theorem offerTo_comm_of_lt (lt : r1.cls.priority < r2.cls.priority) :
    offerTo (some (offerTo slot r1)) r2 = offerTo (some (offerTo slot r2)) r1 := by
  rw [offerTo_offerTo_of_le lt.le]
  cases slot with
  | none => exact (offerTo_of_lt (h := offerTo none r2) lt).symm
  | some h =>
    obtain higher | le := Nat.lt_or_ge r1.cls.priority h.cls.priority
    · have beats : r1.cls.priority < (offerTo (some h) r2).cls.priority := by
        rw [offerTo_some_priority]
        exact Nat.lt_min.mpr ⟨lt, higher⟩
      rw [offerTo_of_lt beats, offerTo_of_lt higher, (offerTo_some h r2).1]
    · have stays : offerTo (some h) r2 = offerTo (some h) r1 := by
        rw [offerTo_of_le (le.trans lt.le), offerTo_of_le le]
      rw [stays, offerTo_of_le ((offerTo_priority_le_held h r1).trans le)]

/-- Two records of different priorities give the same slot in either order. -/
theorem offerTo_comm (differ : r1.cls.priority ≠ r2.cls.priority) :
    offerTo (some (offerTo slot r1)) r2 = offerTo (some (offerTo slot r2)) r1 := by
  obtain lt | gt := Nat.lt_or_gt_of_ne differ
  · exact offerTo_comm_of_lt lt
  · exact (offerTo_comm_of_lt gt).symm

/-! ### The offer in the state -/

theorem offer_holder (r : FaultRecord) (s : State) : (offer r s).fault.holder = s.fault.holder := rfl

/-- The cause FAULT is bit 5 of the attention set (12.2). -/
theorem fault_mask : Cause.fault.mask = 0x0020#16 := by decide

theorem offer_attention (r : FaultRecord) (s : State) :
    (offer r s).cu.attention = s.cu.attention ||| 0x0020#16 := by
  rw [offer, setCause_cu_attention, fault_mask]

end Sys2Proof.Machine

namespace Sys2Proof

open Machine

/-- Settles O20: the slot after the offer is that of `offerTo`, whose cases are the clauses on the record
and its count. -/
theorem faultSlotTakesRecord : Obligations.FaultSlotTakesRecord := by
  intro cls s u
  have slot : u.fault.slot = some (offerTo s.fault.slot (formRecord cls s)) := offer_slot _ s
  refine ⟨fun empty => ?empty, fun h held higher => ?replaced, fun h held le => ?kept,
    offer_attention _ s, offer_holder _ s,
    ⟨_, slot, offerTo_priority_le_offered _ (formRecord cls s), fun h held => ?highest⟩,
    fun _ _ _ => ⟨offerTo_comm, fun same => offerTo_offerTo_of_le same.le⟩⟩
  case empty => rw [slot, empty, offerTo_none]
  case replaced => rw [slot, held, offerTo_of_lt (r := formRecord cls s) higher]
  case kept => rw [slot, held, offerTo_of_le (r := formRecord cls s) le]
  case highest => rw [held]; exact offerTo_priority_le_held h _

end Sys2Proof

/-! ## Proofs: the block mapper (chapter 5)

The spare scan, the list of a zone and its consistency, each under a reassignment; and the sector of a
block. -/

namespace Sys2Proof.Machine

/-! ### The spare scan (R99) -/

/-- The first clear spare of a zone, W when there is none. -/
theorem spareScan_spec (t : CartType) (z : Zone) :
    spareScan t z ≤ t.spareWidth ∧ (∀ i, i < spareScan t z → z.isSet i = true)
    ∧ (spareScan t z < t.spareWidth → z.isSet (spareScan t z) = false) := by
  unfold spareScan
  cases h : (List.range t.spareWidth).find? fun k => !z.isSet k with
  | none =>
    have full : ∀ i, i < t.spareWidth → z.isSet i = true := by simpa using h
    exact ⟨le_rfl, full, fun lt => absurd lt (lt_irrefl _)⟩
  | some k =>
    obtain ⟨clear, mem, below⟩ := List.find?_range_eq_some.mp h
    have lt : k < t.spareWidth := List.mem_range.mp mem
    exact ⟨lt.le, fun i hi => by simpa using below i hi, fun _ => by simpa using clear⟩

/-! ### The bitmap -/

theorem spareWidth_le (t : CartType) : t.spareWidth ≤ 32 := by cases t <;> decide

theorem isSet_markSet (z : Zone) {k : Nat} (h : k < 32) (i : Nat) :
    (z.markSet k).isSet i = (z.isSet i || decide (i = k)) := by
  simp only [Zone.markSet, Zone.isSet, BitVec.getLsbD_or, BitVec.getLsbD_shiftLeft,
    BitVec.getLsbD_one]
  congr 1
  by_cases hi : i = k
  · simp [hi, h]
  · have apart : ¬ (k ≤ i ∧ i - k = 0) := by omega
    simp only [hi, decide_false]
    by_cases lt : i < k
    · simp [lt]
    · have : i - k ≠ 0 := by omega
      simp [this]

/-! ### The list of a zone (R94, R100) -/

/-- Offsets rise strictly. -/
theorem rising_iff (l : List ListEntry) :
    rising l = true ↔ l.Pairwise fun e f => e.offset < f.offset := by
  have : IsTrans ListEntry fun e f => e.offset < f.offset := ⟨fun _ _ _ => lt_trans⟩
  rw [← List.isChain_iff_pairwise]
  induction l with
  | nil => simp [rising]
  | cons e es ih =>
    cases es with
    | nil => simp [rising]
    | cons f fs => simp [rising, ih, List.isChain_cons_cons]

theorem mem_putEntry {o k : Nat} {e : ListEntry} {l : List ListEntry} (h : e ∈ putEntry o k l) :
    e = { offset := o, spare := k } ∨ e ∈ l := by
  induction l with
  | nil => simpa [putEntry] using h
  | cons f fs ih =>
    unfold putEntry at h
    split at h
    · simpa using h
    · split at h
      · obtain h | h := List.mem_cons.mp h
        · exact .inl h
        · exact .inr (List.mem_cons_of_mem _ h)
      · obtain h | h := List.mem_cons.mp h
        · exact .inr (h ▸ List.mem_cons_self)
        · exact (ih h).imp_right (List.mem_cons_of_mem _)

/-- An entry that goes into a rising list leaves it rising. -/
theorem rising_putEntry {o k : Nat} {l : List ListEntry} (h : rising l = true) :
    rising (putEntry o k l) = true := by
  rw [rising_iff] at h ⊢
  induction l with
  | nil => simp [putEntry]
  | cons f fs ih =>
    obtain ⟨above, rest⟩ := List.pairwise_cons.mp h
    unfold putEntry
    split
    · rename_i lt
      exact List.pairwise_cons.mpr ⟨fun e he => (List.mem_cons.mp he).elim (fun e' => e' ▸ lt)
        fun e' => lt.trans (above e e'), h⟩
    · split
      · rename_i same
        exact List.pairwise_cons.mpr ⟨fun e he => by simpa [same] using above e he, rest⟩
      · refine List.pairwise_cons.mpr ⟨fun e he => ?_, ih rest⟩
        obtain rfl | he := mem_putEntry he
        · simp only; omega
        · exact above e he

theorem find_putEntry_same (o k : Nat) (l : List ListEntry) :
    (putEntry o k l).find? (fun e => e.offset == o) = some { offset := o, spare := k } := by
  induction l with
  | nil => simp [putEntry]
  | cons f fs ih =>
    unfold putEntry
    split
    · simp
    · split
      · simp
      · rename_i _ ne
        rw [List.find?_cons_of_neg (by simpa using fun h => ne h.symm), ih]

theorem find_putEntry_other {o o' : Nat} (k : Nat) (l : List ListEntry) (h : o' ≠ o) :
    (putEntry o k l).find? (fun e => e.offset == o') = l.find? fun e => e.offset == o' := by
  induction l with
  | nil => simp [putEntry, h.symm]
  | cons f fs ih =>
    unfold putEntry
    split
    · rw [List.find?_cons_of_neg (by simpa using h.symm)]
    · split
      · rename_i same
        rw [List.find?_cons_of_neg (by simpa using h.symm), List.find?_cons_of_neg (by simpa [← same] using h.symm)]
      · simp only [List.find?_cons, ih]

/-- An entry replaces that of its offset, and otherwise makes the list one longer. -/
theorem length_putEntry {o k : Nat} {l : List ListEntry} (h : rising l = true) :
    (putEntry o k l).length
      = l.length + (if (l.find? fun e => e.offset == o).isNone then 1 else 0) := by
  rw [rising_iff] at h
  induction l with
  | nil => simp [putEntry]
  | cons f fs ih =>
    obtain ⟨above, rest⟩ := List.pairwise_cons.mp h
    unfold putEntry
    split
    · rename_i lt
      have none : (f :: fs).find? (fun e => e.offset == o) = none := by
        simp only [List.find?_eq_none, beq_iff_eq]
        intro e he
        obtain rfl | he := List.mem_cons.mp he
        · omega
        · have := above e he; omega
      simp [none]
    · split
      · rename_i same
        simp [same]
      · rename_i _ ne
        rw [List.find?_cons_of_neg (by simpa using fun h => ne h.symm), List.length_cons, ih rest]
        simp only [List.length_cons]
        omega

/-- Different spares stay different when a fresh one is named. -/
theorem nodup_putEntry {o k : Nat} {l : List ListEntry} (h : (l.map fun e => e.spare).Nodup)
    (fresh : k ∉ l.map fun e => e.spare) : ((putEntry o k l).map fun e => e.spare).Nodup := by
  induction l with
  | nil => simp [putEntry]
  | cons f fs ih =>
    rw [List.map_cons, List.nodup_cons] at h
    rw [List.map_cons, List.mem_cons, not_or] at fresh
    obtain ⟨ne, fresh⟩ := fresh
    unfold putEntry
    split
    · simp only [List.map_cons, List.nodup_cons, List.mem_cons, not_or]
      exact ⟨⟨ne, fresh⟩, h⟩
    · split
      · rw [List.map_cons, List.nodup_cons]
        exact ⟨fresh, h.2⟩
      · rw [List.map_cons, List.nodup_cons]
        refine ⟨fun mem => ?_, ih h.2 fresh⟩
        obtain ⟨e, he, eq⟩ := List.mem_map.mp mem
        obtain rfl | he := mem_putEntry he
        · exact ne eq
        · exact h.1 (eq ▸ List.mem_map_of_mem he)

/-! ### Consistent zone entries (R94) -/

/-- What R94 states of a zone entry; that the list is no longer than the set spares follows from its spares
being different ones that are set. -/
theorem consistent_iff (t : CartType) (z : Zone) : z.consistent t = true ↔
    (∀ e ∈ z.list, e.offset < t.userSlots ∧ e.spare < t.spareWidth ∧ z.isSet e.spare = true)
    ∧ rising z.list = true ∧ (z.list.map fun e => e.spare).Nodup := by
  have short : (∀ e ∈ z.list, e.offset < t.userSlots ∧ e.spare < t.spareWidth ∧ z.isSet e.spare = true) →
      (z.list.map fun e => e.spare).Nodup → z.list.length ≤ z.setCount t := by
    intro all nodup
    have sub : (z.list.map fun e => e.spare) ⊆ (List.range t.spareWidth).filter fun k => z.isSet k := by
      intro k hk
      obtain ⟨e, he, rfl⟩ := List.mem_map.mp hk
      obtain ⟨-, lt, set⟩ := all e he
      exact List.mem_filter.mpr ⟨List.mem_range.mpr lt, set⟩
    have le := (nodup.subperm sub).length_le
    rwa [List.length_map, ← List.countP_eq_length_filter] at le
  simp only [Zone.consistent, Bool.and_eq_true, decide_eq_true_eq, List.all_eq_true, and_assoc]
  exact ⟨fun ⟨_, h⟩ => h, fun ⟨a, b, c⟩ => ⟨short a c, a, b, c⟩⟩

theorem empty_consistent (t : CartType) : Zone.empty.consistent t = true := by
  rw [consistent_iff]
  simp [Zone.empty, rising]

theorem emptyZones_consistent (t : CartType) : ∀ z ∈ emptyZones t, z.consistent t = true := by
  intro z hz
  rw [List.eq_of_mem_replicate hz]
  exact empty_consistent t

/-- A further spare marked set leaves a zone entry consistent (R101). -/
theorem markSet_consistent {t : CartType} {z : Zone} {k : Nat} (hk : k < 32)
    (h : z.consistent t = true) : (z.markSet k).consistent t = true := by
  rw [consistent_iff] at h ⊢
  obtain ⟨all, rest⟩ := h
  refine ⟨fun e he => ?_, rest⟩
  obtain ⟨a, b, c⟩ := all e he
  exact ⟨a, b, by rw [isSet_markSet z hk, c, Bool.true_or]⟩

/-- The three ways in which a reassignment comes out (R100). -/
theorem reassignZone_cases (wp : Bool) (t : CartType) (o : Nat) (z : Zone) :
    wp = true ∧ reassignZone wp t o z = .refused .writeProtected
    ∨ wp = false ∧ spareScan t z = t.spareWidth ∧ reassignZone wp t o z = .refused .sparesExhausted
    ∨ wp = false ∧ spareScan t z < t.spareWidth ∧ reassignZone wp t o z = .moved (spareScan t z)
        { spares := (z.markSet (spareScan t z)).spares, list := putEntry o (spareScan t z) z.list } := by
  have le := (spareScan_spec t z).1
  unfold reassignZone
  cases wp
  · by_cases full : spareScan t z = t.spareWidth
    · simp [full]
    · simp [full, lt_of_le_of_ne le full]
  · simp

/-- A reassignment leaves a zone entry consistent (R94, R100). -/
theorem reassignZone_consistent {wp : Bool} {t : CartType} {o k : Nat} {z z' : Zone}
    (user : o < t.userSlots) (h : z.consistent t = true) (moved : reassignZone wp t o z = .moved k z') :
    z'.consistent t = true := by
  obtain ⟨-, eq⟩ | ⟨-, -, eq⟩ | ⟨-, lt, eq⟩ := reassignZone_cases wp t o z
  · rw [eq] at moved; cases moved
  · rw [eq] at moved; cases moved
  · rw [eq] at moved
    obtain ⟨rfl, rfl⟩ := Moved.moved.inj moved
    have small : spareScan t z < 32 := lt.trans_le (spareWidth_le t)
    have clear := (spareScan_spec t z).2.2 lt
    obtain ⟨all, up, nodup⟩ := (consistent_iff t z).mp h
    have set (i : Nat) : Zone.isSet
        { spares := (z.markSet (spareScan t z)).spares, list := putEntry o (spareScan t z) z.list } i
          = (z.isSet i || decide (i = spareScan t z)) := isSet_markSet z small i
    refine (consistent_iff t _).mpr ⟨fun e he => ?_, rising_putEntry up, ?_⟩
    · obtain rfl | he := mem_putEntry he
      · exact ⟨user, lt, by simp [set]⟩
      · obtain ⟨a, b, c⟩ := all e he
        exact ⟨a, b, by simp [set, c]⟩
    · have fresh : spareScan t z ∉ z.list.map fun e => e.spare := by
        intro mem
        obtain ⟨e, he, eq⟩ := List.mem_map.mp mem
        rw [← eq, (all e he).2.2] at clear
        cases clear
      exact nodup_putEntry nodup fresh

/-! ### Translation (R95, R96) -/

theorem spareOf_putEntry_same {z z' : Zone} {o k : Nat} (h : z'.list = putEntry o k z.list) :
    spareOf z' o = some k := by
  simp [spareOf, h, find_putEntry_same]

theorem spareOf_putEntry_other {z z' : Zone} {o o' k : Nat} (h : z'.list = putEntry o k z.list)
    (ne : o' ≠ o) : spareOf z' o' = spareOf z o' := by
  simp [spareOf, h, find_putEntry_other k z.list ne]

theorem mem_of_spareOf {z : Zone} {o k : Nat} (h : spareOf z o = some k) :
    { offset := o, spare := k } ∈ z.list := by
  obtain ⟨e, found, rfl⟩ := Option.map_eq_some_iff.mp h
  have at_o : e.offset = o := by simpa using List.find?_some found
  subst at_o
  exact List.mem_of_find?_eq_some found

/-- A zone has its user slots and its spares on 40 tracks of 16 sectors. -/
theorem userSlots_add_spareWidth (t : CartType) : t.userSlots + t.spareWidth = 640 := by
  cases t <;> rfl

theorem zoneAt_consistent {t : CartType} {zones : List Zone}
    (h : ∀ z ∈ zones, z.consistent t = true) (i : Nat) : (zoneAt zones i).consistent t = true := by
  unfold zoneAt
  by_cases lt : i < zones.length
  · rw [List.getD_eq_getElem _ _ lt]
    exact h _ (List.getElem_mem lt)
  · rw [List.getD_eq_default _ _ (not_lt.mp lt)]
    exact empty_consistent t

theorem slotOf_lt {t : CartType} {z : Zone} {o : Nat} (h : z.consistent t = true)
    (user : o < t.userSlots) : slotOf t z o < 640 := by
  have all := ((consistent_iff t z).mp h).1
  have sum := userSlots_add_spareWidth t
  unfold slotOf
  split
  · rename_i k hk
    have := (all _ (mem_of_spareOf hk)).2.1
    simp only at this
    omega
  · omega

/-- In a consistent zone no two offsets share a slot. -/
theorem slotOf_injective {t : CartType} {z : Zone} {o p : Nat} (h : z.consistent t = true)
    (ho : o < t.userSlots) (hp : p < t.userSlots) (same : slotOf t z o = slotOf t z p) : o = p := by
  obtain ⟨-, -, nodup⟩ := (consistent_iff t z).mp h
  unfold slotOf at same
  split at same
  · rename_i k hk
    split at same
    · rename_i l hl
      obtain rfl : k = l := by omega
      have := List.inj_on_of_nodup_map nodup (mem_of_spareOf hk) (mem_of_spareOf hl) rfl
      exact congrArg ListEntry.offset this
    · omega
  · split at same <;> omega

/-- Different slots lie in different sectors (R95). -/
theorem slotPlace_injective {y z m n : Nat} (hm : m < 640) (hn : n < 640)
    (same : slotPlace y m = slotPlace z n) : y = z ∧ m = n := by
  simp only [slotPlace, Place.mk.injEq] at same
  omega

theorem slotPlace_range {t : CartType} {z n : Nat} (hz : z < t.zoneCount) (hn : n < 640) :
    1 ≤ (slotPlace z n).cyl ∧ (slotPlace z n).cyl ≤ t.lastCylinder ∧ (slotPlace z n).head ≤ 1
    ∧ (slotPlace z n).sector ≤ 15 := by
  have last : t.lastCylinder = 20 * t.zoneCount := by cases t <;> rfl
  simp only [slotPlace, last]
  omega

theorem zone_lt {t : CartType} {lba : Nat} (h : lba < t.capacity) : lba / t.userSlots < t.zoneCount :=
  Nat.div_lt_of_lt_mul (by rwa [Nat.mul_comm])

theorem offset_lt (t : CartType) (lba : Nat) : lba % t.userSlots < t.userSlots :=
  Nat.mod_lt _ (by cases t <;> decide)

end Sys2Proof.Machine

namespace Sys2Proof

open Machine

/-- Settles O17: the scan is the first clear spare, and a reassignment that is not refused inserts or
replaces one entry of the list and marks one spare. -/
theorem reassignmentMovesOneOffset : Obligations.ReassignmentMovesOneOffset := by
  refine ⟨fun t z => ?scan, fun wp t o z => ⟨?protect, ?full, ?moved⟩,
    fun t o k z z' user h moved => reassignZone_consistent user h moved⟩
  case scan =>
    obtain ⟨le, below, clear⟩ := spareScan_spec t z
    cases t <;> exact ⟨le, below, clear, fun _ => rfl⟩
  case protect => rintro rfl; rfl
  case full => rintro rfl h; simp [reassignZone, h]
  case moved =>
    rintro rfl lt up
    have ne : spareScan t z ≠ t.spareWidth := lt.ne
    refine ⟨{ spares := (z.markSet (spareScan t z)).spares, list := putEntry o (spareScan t z) z.list },
      by simp [reassignZone, ne], spareOf_putEntry_same rfl,
      fun o' h => spareOf_putEntry_other rfl h, rising_putEntry up,
      isSet_markSet z (lt.trans_le (spareWidth_le t)), ?_⟩
    simpa [spareOf] using length_putEntry up

/-- Settles O18: a block is its zone and its offset, its slot is one of the 640 of the zone, and the place
gives the zone and the slot back. -/
theorem translationIsInjective : Obligations.TranslationIsInjective := by
  intro t zones h
  have slot (l : Nat) : slotOf t (zoneAt zones (l / t.userSlots)) (l % t.userSlots) < 640 :=
    slotOf_lt (zoneAt_consistent h _) (offset_lt t l)
  refine ⟨fun l hl => slotPlace_range (zone_lt hl) (slot l), fun l m _ _ same => ?_⟩
  obtain ⟨zone, slots⟩ := slotPlace_injective (slot l) (slot m) same
  rw [← zone] at slots
  have offset := slotOf_injective (zoneAt_consistent h _) (offset_lt t l) (offset_lt t m) slots
  rw [← Nat.div_add_mod l t.userSlots, ← Nat.div_add_mod m t.userSlots, zone, offset]

end Sys2Proof

/-! ## Proofs: the guard of a held fault fails outside the laws -/

namespace Sys2Proof

open Machine

/-- A record of SUPPLY LOSS. -/
def supplyLossRecord : FaultRecord :=
  { cls := .supplyLoss, cyl := 0, head := 0, tag := none, lba := none, count := 1 }

/-- A SPIN DOWN waits for its spindle, which is AT_SPEED, with a write-back result already under way and
PARKED heads; the channel writes a sector, and slot and holder both keep a SUPPLY LOSS. No law of the part
holds here: the statement asks for none. -/
def unguarded : State := { State.reset with
  pins := { State.reset.pins with park := false }
  spin := { State.reset.spin with state := .atSpeed }
  cart := { State.reset.cart with type := some .a }
  cu := { State.reset.cu with slot := { Slot.free with item := .autoStart, work := .downSpin } }
  chan := { State.reset.chan with op := some (.write { cyl := 0, head := 0, sector := 0 } []) }
  fault := { slot := some supplyLossRecord, holder := some supplyLossRecord, warning := false }
  mail := { Mail.none with saved := some .both }
  pending := [.clearAttention 0#8 Cause.fault.mask] }

/-- What CLEAR ATTENTION makes of it: with the slot empty the write-back loads the heads, its result retracts
them, and the cut of the sector offers the held record to the slot. -/
def unguardedAfter : State :=
  receiveCommand (doClearAttention 0#8 Cause.fault.mask) { unguarded with pending := [] }

theorem step_unguarded : step unguarded = .next unguardedAfter := rfl

theorem unguardedAfter_held : class13Held unguardedAfter = true := by decide

theorem unguardedAfter_retracts : unguardedAfter.pos.state = .retracting := by decide

/-- Refutes O11: in a state outside the laws a CLEAR ATTENTION that empties the fault slot lets the heads
out of PARKED, and the cut of a sector write refills the slot with the holder's class 1–3 fault. -/
theorem not_faultAndWriteProtectGuard : ¬ Obligations.FaultAndWriteProtectGuard := by
  rintro ⟨guard, -⟩
  have parked := guard unguarded unguardedAfter rfl rfl
    (by intro l rest; simp [unguarded]) step_unguarded unguardedAfter_held
  rw [unguardedAfter_retracts] at parked
  cases parked

end Sys2Proof

/-! ## Proofs: the operations of the mechanism

What every operation of the heads, the spindle, the clock and the channel keeps (`MechKept`), from the cut of
a sector up to the raising of a fault and the work of a servo sample. -/

namespace Sys2Proof.Machine

/-! ### Laws of the mechanism along an operation -/

/-- A fault slot that holds a record goes on with it, or with one of higher priority, and the count does not
fall (R144); a count stays in 1..255. -/
def SlotKept (a b : Option FaultRecord) : Prop :=
  (∀ r, a = some r → ∃ r', b = some r'
      ∧ (r'.cls.priority < r.cls.priority ∨ r' = { r with count := r'.count })
      ∧ (r.count ≤ 255 → r.count ≤ r'.count ∧ r'.count ≤ 255))
  ∧ ((∀ r, a = some r → 1 ≤ r.count ∧ r.count ≤ 255) → ∀ r, b = some r → 1 ≤ r.count ∧ r.count ≤ 255)

@[simp] theorem SlotKept.rfl (a : Option FaultRecord) : SlotKept a a :=
  ⟨fun r h => ⟨r, h, .inr (by cases r; rfl), fun le => ⟨le_rfl, le⟩⟩, fun h => h⟩

theorem SlotKept.trans {a b c : Option FaultRecord} (h : SlotKept a b) (k : SlotKept b c) :
    SlotKept a c := by
  refine ⟨fun r hr => ?_, fun g => k.2 (h.2 g)⟩
  obtain ⟨r', hb, out, count⟩ := h.1 r hr
  obtain ⟨r'', hc, out', count'⟩ := k.1 r' hb
  refine ⟨r'', hc, ?_, fun le => ?_⟩
  · obtain lt | same := out <;> obtain lt' | same' := out'
    · exact .inl (lt'.trans lt)
    · rw [same']; exact .inl lt
    · rw [same] at lt'; exact .inl lt'
    · right; rw [same', same]
  · obtain ⟨le₁, hi⟩ := count le
    obtain ⟨le₂, hi₂⟩ := count' hi
    exact ⟨le₁.trans le₂, hi₂⟩

/-- An offer keeps the slot's record or replaces it by one of higher priority (R144). -/
theorem offerTo_slotKept (a : Option FaultRecord) (r : FaultRecord) :
    SlotKept a (some (offerTo a r)) := by
  cases a with
  | none => exact ⟨fun _ h => (Option.some_ne_none _ h.symm).elim, fun _ x hx => by
      obtain rfl := Option.some.inj hx
      simp [offerTo]⟩
  | some h =>
    obtain ⟨count, out⟩ := offerTo_some h r
    refine ⟨fun x hx => ?_, fun g x hx => ?_⟩
    · obtain rfl := Option.some.inj hx
      refine ⟨_, rfl, ?_, by omega⟩
      obtain same | ⟨cls, lt⟩ := out
      · right; rw [same]
      · left; rwa [cls]
    · obtain rfl := Option.some.inj hx
      omega

/-- The ranges of the mechanism's outputs and counts: the clauses of `RangeLaw` but for those on the frame
being sent (R25, R26, R42, R48). -/
def MechRange (s : State) : Prop :=
  (s.spin.drive ≤ 255 ∧ s.spin.gap ≤ 1000000 ∧ s.spin.period ≤ 1000000)
  ∧ (-127 ≤ s.pos.current ∧ s.pos.current ≤ 127)
  ∧ s.clk.good ≤ 32 ∧ s.chan.rotation ≤ 31

/-- What an operation of the heads, the spindle or the channel keeps: the laws of the mechanism, and of the
fault slot. -/
structure MechLaws (s t : State) : Prop where
  spindle : SpindleLaw s → SpindleLaw t
  gate : GateLaw s → GateLaw t
  clock : ClockLaw s → ClockLaw t
  range : MechRange s → MechRange t
  slot : SlotKept s.fault.slot t.fault.slot

/-- Besides, an operation other than a start request does not move a mechanism that is STOPPED and
PARKED. -/
structure MechKept (s t : State) : Prop extends MechLaws s t where
  still : s.spin.state = .stopped → s.pos.state = .parked →
    t.spin.state = .stopped ∧ t.pos.state = .parked

theorem MechLaws.trans {s t u : State} (h : MechLaws s t) (k : MechLaws t u) : MechLaws s u where
  spindle := k.spindle ∘ h.spindle
  gate := k.gate ∘ h.gate
  clock := k.clock ∘ h.clock
  range := k.range ∘ h.range
  slot := h.slot.trans k.slot

theorem MechKept.rfl {s : State} : MechKept s s :=
  ⟨⟨id, id, id, id, .rfl _⟩, fun h k => ⟨h, k⟩⟩

theorem MechKept.trans {s t u : State} (h : MechKept s t) (k : MechKept t u) : MechKept s u where
  toMechLaws := h.toMechLaws.trans k.toMechLaws
  still a b := let ⟨c, d⟩ := h.still a b; k.still c d

/-- The same mechanism, as far as its laws can see. -/
def SameMech (s t : State) : Prop :=
  t.spin = s.spin ∧ t.clk.locked = s.clk.locked ∧ t.clk.good = s.clk.good ∧ t.pos.state = s.pos.state ∧ t.pos.current = s.pos.current
  ∧ t.chan.op = s.chan.op ∧ t.chan.wgate = s.chan.wgate ∧ t.chan.writeCurrent = s.chan.writeCurrent
  ∧ t.chan.rotation = s.chan.rotation ∧ t.fault.slot = s.fault.slot

theorem SameMech.kept {s t : State} (h : SameMech s t) : MechKept s t := by
  obtain ⟨hs, hc, hg, hp, hi, ho, hw, hwc, hr, hf⟩ := h
  refine ⟨⟨?_, ?_, ?_, ?_, by simp [hf]⟩, ?_⟩ <;>
    simp +contextual [SpindleLaw, GateLaw, writing, ClockLaw, MechRange, hs, hc, hg, hp, hi, ho, hw, hwc, hr]

/-- The gate is off in every state that meets the gate law but FOLLOWING with a write in progress. -/
theorem GateLaw.off {s : State} (g : GateLaw s)
    (h : s.pos.state ≠ .following ∨ writing s = false) : s.chan.wgate = false := by
  obtain ⟨same, on, -⟩ := g
  obtain h | h := h
  · exact Bool.eq_false_iff.mpr fun w => h (on w).1
  · rw [same, h]

/-- The clock falls back: REFERENCE with count 0. -/
def Clock.fallen (k : Clock) : Prop := k.locked = false ∧ k.good = 0

/-- The heads, the spindle and the clock change together, with no write in progress: what such a change has
to keep. -/
theorem MechKept.turn {s : State} {p : Positioner} {q : Spindle} {k : Clock}
    (safe : SpindleLaw s → SpindleLaw { s with pos := p, spin := q, clk := k })
    (off : s.pos.state ≠ .following ∨ writing s = false)
    (clock : k = s.clk ∨ k.fallen)
    (current : p.current = s.pos.current ∨ -127 ≤ p.current ∧ p.current ≤ 127)
    (spin : s.spin.drive ≤ 255 → s.spin.gap ≤ 1000000 → s.spin.period ≤ 1000000 →
      q.drive ≤ 255 ∧ q.gap ≤ 1000000 ∧ q.period ≤ 1000000)
    (still : s.spin.state = .stopped → s.pos.state = .parked → q.state = .stopped ∧ p.state = .parked) :
    MechKept s { s with pos := p, spin := q, clk := k } where
  spindle := safe
  gate g := by
    have closed := g.off off
    obtain ⟨same, -, zero⟩ := g
    exact ⟨same, fun on => by simp [closed] at on, zero⟩
  clock c := by
    obtain rfl | ⟨hl, hg⟩ := clock
    · exact c
    · simp [ClockLaw, hl, hg]
  range r := by
    obtain ⟨⟨hd, hg, hp⟩, hi, hk, hr⟩ := r
    refine ⟨spin hd hg hp, ?_, ?_, hr⟩
    · obtain same | bounds := current
      · exact same ▸ hi
      · exact bounds
    · obtain rfl | ⟨-, zero⟩ := clock
      · exact hk
      · simp [zero]
  slot := .rfl _
  still := still

end Sys2Proof.Machine

namespace Sys2Proof.Machine

/-! ### Answers, cuts and departures -/

theorem tellRequester_same (o : TargetOutcome) (s : State) : SameMech s (tellRequester o s) := by
  rw [tellRequester_eq]
  split <;> simp [SameMech]

theorem tellHeldEnded_same (s : State) : SameMech s (tellHeldEnded s) := by
  unfold tellHeldEnded
  split <;> simp [SameMech]

theorem discardHeld_same (s : State) : SameMech s (discardHeld s) := by
  have h := tellHeldEnded_same s
  simp only [SameMech, discardHeld] at h ⊢
  simpa using h

theorem noteEnd_same (cls : FaultClass) (s : State) : SameMech s (noteEnd cls s) := by
  unfold noteEnd
  split <;> simp [SameMech]

theorem markTorn_same (p : Place) (s : State) : SameMech s (markTorn p s) := by
  unfold markTorn
  split <;> simp [SameMech]

theorem clearTorn_same (p : Place) (s : State) : SameMech s (clearTorn p s) := by
  unfold clearTorn
  split <;> simp [SameMech]

/-- A state that differs from another in the fault slot alone, as far as the mechanism is concerned. -/
theorem offer_mech (r : FaultRecord) (s : State) : MechKept s (offer r s) where
  spindle := id
  gate := id
  clock := id
  range := id
  slot := offerTo_slotKept _ _
  still h k := ⟨h, k⟩

theorem releaseHolder_mech (s : State) : MechKept s (releaseHolder s) := by
  unfold releaseHolder
  split
  · exact .rfl
  · rename_i r _
    have empty : SameMech s { s with fault := { s.fault with holder := none } } := by simp [SameMech]
    exact (empty.kept.trans (offer_mech r _)).trans (noteEnd_same _ _).kept

/-- Closing the gate and the sector in work keeps every law of the mechanism. -/
theorem closeOp_mech (s : State) : MechKept s (closeOp s) where
  spindle := id
  gate _ := by simp [GateLaw, writing]
  clock := id
  range := id
  slot := .rfl _
  still h k := ⟨h, k⟩

theorem cutWrite_mech (s : State) : MechKept s (cutWrite s) := by
  unfold cutWrite
  split
  · rename_i p _ _
    have told : SameMech (markTorn p (closeOp s)) (sectorResult .cut (markTorn p (closeOp s))) := by
      simp [SameMech]
    exact (((closeOp_mech s).trans (markTorn_same p _).kept).trans told.kept).trans
      (releaseHolder_mech _)
  · exact .rfl

theorem depart_mech (s : State) : MechKept s (depart s) := by
  unfold depart
  split
  · have told : SameMech (closeOp s) (sectorResult .interrupted (closeOp s)) := by simp [SameMech]
    exact (closeOp_mech s).trans told.kept
  · exact cutWrite_mech s
  · exact .rfl

theorem endSector_mech (sig : ReadSignal) (s : State) : MechKept s (endSector sig s) := by
  unfold endSector
  split
  · split <;> exact (closeOp_mech s).trans (SameMech.kept (by simp [SameMech]))
  · rename_i p _ _
    have told : SameMech (clearTorn p (closeOp s)) (sectorResult .written (clearTorn p (closeOp s))) := by
      simp [SameMech]
    exact (((closeOp_mech s).trans (clearTorn_same p _).kept).trans told.kept).trans
      (releaseHolder_mech _)
  · exact .rfl

/-- Without a sector in work nothing is written. -/
theorem writing_of_op_none {s : State} (h : s.chan.op = none) : writing s = false := by
  simp [writing, h]

/-! ### The spindle and the clock apart from a departure

A departure, a cut and an answer read neither the spindle nor the clock, so that a change of one of them
may be made before or after. -/

/-- The state with this spindle and this clock. -/
def setDrive (q : Spindle) (k : Clock) (s : State) : State := { s with spin := q, clk := k }

theorem noteEnd_setDrive (cls : FaultClass) (q : Spindle) (k : Clock) (s : State) :
    noteEnd cls (setDrive q k s) = setDrive q k (noteEnd cls s) := by
  unfold noteEnd
  by_cases h : (executing s && s.mail.note.isNone) = true
  · rw [if_pos h, if_pos]
    · rfl
    · exact h
  · rw [if_neg h, if_neg]
    exact h

theorem releaseHolder_setDrive (q : Spindle) (k : Clock) (s : State) :
    releaseHolder (setDrive q k s) = setDrive q k (releaseHolder s) := by
  have same : (setDrive q k s).fault.holder = s.fault.holder := rfl
  unfold releaseHolder
  rw [same]
  split
  · rfl
  · rename_i r _
    exact noteEnd_setDrive _ q k (offer r { s with fault := { s.fault with holder := none } })

theorem markTorn_setDrive (p : Place) (q : Spindle) (k : Clock) (s : State) :
    markTorn p (setDrive q k s) = setDrive q k (markTorn p s) := by
  have same : (setDrive q k s).record.copyWrite = s.record.copyWrite := rfl
  unfold markTorn
  rw [same]
  split <;> rfl

theorem cutWrite_setDrive (q : Spindle) (k : Clock) (s : State) :
    cutWrite (setDrive q k s) = setDrive q k (cutWrite s) := by
  have same : (setDrive q k s).chan.op = s.chan.op := rfl
  unfold cutWrite
  rw [same]
  split
  · rename_i p _ _
    have step : sectorResult .cut (markTorn p (closeOp (setDrive q k s)))
        = setDrive q k (sectorResult .cut (markTorn p (closeOp s))) :=
      congrArg (sectorResult .cut) (markTorn_setDrive p q k (closeOp s))
    rw [step, releaseHolder_setDrive]
  · rfl

theorem depart_setDrive (q : Spindle) (k : Clock) (s : State) :
    depart (setDrive q k s) = setDrive q k (depart s) := by
  have same : (setDrive q k s).chan.op = s.chan.op := rfl
  unfold depart
  rw [same]
  split
  · rfl
  · exact cutWrite_setDrive q k s
  · rfl

theorem tellRequester_setDrive (o : TargetOutcome) (q : Spindle) (k : Clock) (s : State) :
    tellRequester o (setDrive q k s) = setDrive q k (tellRequester o s) := by
  have same : (setDrive q k s).pos.requester = s.pos.requester := rfl
  rw [tellRequester_eq, tellRequester_eq, same]
  split <;> rfl

/-! ### The requests of the heads -/

@[simp] theorem tellRequester_chan (o : TargetOutcome) (s : State) :
    (tellRequester o s).chan = s.chan := by
  rw [tellRequester_eq]
  split <;> rfl

@[simp] theorem tellRequester_spin (o : TargetOutcome) (s : State) :
    (tellRequester o s).spin = s.spin := by
  rw [tellRequester_eq]
  split <;> rfl

@[simp] theorem tellHeldEnded_chan (s : State) : (tellHeldEnded s).chan = s.chan := by
  unfold tellHeldEnded
  split <;> rfl

@[simp] theorem tellHeldEnded_spin (s : State) : (tellHeldEnded s).spin = s.spin := by
  unfold tellHeldEnded
  split <;> rfl

@[simp] theorem tellHeldEnded_pos (s : State) : (tellHeldEnded s).pos = s.pos := by
  unfold tellHeldEnded
  split <;> rfl

@[simp] theorem cutWrite_spin (s : State) : (cutWrite s).spin = s.spin :=
  (congrArg State.spin (cutWrite_setDrive s.spin s.clk s) :)

@[simp] theorem depart_spin (s : State) : (depart s).spin = s.spin :=
  (congrArg State.spin (depart_setDrive s.spin s.clk s) :)

/-- The positioner's own values while it retracts (R65). -/
def Positioner.retracting (p : Positioner) : Positioner :=
  { p with state := .retracting, current := -40, target := none, requester := none, settle := 0,
           offTrack := 0, missing := 0, seekCount := 0, restartUsed := false, load := none,
           retract := some Config.retractTime, landHere := false }

/-- The clock in REFERENCE with its timer stopped (R46). -/
def Clock.reference : Clock := { locked := false, good := 0, miss := none }

theorem Clock.reference_fallen : Clock.reference.fallen := ⟨rfl, rfl⟩

/-- The heads have begun to retract, before PARK is read. -/
def beganRetract (s : State) : State :=
  { tellRequester .ended (depart s) with pos := s.pos.retracting, clk := Clock.reference }

theorem enterRetracting_eq (s : State) :
    enterRetracting s
      = if (depart s).pins.park then enterParked (beganRetract s) else beganRetract s := by
  have park : (beganRetract s).pins.park = (depart s).pins.park := by
    simp only [beganRetract, tellRequester_eq]
    split <;> rfl
  have began : beganRetract s = { clockFallback (tellRequester .ended (depart s)) with
      pos := (tellRequester .ended (depart s)).pos.retracting } := by
    rw [tellRequester_pos, depart_pos]; rfl
  rw [← park, began]
  rfl

/-- What the report of PARKED makes of the spindle (R28, R39, R68). -/
def Spindle.seesParked (p : Spindle) : Spindle :=
  match p.state with
  | .coasting => p.enterBraking
  | .stopped => if p.pendingStart then p.enterKick else p
  | _ => p

theorem enterParked_eq (s : State) :
    enterParked s = { s with pos := s.pos.park, spin := s.spin.seesParked, clk := Clock.reference } := by
  have seen (u : State) : spindleSeesParked u = { u with spin := u.spin.seesParked } := by
    cases h : u.spin.state
    case stopped =>
      simp only [spindleSeesParked, Spindle.seesParked, h]
      split <;> rfl
    all_goals simp only [spindleSeesParked, Spindle.seesParked, h]
  exact seen _

/-- A spindle that sees the heads PARKED stays within its ranges. -/
theorem Spindle.seesParked_range {p : Spindle} (d : p.drive ≤ 255) (g : p.gap ≤ 1000000)
    (t : p.period ≤ 1000000) :
    p.seesParked.drive ≤ 255 ∧ p.seesParked.gap ≤ 1000000 ∧ p.seesParked.period ≤ 1000000 := by
  unfold Spindle.seesParked
  split
  · exact ⟨Nat.zero_le _, g, t⟩
  · split
    · exact ⟨le_rfl, g, t⟩
    · exact ⟨d, g, t⟩
  · exact ⟨d, g, t⟩

/-- With the heads PARKED any spindle meets the law of R37. -/
theorem spindleLaw_of_parked {s : State} (h : s.pos.state = .parked) : SpindleLaw s := by
  unfold SpindleLaw
  split <;> simp [h, PosState.home]

/-- With the heads on their way home the law of R37 asks that the spindle does not start or brake. -/
theorem spindleLaw_of_home {s : State} (h : s.pos.state.home = true)
    (k : s.spin.state = .atSpeed ∨ s.spin.state = .stopped ∨ s.spin.state = .coasting) :
    SpindleLaw s := by
  obtain k | k | k := k <;> simp [SpindleLaw, k, h]

/-- Over a spindle AT_SPEED every state of the heads meets the law of R37. -/
theorem spindleLaw_of_atSpeed {s : State} (h : s.spin.state = .atSpeed) : SpindleLaw s := by
  simp [SpindleLaw, h]

/-- With the heads flying the law of R37 has the spindle AT_SPEED. -/
theorem SpindleLaw.atSpeed {s : State} (l : SpindleLaw s) (h : s.pos.state.home = false) :
    s.spin.state = .atSpeed := by
  unfold SpindleLaw at l
  split at l <;> simp_all [PosState.home]

/-- Entry to PARKED by heads that were on their way. -/
theorem enterParked_mech {s : State} (away : s.pos.state = .retracting ∨ s.pos.state = .emergency) :
    MechKept s (enterParked s) := by
  rw [enterParked_eq]
  have not_parked : s.pos.state ≠ .parked := by obtain h | h := away <;> simp [h]
  have not_following : s.pos.state ≠ .following := by obtain h | h := away <;> simp [h]
  exact .turn (fun _ => spindleLaw_of_parked rfl) (.inl not_following) (.inr Clock.reference_fallen)
    (.inr ⟨by simp [Positioner.park], by simp [Positioner.park]⟩) Spindle.seesParked_range (fun _ h => absurd h not_parked)

/-- Heads that fly begin to retract, while the spindle AT_SPEED goes on as `q`, AT_SPEED or COASTING. -/
theorem beganRetract_mech {s : State} {q : Spindle} (flies : s.pos.state.home = false)
    (drive : q = s.spin ∨ q = s.spin.enterCoasting) :
    MechKept s (beganRetract { s with spin := q }) := by
  have eq : beganRetract { s with spin := q } =
      { tellRequester .ended (depart s) with
        pos := s.pos.retracting, spin := q, clk := Clock.reference } := by
    have h : tellRequester .ended (depart { s with spin := q })
        = setDrive q s.clk (tellRequester .ended (depart s)) := by
      rw [← tellRequester_setDrive, ← depart_setDrive]; rfl
    simp only [beganRetract, h]
    rfl
  have left := (depart_mech s).trans (tellRequester_same .ended (depart s)).kept
  have pos : (tellRequester .ended (depart s)).pos = s.pos := by simp
  have spin : (tellRequester .ended (depart s)).spin = s.spin := by simp
  have idle : writing (tellRequester .ended (depart s)) = false :=
    writing_of_op_none (by simp [depart_op])
  have not_parked : s.pos.state ≠ .parked := by rintro h; simp [h, PosState.home] at flies
  rw [eq]
  refine left.trans (.turn (fun l => ?_) (.inr idle) (.inr Clock.reference_fallen) (.inr ⟨by simp [Positioner.retracting], by simp [Positioner.retracting]⟩)
    ?_ (fun _ h => absurd (pos ▸ h) not_parked))
  · refine spindleLaw_of_home rfl ?_
    have turning := l.atSpeed (by rw [pos]; exact flies)
    rw [spin] at turning
    obtain rfl | rfl := drive
    · exact .inl turning
    · exact .inr (.inr rfl)
  · rw [spin]
    obtain rfl | rfl := drive
    · exact fun a b c => ⟨a, b, c⟩
    · exact fun _ b c => ⟨Nat.zero_le _, b, c⟩

theorem enterRetracting_mech {s : State} {q : Spindle} (flies : s.pos.state.home = false)
    (drive : q = s.spin ∨ q = s.spin.enterCoasting) :
    MechKept s (enterRetracting { s with spin := q }) := by
  rw [enterRetracting_eq]
  have began := beganRetract_mech flies drive
  split
  · exact began.trans (enterParked_mech (.inl rfl))
  · exact began

@[simp] theorem discardHeld_state (s : State) : (discardHeld s).pos.state = s.pos.state := by
  simp [discardHeld]

/-- A retract request, also one that goes with the run-down of the spindle (R37, R64). -/
theorem requestRetract_mech_of_flying {s : State} {q : Spindle} (flies : s.pos.state.home = false)
    (drive : q = s.spin ∨ q = s.spin.enterCoasting) :
    MechKept s (requestRetract { s with spin := q }) := by
  have spin : (discardHeld s).spin = s.spin := tellHeldEnded_spin s
  have eq : requestRetract { s with spin := q } = enterRetracting { discardHeld s with spin := q } := by
    have held : discardHeld { s with spin := q } = { discardHeld s with spin := q } := by
      simp only [discardHeld, tellHeldEnded]
      split <;> rfl
    unfold requestRetract
    rw [held]
    split <;> simp_all [PosState.home]
  rw [eq]
  exact (discardHeld_same s).kept.trans
    (enterRetracting_mech (by simpa using flies) (by rw [spin]; exact drive))

theorem requestRetract_mech (s : State) : MechKept s (requestRetract s) := by
  cases flies : s.pos.state.home with
  | false => exact requestRetract_mech_of_flying flies (.inl rfl)
  | true =>
    have home : requestRetract s = discardHeld s := by
      unfold requestRetract
      split <;> simp_all [PosState.home]
    rw [home]
    exact (discardHeld_same s).kept

/-- The positioner's own values on entry to EMERGENCY (R66). -/
def Positioner.hurrying (p : Positioner) : Positioner :=
  { p with state := .emergency, current := -60, target := none, requester := none, held := none,
           settle := 0, offTrack := 0, missing := 0, seekCount := 0, restartUsed := false,
           load := none, retract := none, emergency := some Config.emergencyTime, landHere := false }

/-- What the report of EMERGENCY makes of the spindle (R40). -/
def Spindle.seesEmergency (p : Spindle) : Spindle :=
  if p.state = .atSpeed then p.enterCoasting else p

/-- The heads have entered EMERGENCY, before PARK is read. -/
def beganEmergency (s : State) : State :=
  { tellHeldEnded (tellRequester .ended (depart s)) with
    pos := s.pos.hurrying, spin := s.spin.seesEmergency, clk := Clock.reference }

theorem enterEmergency_eq (s : State) :
    enterEmergency s
      = if (depart s).pins.park then enterParked (beganEmergency s) else beganEmergency s := by
  have park : (beganEmergency s).pins.park = (depart s).pins.park := by
    simp only [beganEmergency, tellHeldEnded, tellRequester_eq]
    split <;> split <;> rfl
  have pos : (tellHeldEnded (tellRequester .ended (depart s))).pos = s.pos := by simp
  have spin : (tellHeldEnded (tellRequester .ended (depart s))).spin = s.spin := by simp
  have began : beganEmergency s = { clockFallback (tellHeldEnded (tellRequester .ended (depart s))) with
      pos := (tellHeldEnded (tellRequester .ended (depart s))).pos.hurrying
      spin := (tellHeldEnded (tellRequester .ended (depart s))).spin.seesEmergency } := by
    rw [pos, spin]; rfl
  rw [← park, began]
  rfl

/-- Entry to EMERGENCY from a retract or from heads that fly (R66). -/
theorem enterEmergency_mech {s : State} (away : s.pos.state ≠ .parked) :
    MechKept s (enterEmergency s) := by
  have left := ((depart_mech s).trans (tellRequester_same .ended (depart s)).kept).trans
    (tellHeldEnded_same _).kept
  have pos : (tellHeldEnded (tellRequester .ended (depart s))).pos = s.pos := by simp
  have spin : (tellHeldEnded (tellRequester .ended (depart s))).spin = s.spin := by simp
  have idle : writing (tellHeldEnded (tellRequester .ended (depart s))) = false :=
    writing_of_op_none (by simp [depart_op])
  have began : MechKept s (beganEmergency s) := by
    refine left.trans (.turn (fun l => ?_) (.inr idle) (.inr Clock.reference_fallen)
      (.inr ⟨by simp [Positioner.hurrying], by simp [Positioner.hurrying]⟩) ?_
      (fun _ h => absurd (pos ▸ h) away))
    · refine spindleLaw_of_home rfl (.inr ?_)
      unfold SpindleLaw at l
      rw [pos, spin] at l
      split at l <;> simp_all [Spindle.seesEmergency, Spindle.enterCoasting]
    · rw [spin]
      unfold Spindle.seesEmergency
      split
      · exact fun _ b c => ⟨Nat.zero_le _, b, c⟩
      · exact fun a b c => ⟨a, b, c⟩
  rw [enterEmergency_eq]
  split
  · exact began.trans (enterParked_mech (.inr rfl))
  · exact began

theorem requestEmergency_mech (s : State) : MechKept s (requestEmergency s) := by
  unfold requestEmergency
  split
  · exact .rfl
  · exact .rfl
  · exact enterEmergency_mech ‹_›

/-! ### Target requests -/

theorem loadFailure_none {s : State} (h : loadFailure s = none) :
    s.spin.state = .atSpeed ∧ class13Held s = false := by
  unfold loadFailure at h
  split at h
  · cases h
  · split at h
    · cases h
    · simp_all

theorem requestParked_mech (t : Target) (q : Option Requester) {s : State}
    (parked : s.pos.state = .parked) : MechKept s (requestParked t q s) := by
  unfold requestParked
  split
  · rename_i ok
    obtain ⟨turning, free⟩ := loadFailure_none ok
    exact .turn (q := s.spin) (k := s.clk) (fun _ => spindleLaw_of_atSpeed turning)
      (.inl (by simp [parked])) (.inl rfl) (.inr ⟨by simp, by simp⟩) (fun a b c => ⟨a, b, c⟩)
      (fun h _ => by simp [turning] at h)
  · split
    · exact SameMech.kept (by simp [SameMech])
    · exact .rfl

/-- A seek begins from heads that fly with no write in progress. -/
theorem newSeek_mech (t : Target) (q : Option Requester) {s : State}
    (flies : s.pos.state.home = false) (idle : s.pos.state ≠ .following ∨ writing s = false) :
    MechKept s (newSeek t q s) := by
  have away : s.pos.state ≠ .parked := by rintro h; simp [h, PosState.home] at flies
  exact .turn (q := s.spin) (k := s.clk) (fun l => spindleLaw_of_atSpeed (l.atSpeed flies))
    idle (.inl rfl) (.inl rfl) (fun a b c => ⟨a, b, c⟩) (fun _ h => absurd h away)

theorem replaceRequester_same (q : Option Requester) (s : State) :
    SameMech s (replaceRequester q s) := by
  unfold replaceRequester
  split
  · simp [SameMech]
  · exact tellRequester_same _ s

@[simp] theorem replaceRequester_pos (q : Option Requester) (s : State) :
    (replaceRequester q s).pos = s.pos := by
  unfold replaceRequester
  split <;> simp

/-- A change of the positioner that its state and its current do not take part in. -/
theorem setPos_mech {s : State} {p : Positioner} (st : p.state = s.pos.state)
    (i : p.current = s.pos.current) : MechKept s { s with pos := p } :=
  SameMech.kept (by simp [SameMech, st, i])

section
variable {s : State} (t : Target) (q : Option Requester)

/-- A request joins the seek in progress at its target (R51). -/
def joinSeek (t : Target) (q : Option Requester) (s : State) : State :=
  { s with pos := { s.pos with requester := q, resume := t.cyl } }

/-- A request that finds the heads on their way home is held (R51). -/
def holdRequest (t : Target) (q : Option Requester) (s : State) : State :=
  { s with pos := { s.pos with held := some (t, q) } }

/-- The target of a load is replaced (R51). -/
def replaceTarget (t : Target) (q : Option Requester) (s : State) : State :=
  { s with pos := { s.pos with target := some t, requester := q, resume := t.cyl, landHere := false } }

/-- The target of a seek under COASTING is replaced, with the remembered state by the distance (R51). -/
def replaceCoasting (t : Target) (q : Option Requester) (s : State) : State :=
  { s with pos := { s.pos with
      remembered := seekState (t.position - s.pos.x), target := some t, requester := q,
      settle := 0, offTrack := 0, seekCount := 0, restartUsed := false, resume := t.cyl,
      landHere := false } }

/-- A request for the present target is complete at once (R51). -/
def completeAtOnce (t : Target) (q : Option Requester) (s : State) : State :=
  match q with
  | some _ => tell .complete { s with pos := { s.pos with resume := t.cyl } }
  | none => { s with pos := { s.pos with resume := t.cyl } }

theorem requestTarget_of_parked (h : s.pos.state = .parked) :
    requestTarget t q s = requestParked t q (dropTold s) := by
  simp only [requestTarget, h]; rfl

theorem requestTarget_of_loading (h : s.pos.state = .loading) :
    requestTarget t q s = replaceTarget t q (replaceRequester q (dropTold s)) := by
  simp only [requestTarget, h]; rfl

theorem requestTarget_of_seeking (h : s.pos.state = .seeking ∨ s.pos.state = .settling) :
    requestTarget t q s = if s.pos.target = some t then joinSeek t q (replaceRequester q (dropTold s))
      else newSeek t q (replaceRequester q (dropTold s)) := by
  obtain h | h := h <;> simp only [requestTarget, h] <;> rfl

theorem requestTarget_of_following (h : s.pos.state = .following) :
    requestTarget t q s = if s.pos.target = some t then completeAtOnce t q (dropTold s)
      else newSeek t q (depart (dropTold s)) := by
  cases q <;> simp only [requestTarget, completeAtOnce, dropTold, h]

theorem requestTarget_of_coasting (h : s.pos.state = .coasting) :
    requestTarget t q s = replaceCoasting t q (replaceRequester q (dropTold s)) := by
  simp only [requestTarget, h]; rfl

theorem requestTarget_of_returning (h : s.pos.state = .retracting ∨ s.pos.state = .emergency) :
    requestTarget t q s = holdRequest t q (tellHeldEnded (dropTold s)) := by
  obtain h | h := h <;> simp only [requestTarget, h] <;> rfl

/-- The states of the heads as the table of R51 groups them. -/
theorem PosState.request_cases (p : PosState) :
    p = .parked ∨ p = .loading ∨ (p = .seeking ∨ p = .settling) ∨ p = .following ∨ p = .coasting
    ∨ (p = .retracting ∨ p = .emergency) := by
  cases p <;> simp

end

theorem requestTarget_mech (t : Target) (q : Option Requester) (s : State) :
    MechKept s (requestTarget t q s) := by
  have asked : MechKept s (dropTold s) := SameMech.kept (by simp [SameMech])
  have replaced := asked.trans (replaceRequester_same q _).kept
  obtain h | h | h | h | h | h := s.pos.state.request_cases
  · rw [requestTarget_of_parked t q h]
    exact asked.trans (requestParked_mech t q h)
  · rw [requestTarget_of_loading t q h]
    exact replaced.trans (setPos_mech rfl rfl)
  · rw [requestTarget_of_seeking t q h]
    split
    · exact replaced.trans (setPos_mech rfl rfl)
    · refine replaced.trans (newSeek_mech t q ?_ (.inl ?_)) <;>
        obtain h | h := h <;> simp [h, PosState.home]
  · rw [requestTarget_of_following t q h]
    split
    · refine asked.trans (SameMech.kept ?_)
      cases q <;> simp [completeAtOnce, SameMech]
    · exact (asked.trans (depart_mech _)).trans (newSeek_mech t q (by simp [h, PosState.home])
        (.inr (writing_of_op_none (depart_op _))))
  · rw [requestTarget_of_coasting t q h]
    exact replaced.trans (setPos_mech rfl rfl)
  · rw [requestTarget_of_returning t q h]
    exact (asked.trans (tellHeldEnded_same _).kept).trans (setPos_mech rfl rfl)

/-- After the reports of an entry to PARKED a held request acts. -/
theorem heldActs_mech (s : State) : MechKept s (heldActs s) := by
  unfold heldActs
  split
  · have taken : MechKept s { s with pos := { s.pos with held := none } } := setPos_mech rfl rfl
    simp only
    split
    · exact taken.trans (requestParked_mech _ _ ‹_›)
    · exact taken
  · exact .rfl

theorem settleWhereItIs_mech (s : State) : MechKept s (settleWhereItIs s) := by
  unfold settleWhereItIs
  split
  · exact newSeek_mech _ _ (by simp [*, PosState.home]) (.inl (by simp [*]))
  · exact newSeek_mech _ _ (by simp [*, PosState.home]) (.inl (by simp [*]))
  · have freed : MechKept s { s with pos := { s.pos with requester := none } } := setPos_mech rfl rfl
    exact freed.trans (requestTarget_mech _ _ _)
  · exact setPos_mech rfl rfl
  · exact setPos_mech rfl rfl
  · exact setPos_mech rfl rfl
  · exact .rfl
  · exact .rfl

/-! ### Start and stop requests, and faults -/

/-- A change of the spindle alone, over heads that are home or with the spindle AT_SPEED still. -/
theorem setSpin_laws {s : State} {q : Spindle} (safe : SpindleLaw s → SpindleLaw { s with spin := q })
    (off : s.spin.state = .atSpeed → q.state = .atSpeed)
    (range : s.spin.drive ≤ 255 → s.spin.gap ≤ 1000000 → s.spin.period ≤ 1000000 →
      q.drive ≤ 255 ∧ q.gap ≤ 1000000 ∧ q.period ≤ 1000000) :
    MechLaws s { s with spin := q } where
  spindle := safe
  gate := fun ⟨same, on, zero⟩ => ⟨same, fun w => let ⟨a, b, c⟩ := on w; ⟨a, b, off c⟩, zero⟩
  clock := id
  range := fun ⟨⟨a, b, c⟩, r⟩ => ⟨range a b c, r⟩
  slot := .rfl _

theorem startRequest_laws (s : State) : MechLaws s (startRequest s) := by
  have pended (st : s.spin.state ≠ .atSpeed) :
      MechLaws s { s with spin := { s.spin with pendingStart := true } } :=
    setSpin_laws (fun h => by simpa [SpindleLaw] using h) id (fun a b c => ⟨a, b, c⟩)
  unfold startRequest
  split
  · split
    · exact setSpin_laws (fun _ => spindleLaw_of_parked ‹_›) (by simp [*])
        (fun _ b c => ⟨le_rfl, b, c⟩)
    · exact pended (by simp [*])
  · exact pended (by simp [*])
  · exact pended (by simp [*])
  · exact MechKept.rfl.toMechLaws
  · exact MechKept.rfl.toMechLaws
  · exact MechKept.rfl.toMechLaws
  · exact MechKept.rfl.toMechLaws

/-- The spindle as every stop request leaves it, before it runs down (R37). -/
def Spindle.withdrawn (p : Spindle) : Spindle := { p with pendingStart := false, spinUp := none }

theorem withdrawn_mech (s : State) : MechKept s { s with spin := s.spin.withdrawn } where
  toMechLaws := setSpin_laws id id (fun a b c => ⟨a, b, c⟩)
  still h k := ⟨h, k⟩

theorem stopRequest_mech (s : State) : MechKept s (stopRequest s) := by
  have start := withdrawn_mech s
  have eq : stopRequest s =
      match s.spin.state with
      | .stopped => { s with spin := s.spin.withdrawn }
      | .coasting => { s with spin := s.spin.withdrawn }
      | .braking => { s with spin := s.spin.withdrawn }
      | _ =>
        match s.pos.state with
        | .parked => { s with spin := s.spin.withdrawn.enterBraking }
        | .retracting => { s with spin := s.spin.withdrawn.enterCoasting }
        | .emergency => { s with spin := s.spin.withdrawn.enterCoasting }
        | _ => requestRetract { s with spin := s.spin.withdrawn.enterCoasting } := rfl
  have moving (u : Spindle) (hu : u.state ≠ .stopped) (turns : s.spin.state ≠ .stopped)
      (safe : SpindleLaw s → SpindleLaw { s with spin := u }) (home : s.pos.state.home = true)
      (range : u.drive = 0 ∧ u.gap = s.spin.gap ∧ u.period = s.spin.period) : MechKept s { s with spin := u } := by
    have away : s.pos.state ≠ .following := by rintro h; simp [h, PosState.home] at home
    obtain ⟨d, g, p⟩ := range
    exact .turn (p := s.pos) (k := s.clk) safe (.inl away) (.inl rfl) (.inl rfl)
      (fun _ b c => ⟨by omega, by omega, by omega⟩) (fun h => absurd h turns)
  rw [eq]
  split
  · exact start
  · exact start
  · exact start
  · rename_i turns _ _
    split
    · exact moving _ (by simp [Spindle.enterBraking]) turns (fun _ => spindleLaw_of_parked ‹_›)
        (by simp [*, PosState.home]) ⟨rfl, rfl, rfl⟩
    · exact moving _ (by simp [Spindle.enterCoasting]) turns
        (fun _ => spindleLaw_of_home (by simp [*, PosState.home]) (.inr (.inr rfl)))
        (by simp [*, PosState.home]) ⟨rfl, rfl, rfl⟩
    · exact moving _ (by simp [Spindle.enterCoasting]) turns
        (fun _ => spindleLaw_of_home (by simp [*, PosState.home]) (.inr (.inr rfl)))
        (by simp [*, PosState.home]) ⟨rfl, rfl, rfl⟩
    · rename_i p r e
      have flies : s.pos.state.home = false := by
        cases h : s.pos.state <;> simp_all [PosState.home]
      exact start.trans
        (requestRetract_mech_of_flying (s := { s with spin := s.spin.withdrawn }) flies (.inr rfl))

theorem cancelQueue_same (s : State) : SameMech s (cancelQueue s) := by simp [SameMech]

theorem respond_mech (cls : FaultClass) (s : State) : MechKept s (respond cls s) := by
  have noted := (noteEnd_same cls s).kept
  have cut := noted.trans (cutWrite_mech _)
  have home := cut.trans (requestRetract_mech _)
  have stall := (home.trans (stopRequest_mech _)).trans (cancelQueue_same _).kept
  cases cls
  case supplyLoss =>
    exact ((cut.trans (requestEmergency_mech _)).trans (stopRequest_mech _)).trans
      (cancelQueue_same _).kept
  case stallSpinUp => exact stall
  case stallIndexLoss => exact stall
  case stallBrake => exact stall
  case servoLoss => exact home.trans (cancelQueue_same _).kept
  case offTrack => exact cut
  case writeFault => exact cut
  case seekLoad => exact noted.trans (requestRetract_mech _)
  case seekSeek => exact noted.trans (requestRetract_mech _)
  case seekPark => exact noted.trans (requestRetract_mech _)
  case speedDeviation => exact .rfl
  case dataCheck => exact .rfl

theorem raise_mech (cls : FaultClass) (s : State) : MechKept s (raise cls s) :=
  (offer_mech _ s).trans (respond_mech cls _)

end Sys2Proof.Machine

namespace Sys2Proof.Machine

/-! ### An index arrival -/

theorem raiseDeviation_mech (s : State) : MechKept s (raiseDeviation s) := by
  unfold raiseDeviation
  split
  · exact SameMech.kept (by simp [SameMech])
  · exact raise_mech _ s

theorem regulate_le (d p gs : Nat) : regulate d p gs ≤ 255 := by
  have h := clampInt_mem 0 255 ((d : Int) + shiftRound ((gs : Int) * ((p : Int) - Config.nominalPeriod)) 4)
    (by decide)
  unfold regulate
  omega

theorem lockCheck_frame (p : Spindle) :
    p.lockCheck.drive = p.drive ∧ p.lockCheck.gap = p.gap ∧ p.lockCheck.period = p.period
    ∧ (p.lockCheck.state = p.state ∨ p.lockCheck.state = .atSpeed) := by
  unfold Spindle.lockCheck
  split
  · split <;> simp
  · simp

theorem deviationCheck_frame (p : Spindle) :
    p.deviationCheck.1.drive = p.drive ∧ p.deviationCheck.1.gap = p.gap
    ∧ p.deviationCheck.1.period = p.period ∧ p.deviationCheck.1.state = p.state := by
  unfold Spindle.deviationCheck
  split
  · simp
  · split <;> simp

/-- An index arrival leaves the spindle within its ranges. -/
theorem index_range {gs : Nat} {p : Spindle} (d : p.drive ≤ 255) (g : p.gap ≤ 1000000)
    (t : p.period ≤ 1000000) :
    (Spindle.index gs p).1.drive ≤ 255 ∧ (Spindle.index gs p).1.gap ≤ 1000000
    ∧ (Spindle.index gs p).1.period ≤ 1000000 := by
  have steered : regulate p.drive p.period gs ≤ 255 := regulate_le _ _ _
  unfold Spindle.index
  split
  · exact ⟨d, g, t⟩
  · exact ⟨d, g, t⟩
  · split
    · exact ⟨by simp, g, t⟩
    · exact ⟨d, g, t⟩
  · obtain ⟨hd, hg, hp, -⟩ := lockCheck_frame { p with drive := regulate p.drive p.period gs }
    exact ⟨by rw [hd]; exact steered, by rw [hg]; exact g, by rw [hp]; exact t⟩
  · split
    · exact ⟨by simpa using steered, by simpa using g, by simpa using t⟩
    · obtain ⟨hd, hg, hp, -⟩ := deviationCheck_frame { p with drive := regulate p.drive p.period gs }
      exact ⟨by rw [hd]; exact steered, by rw [hg]; exact g, by rw [hp]; exact t⟩
  · exact ⟨d, g, t⟩
  · exact ⟨d, g, t⟩

/-- What an index arrival makes of the state of the spindle: it goes on from KICK over ACCEL and REGULATE to
AT_SPEED, and otherwise stays. -/
theorem index_state (gs : Nat) (p : Spindle) :
    (Spindle.index gs p).1.state = p.state
    ∨ p.state = .kick ∧ (Spindle.index gs p).1.state = .accel
    ∨ p.state = .accel ∧ (Spindle.index gs p).1.state = .regulate
    ∨ p.state = .regulate ∧ (Spindle.index gs p).1.state = .atSpeed := by
  unfold Spindle.index
  split
  · exact .inl rfl
  · exact .inr (.inl ⟨‹_›, rfl⟩)
  · split
    · exact .inr (.inr (.inl ⟨‹_›, rfl⟩))
    · exact .inl rfl
  · obtain ⟨-, -, -, st | st⟩ := lockCheck_frame { p with drive := regulate p.drive p.period gs }
    · exact .inl st
    · exact .inr (.inr (.inr ⟨‹_›, st⟩))
  · split
    · simp
    · exact .inl (deviationCheck_frame _).2.2.2
  · exact .inl rfl
  · exact .inl rfl

/-- The spindle's part of an index arrival keeps the laws; it may bring the spindle AT_SPEED. -/
theorem indexSpindle_laws (s : State) : MechLaws s (indexSpindle s) := by
  have spun : MechLaws s { s with spin := (Spindle.index s.set.trims.gs s.spin.measure).1 } := by
    have st := index_state s.set.trims.gs s.spin.measure
    refine setSpin_laws (fun l => ?_) (fun h => ?_) (fun d _ _ => ?_)
    · obtain same | ⟨was, -⟩ | ⟨was, -⟩ | ⟨was, -⟩ := st
      · unfold SpindleLaw at l ⊢
        rw [same]
        exact l
      all_goals
        have was' : s.spin.state = _ := was
        exact spindleLaw_of_parked (by simpa [SpindleLaw, was'] using l)
    · have turning : s.spin.measure.state = .atSpeed := h
      obtain same | ⟨was, -⟩ | ⟨was, -⟩ | ⟨was, -⟩ := st
      · rw [same]; exact h
      all_goals rw [turning] at was; cases was
    · exact index_range d (Nat.zero_le _) (Nat.min_le_right _ _)
  unfold indexSpindle
  simp only
  split
  · exact spun.trans (raiseDeviation_mech _).toMechLaws
  · exact spun

/-- An index arrival at a stopped spindle does not start it. -/
theorem indexSpindle_still {s : State} (h : s.spin.state = .stopped) (k : s.pos.state = .parked) :
    (indexSpindle s).spin.state = .stopped ∧ (indexSpindle s).pos.state = .parked := by
  have st : (Spindle.index s.set.trims.gs s.spin.measure).1.state = .stopped := by
    have was : s.spin.measure.state = .stopped := h
    simp [Spindle.index, was]
  unfold indexSpindle
  simp only
  split
  · exact (raiseDeviation_mech _).still st k
  · exact ⟨st, k⟩

/-! ### Servo samples -/

theorem goodSample_mech (s : State) : MechKept s (goodSample s) where
  spindle := id
  gate := fun ⟨same, on, zero⟩ =>
    ⟨same, fun w => let ⟨a, b, c⟩ := on w; ⟨a, by simp [goodSample, b], c⟩, zero⟩
  clock := by
    rintro ⟨le, iff⟩
    refine ⟨Nat.min_le_left _ _, ?_⟩
    simp only [goodSample, Bool.or_eq_true, decide_eq_true_eq, iff]
    omega
  range := fun ⟨a, b, c, d⟩ => ⟨a, b, Nat.min_le_left _ _, d⟩
  slot := .rfl _
  still h k := ⟨h, k⟩

theorem clampCurrent_mem (i : Int) : -127 ≤ clampCurrent i ∧ clampCurrent i ≤ 127 :=
  clampInt_mem (-127) 127 i (by decide)

theorem seekCurrent_mem (st : PosState) (r v : Int) (s : State) :
    -127 ≤ seekCurrent st r v s ∧ seekCurrent st r v s ≤ 127 := by
  unfold seekCurrent
  split <;> exact clampCurrent_mem _

/-- The current changes, within its bounds. -/
theorem setCurrent_mech {s : State} {p : Positioner} (st : p.state = s.pos.state)
    (i : -127 ≤ p.current ∧ p.current ≤ 127) : MechKept s { s with pos := p } where
  spindle := by simp [SpindleLaw, st]
  gate := by simp [GateLaw, writing, st]
  clock := id
  range := fun ⟨a, _, c⟩ => ⟨a, i, c⟩
  slot := .rfl _
  still h k := ⟨h, by simpa [st] using k⟩

/-- The heads fly on in another state, with no write in progress. -/
theorem fly_mech {s : State} {p : Positioner} (flies : s.pos.state.home = false)
    (idle : s.pos.state ≠ .following ∨ writing s = false)
    (i : p.current = s.pos.current ∨ -127 ≤ p.current ∧ p.current ≤ 127) :
    MechKept s { s with pos := p } := by
  have away : s.pos.state ≠ .parked := by rintro h; simp [h, PosState.home] at flies
  exact .turn (q := s.spin) (k := s.clk) (fun l => spindleLaw_of_atSpeed (l.atSpeed flies))
    idle (.inl rfl) i (fun a b c => ⟨a, b, c⟩) (fun _ h => absurd h away)

theorem seekTimesOut_mech (s : State) : MechKept s (seekTimesOut s) := by
  unfold seekTimesOut
  split
  · have told := (tellRequester_same .failed s).kept
    exact (told.trans (setPos_mech (p := { (tellRequester .failed s).pos with requester := none })
      rfl rfl)).trans (raise_mech _ _)
  · exact setPos_mech rfl rfl

theorem seekState_home (r : Int) : (seekState r).home = false := by
  unfold seekState
  split <;> rfl

theorem seekState_ne_following (r : Int) : seekState r ≠ .following := by
  unfold seekState
  split <;> simp

theorem seekCompletes_mech {s : State} (flies : s.pos.state.home = false)
    (off : s.pos.state ≠ .following) : MechKept s (seekCompletes s) :=
  (tellRequester_same .complete s).kept.trans
    (fly_mech (by simpa using flies) (.inl (by simpa using off)) (.inl rfl))

/-- A sample of a seek finds the heads flying, and not FOLLOWING. -/
theorem seekSample_mech (r v : Int) {s : State} (flies : s.pos.state.home = false)
    (off : s.pos.state ≠ .following) : MechKept s (seekSample r v s) := by
  have moved : MechKept s (seekUpdate r v s) := fly_mech flies (.inl off) (.inr (seekCurrent_mem _ r v s))
  have eq : seekSample r v s =
      if Config.settleCount ≤ settleNext (seekState r) s.pos.settle r then seekCompletes (seekUpdate r v s)
      else if Config.seekSamples ≤ s.pos.seekCount + 1 then seekTimesOut (seekUpdate r v s)
      else seekUpdate r v s := rfl
  rw [eq]
  split
  · exact moved.trans (seekCompletes_mech (seekState_home r) (seekState_ne_following r))
  · split
    · exact moved.trans (seekTimesOut_mech _)
    · exact moved

theorem cutWrite_not_writing (s : State) : writing (cutWrite s) = false := by
  unfold cutWrite
  split
  · exact writing_of_op_none (by
      rename_i p d h
      simpa [cutWrite, h] using (cutWrite_gate s p d h).1)
  · rename_i h
    unfold writing
    split
    · rename_i p d hp; exact absurd hp (h p d)
    · rfl

theorem resettle_mech {s : State} (flies : s.pos.state.home = false)
    (idle : s.pos.state ≠ .following ∨ writing s = false) : MechKept s (resettle s) :=
  fly_mech flies idle (.inl rfl)

theorem followSample_mech (r v : Int) {s : State} (flies : s.pos.state = .following) :
    MechKept s (followSample r v s) := by
  have steered : MechKept s { s with pos := { s.pos with current := fineCurrent s.set.trims r v } } :=
    setCurrent_mech rfl (clampCurrent_mem _)
  have home : s.pos.state.home = false := by simp [flies, PosState.home]
  unfold followSample
  simp only
  split
  · exact steered.trans (setPos_mech rfl rfl)
  · split
    · refine (steered.trans (raise_mech _ _)).trans (resettle_mech ?_ (.inr ?_))
      · simpa [raise_offTrack_pos] using home
      · exact cutWrite_not_writing _
    · split
      · exact (steered.trans (depart_mech _)).trans (resettle_mech (by simpa using home)
          (.inr (writing_of_op_none (depart_op _))))
      · exact steered.trans (setPos_mech rfl rfl)

theorem landTarget_mech (cyl : Nat) (s : State) : MechKept s (landTarget cyl s) := by
  rw [landTarget_frame]
  exact setPos_mech rfl rfl

theorem sighted_mech (cyl : Nat) (pe : Int) (s : State) : MechKept s (sighted cyl pe s) := by
  let x := 256 * (cyl : Int) + pe
  have seen : MechKept (goodSample s) { goodSample s with
      pos := { s.pos with x, xp := some x, cylinder := cyl } } := setPos_mech rfl rfl
  exact ((goodSample_mech s).trans seen).trans (landTarget_mech cyl _)

@[simp] theorem sighted_state (cyl : Nat) (pe : Int) (s : State) :
    (sighted cyl pe s).pos.state = s.pos.state := by
  rw [sighted, landTarget_frame]

/-- A sample by the state that it finds, with the target that is then held (R50). -/
theorem takeSample_eq (cyl : Nat) (pe : Int) (s : State) :
    takeSample cyl pe s =
      let x := 256 * (cyl : Int) + pe
      let u := sighted cyl pe s
      let r := targetPosition u - x
      let v := measuredVelocity x s
      match s.pos.state with
      | .loading => loadSample r v u
      | .seeking => seekSample r v u
      | .settling => seekSample r v u
      | .following => followSample r v u
      | .coasting =>
        if s.pos.remembered = .following then followSample r v (resumed u) else seekSample r v (resumed u)
      | _ => s := by
  rw [← sighted_remembered cyl pe s]
  cases st : s.pos.state <;>
    simp only [takeSample, positionSample, sighted, goodSample, st, PosState.flying, if_true] <;> rfl

theorem takeSample_mech (cyl : Nat) (pe : Int) (s : State) : MechKept s (takeSample cyl pe s) := by
  have seen := sighted_mech cyl pe s
  rw [takeSample_eq]
  simp only
  split
  · refine seen.trans (fly_mech ?_ (.inl ?_) (.inr (seekCurrent_mem _ _ _ _))) <;> simp [*, PosState.home]
  · refine seen.trans (seekSample_mech _ _ ?_ ?_) <;> simp [*, PosState.home]
  · refine seen.trans (seekSample_mech _ _ ?_ ?_) <;> simp [*, PosState.home]
  · exact seen.trans (followSample_mech _ _ (by simp [*]))
  · have flies : (sighted cyl pe s).pos.state.home = false := by simp [*, PosState.home]
    have off : (sighted cyl pe s).pos.state ≠ .following := by simp [*]
    split
    · have back : MechKept (sighted cyl pe s) (resumed (sighted cyl pe s)) :=
        fly_mech flies (.inl off) (.inl rfl)
      exact (seen.trans back).trans (followSample_mech _ _ (by simp [resumed, *]))
    · have same (r v : Int) (u : State) : seekSample r v (resumed u)
          = seekSample r v { u with pos := { u.pos with missing := 0 } } := rfl
      rw [same]
      have counted : MechKept (sighted cyl pe s) { sighted cyl pe s with
          pos := { (sighted cyl pe s).pos with missing := 0 } } := setPos_mech rfl rfl
      exact (seen.trans counted).trans (seekSample_mech _ _ flies off)
  · exact .rfl

/-! ### Missing samples -/

/-- The clock's part of a declaration, with no write in progress (R43, R44). -/
theorem clockMisses_mech {s : State} (idle : s.pos.state ≠ .following ∨ writing s = false) :
    MechKept s (clockMisses s) :=
  .turn (p := s.pos) (q := s.spin) id idle (.inr ⟨rfl, rfl⟩) (.inl rfl) (fun a b c => ⟨a, b, c⟩)
    (fun a b => ⟨a, b⟩)

theorem PosState.home_of_tracks {p : PosState} (h : p.tracks = true) : p.home = false := by
  cases p <;> simp_all [PosState.tracks, PosState.flying, PosState.home]

/-- The first missing sample: the clock is lost and the heads coast, the sector in work cut or
interrupted (R43, R62). -/
theorem coastOn_clockMisses_mech {s : State} (flies : s.pos.state.home = false) :
    MechKept s (coastOn (clockMisses s)) := by
  by_cases coasts : s.pos.state = .coasting
  · have eq : coastOn (clockMisses s)
        = { clockMisses s with pos := { s.pos with missing := s.pos.missing + 1 } } := if_pos coasts
    rw [eq]
    exact (clockMisses_mech (.inl (by simp [coasts]))).trans (setPos_mech rfl rfl)
  · let p : Positioner := { s.pos with
      state := .coasting, current := 0, remembered := s.pos.state, missing := 1, settle := 0, offTrack := 0 }
    have eq : coastOn (clockMisses s)
        = { depart s with pos := p, spin := (depart s).spin, clk := (clockMisses s).clk } := by
      have cut : depart (clockMisses s) = setDrive s.spin (clockMisses s).clk (depart s) :=
        depart_setDrive s.spin (clockMisses s).clk s
      have off : coastOn (clockMisses s) = { depart (clockMisses s) with
          pos := { (depart (clockMisses s)).pos with
            state := .coasting, current := 0, remembered := s.pos.state, missing := 1, settle := 0
            offTrack := 0 } } := if_neg coasts
      rw [off, cut]
      simp [setDrive, p]
    have away : s.pos.state ≠ .parked := by rintro h; simp [h, PosState.home] at flies
    rw [eq]
    exact (depart_mech s).trans (.turn
      (fun l => spindleLaw_of_atSpeed (l.atSpeed (by simpa using flies)))
      (.inr (writing_of_op_none (depart_op s))) (.inr ⟨rfl, rfl⟩) (.inr ⟨by simp [p], by simp [p]⟩)
      (fun a b c => ⟨a, b, c⟩) (fun _ h => absurd (by simpa using h) away))

theorem missCounts_mech (s : State) : MechKept s (missCounts s) := by
  unfold missCounts
  split
  · exact .rfl
  · have counted : MechKept s { s with pos := { s.pos with seekCount := s.pos.seekCount + 1 } } :=
      setPos_mech rfl rfl
    simp only
    split
    · exact counted.trans (seekTimesOut_mech _)
    · exact counted

/-- SERVO LOSS at a declaration (R63): the clock is lost in it, also where a sector is being written. -/
theorem losesServo_clockMisses_mech (s : State) : MechKept s (losesServo (clockMisses s)) := by
  let u := cutWrite (noteEnd .servoLoss (offer (formRecord .servoLoss s) s))
  let k := (clockMisses s).clk
  have cut : cutWrite (noteEnd .servoLoss (offer (formRecord .servoLoss (clockMisses s)) (clockMisses s)))
      = setDrive s.spin k u := by
    have offered : offer (formRecord .servoLoss (clockMisses s)) (clockMisses s)
        = setDrive s.spin k (offer (formRecord .servoLoss s) s) := rfl
    rw [offered, noteEnd_setDrive, cutWrite_setDrive]
  have first : MechKept s u :=
    ((offer_mech _ s).trans (noteEnd_same _ _).kept).trans (cutWrite_mech _)
  have spin : u.spin = s.spin := by
    simp only [u, cutWrite_spin, noteEnd]
    split <;> rfl
  have lost : MechKept u (setDrive s.spin k u) := by
    rw [← spin]
    exact .turn (p := u.pos) (q := u.spin) (k := k) id (.inr (cutWrite_not_writing _)) (.inr ⟨rfl, rfl⟩)
      (.inl rfl) (fun a b c => ⟨a, b, c⟩) (fun a b => ⟨a, b⟩)
  have eq : losesServo (clockMisses s) = cancelQueue (requestRetract (setDrive s.spin k u)) := by
    rw [← cut]; rfl
  rw [eq]
  exact ((first.trans lost).trans (requestRetract_mech _)).trans (cancelQueue_same _).kept

theorem positionMiss_mech {s : State} (tracks : s.pos.state.tracks = true) :
    MechKept s (positionMiss (clockMisses s)) := by
  unfold positionMiss
  split
  · exact losesServo_clockMisses_mech s
  · exact (coastOn_clockMisses_mech (PosState.home_of_tracks tracks)).trans (missCounts_mech _)

/-! ### Expiries of the heads and the spindle -/

/-- The gap timer is carried to its limit. -/
theorem setGap_mech {s : State} {g : Nat} (h : s.spin.gap ≤ 1000000 → g ≤ 1000000) :
    MechKept s { s with spin := { s.spin with gap := g } } where
  toMechLaws := setSpin_laws id id (fun a b c => ⟨a, h b, c⟩)
  still h k := ⟨h, k⟩

/-- A second without an index in BRAKING (R38): STOPPED, or KICK with a start pending over PARKED heads. -/
theorem stopExpiry_mech {s : State} (brakes : s.spin.state = .braking) :
    let p := s.spin.enterStopped
    MechKept s { s with spin := if p.pendingStart ∧ s.pos.state = .parked then p.enterKick else p } := by
  intro p
  have safe (q : Spindle) : SpindleLaw s → SpindleLaw { s with spin := q } := fun l =>
    spindleLaw_of_parked (by simpa [SpindleLaw, brakes] using l)
  have atSpeed : s.spin.state ≠ .atSpeed := by simp [brakes]
  constructor
  · refine setSpin_laws (safe _) (fun h => absurd h atSpeed) (fun a b c => ?_)
    split
    · exact ⟨le_rfl, b, c⟩
    · exact ⟨Nat.zero_le _, b, c⟩
  · simp [brakes]

/-- A change of the spindle's timers and flags alone. -/
theorem setSpinFlags_mech {s : State} {q : Spindle} (st : q.state = s.spin.state)
    (d : q.drive = s.spin.drive) (g : q.gap = s.spin.gap) (p : q.period = s.spin.period) :
    MechKept s { s with spin := q } where
  toMechLaws := setSpin_laws (by simp [SpindleLaw, st]) (by simp [st])
    (by rw [d, g, p]; exact fun a b c => ⟨a, b, c⟩)
  still h k := ⟨st.trans h, k⟩

/-! ### Sectors -/

/-- A sector read begins with no sector in work (R112). -/
theorem beginRead_mech (p : Place) {s : State} (free : s.chan.op = none) : MechKept s (beginRead p s) where
  spindle := id
  gate := fun ⟨same, on, zero⟩ => ⟨by simpa [writing, free] using same, on, zero⟩
  clock := id
  range := id
  slot := .rfl _
  still h k := ⟨h, k⟩

theorem copyGate_iff (cyl : Nat) (s : State) : copyGate cyl s = true ↔
    onTarget cyl 0 s = true ∧ s.clk.locked = true ∧ s.spin.state = .atSpeed ∧ s.spin.deviating = false
    ∧ s.cart.wp = false := by
  simp [copyGate, and_assoc]

/-- A sector write begins at the write gate (R121). It opens the gate, on a cartridge that is not
write-protected and under a spindle AT_SPEED. -/
theorem beginWrite_gate {p : Place} {d : List Byte} {cyl : Nat} {s : State}
    (gate : copyGate cyl s = true) : GateLaw (beginWrite p d s) := by
  obtain ⟨track, locked, turning, -, -⟩ := (copyGate_iff cyl s).mp gate
  have follows : s.pos.state = .following := by
    simp only [onTarget, Bool.and_eq_true, beq_iff_eq] at track
    exact track.1
  exact ⟨by simp [writing], fun _ => ⟨follows, locked, turning⟩, by simp⟩

end Sys2Proof.Machine

namespace Sys2Proof.Machine

/-! ### The tables of zone entries -/

/-- The working table of a FORMAT is consistent, and the slot that a user check has in work is a user slot
(R94, R137): the clause of `ZonesLaw` on a FORMAT. -/
def Format.Sound (f : Format) : Prop :=
  (∀ z ∈ f.zones, z.consistent f.type = true)
  ∧ (f.phase = .verifying → f.step ≠ .track
      ∧ (f.userPart = true → userSlot f f.index < f.type.userSlots))

/-- The zone table that a copy states is consistent (R94). -/
def RecordCopy.Sound (c : RecordCopy) : Prop :=
  ∀ z ∈ c.session.zones, z.consistent c.session.type = true

/-- The zone table of a full session is consistent (R94). -/
def SessionState.Sound : SessionState → Prop
  | .full r => ∀ z ∈ r.zones, z.consistent r.type = true
  | _ => True

/-- The copies that a load has kept, or has answered with, are consistent. -/
def LoadResult.Sound : LoadResult → Prop
  | .chosen _ _ c0 c1 => (∀ c, c0 = some c → c.Sound) ∧ ∀ c, c1 = some c → c.Sound
  | _ => True

/-- Every zone entry in the part is consistent: in the session, in a FORMAT, in the copy that a load has kept,
and in the answer of a load. -/
def Tables (session : SessionState) (fmt : Option Format) (load : Option Load)
    (answer : Option LoadResult) : Prop :=
  session.Sound ∧ (∀ f, fmt = some f → f.Sound) ∧ (∀ l, load = some l → ∀ c, l.copy0 = some c → c.Sound)
  ∧ ∀ a, answer = some a → a.Sound

/-- The tables of a state. -/
def tables (s : State) : Prop := Tables s.record.session s.fmt s.record.load s.mail.load

theorem zonesLaw_iff (s : State) (h : s.mail.load = none) : ZonesLaw s ↔ tables s := by
  have full : (∀ r, fullSession s = some r → ∀ z ∈ r.zones, z.consistent r.type = true)
      ↔ s.record.session.Sound := by
    unfold fullSession SessionState.Sound
    cases s.record.session <;> simp
  simp only [ZonesLaw, tables, Tables, full, Format.Sound, RecordCopy.Sound, h]
  constructor
  · rintro ⟨a, b, c⟩
    exact ⟨a, b, fun l hl c' hc => c l c' hl hc, by simp⟩
  · rintro ⟨a, b, c, -⟩
    exact ⟨a, b, fun l c' hl hc => c l hl c' hc⟩

/-- The session law on the fields that it reads (R75). -/
def SessionOk (session : SessionState) (status : CopyStatus) (unsaved : Bool) : Prop :=
  (∀ r, session ≠ .full r) → status = .none ∧ unsaved = false

theorem sessionLaw_iff (s : State) :
    SessionLaw s ↔ SessionOk s.record.session s.record.copyStatus s.record.unsaved := by
  unfold SessionLaw SessionOk isFull fullSession
  cases s.record.session <;> simp

/-- Of a FORMAT, an operation of the mechanism changes the torn place alone (R139), and it answers for no
load. -/
def Tabled (s t : State) : Prop :=
  t.mail.load = s.mail.load ∧ ∀ f, t.fmt = some f → ∃ f₀ p, s.fmt = some f₀ ∧ f = { f₀ with torn := p }

theorem Tabled.of_eq {s t : State} (m : t.mail.load = s.mail.load) (f : t.fmt = s.fmt) : Tabled s t :=
  ⟨m, fun g hg => ⟨g, g.torn, f ▸ hg, rfl⟩⟩

theorem Tabled.rfl {s : State} : Tabled s s := .of_eq (Eq.refl _) (Eq.refl _)

theorem Tabled.trans {s t u : State} (h : Tabled s t) (k : Tabled t u) : Tabled s u := by
  refine ⟨k.1.trans h.1, fun f hf => ?_⟩
  obtain ⟨f₁, p, hf₁, rfl⟩ := k.2 f hf
  obtain ⟨f₀, q, hf₀, rfl⟩ := h.2 f₁ hf₁
  exact ⟨f₀, p, hf₀, Eq.refl _⟩

theorem Tabled.tables {s t : State} (h : Tabled s t) (r : t.record = s.record) (ok : tables s) :
    Machine.tables t := by
  obtain ⟨session, fmt, load, answer⟩ := ok
  refine ⟨r ▸ session, fun f hf => ?_, r ▸ load, h.1 ▸ answer⟩
  obtain ⟨f₀, p, hf₀, rfl⟩ := h.2 f hf
  exact fmt f₀ hf₀

theorem tellRequester_tabled (o : TargetOutcome) (s : State) : Tabled s (tellRequester o s) := by
  rw [tellRequester_eq]
  split <;> exact .of_eq rfl rfl

theorem tellHeldEnded_tabled (s : State) : Tabled s (tellHeldEnded s) := by
  unfold tellHeldEnded
  split <;> exact .of_eq rfl rfl

theorem noteEnd_tabled (cls : FaultClass) (s : State) : Tabled s (noteEnd cls s) := by
  unfold noteEnd
  split <;> exact .of_eq rfl rfl

theorem offer_tabled (r : FaultRecord) (s : State) : Tabled s (offer r s) := .of_eq rfl rfl

theorem releaseHolder_tabled (s : State) : Tabled s (releaseHolder s) := by
  unfold releaseHolder
  split
  · exact .rfl
  · exact Tabled.trans (.of_eq rfl rfl) (noteEnd_tabled _ _)

theorem markTorn_tabled (p : Place) (s : State) : Tabled s (markTorn p s) := by
  unfold markTorn
  split
  · exact .rfl
  · refine ⟨rfl, fun f hf => ?_⟩
    obtain ⟨f₀, h, rfl⟩ := Option.map_eq_some_iff.mp hf
    exact ⟨f₀, _, h, rfl⟩

theorem clearTorn_tabled (p : Place) (s : State) : Tabled s (clearTorn p s) := by
  unfold clearTorn
  split
  · exact .rfl
  · refine ⟨rfl, fun f hf => ?_⟩
    obtain ⟨f₀, h, hf⟩ := Option.map_eq_some_iff.mp hf
    split at hf <;> exact ⟨f₀, f.torn, h, by rw [← hf]⟩

theorem cutWrite_tabled (s : State) : Tabled s (cutWrite s) := by
  unfold cutWrite
  split
  · exact (Tabled.trans (t := closeOp s) (.of_eq rfl rfl) (markTorn_tabled _ _)).trans
      ((Tabled.of_eq rfl rfl).trans (releaseHolder_tabled _))
  · exact .rfl

theorem depart_tabled (s : State) : Tabled s (depart s) := by
  unfold depart
  split
  · exact .of_eq rfl rfl
  · exact cutWrite_tabled s
  · exact .rfl

theorem endSector_tabled (sig : ReadSignal) (s : State) : Tabled s (endSector sig s) := by
  unfold endSector
  split
  · split <;> exact .of_eq rfl rfl
  · exact (Tabled.trans (t := closeOp s) (.of_eq rfl rfl) (clearTorn_tabled _ _)).trans
      ((Tabled.of_eq rfl rfl).trans (releaseHolder_tabled _))
  · exact .rfl

theorem requestParked_tabled (t : Target) (q : Option Requester) (s : State) :
    Tabled s (requestParked t q s) := by
  unfold requestParked
  split
  · exact .of_eq rfl rfl
  · split <;> exact .of_eq rfl rfl

theorem enterParked_tabled (s : State) : Tabled s (enterParked s) := by
  rw [enterParked_eq]
  exact .of_eq rfl rfl

theorem heldActs_tabled (s : State) : Tabled s (heldActs s) := by
  unfold heldActs
  split
  · simp only
    split
    · exact Tabled.trans (.of_eq rfl rfl) (requestParked_tabled _ _ _)
    · exact .of_eq rfl rfl
  · exact .rfl

theorem enterRetracting_tabled (s : State) : Tabled s (enterRetracting s) := by
  have began : Tabled s (beganRetract s) :=
    ((depart_tabled s).trans (tellRequester_tabled .ended _)).trans (.of_eq rfl rfl)
  rw [enterRetracting_eq]
  split
  · exact began.trans (enterParked_tabled _)
  · exact began

theorem discardHeld_tabled (s : State) : Tabled s (discardHeld s) :=
  (tellHeldEnded_tabled s).trans (.of_eq rfl rfl)

theorem requestRetract_tabled (s : State) : Tabled s (requestRetract s) := by
  unfold requestRetract
  split
  · exact discardHeld_tabled s
  · exact discardHeld_tabled s
  · exact discardHeld_tabled s
  · exact (discardHeld_tabled s).trans (enterRetracting_tabled _)

theorem enterEmergency_tabled (s : State) : Tabled s (enterEmergency s) := by
  have began : Tabled s (beganEmergency s) :=
    (((depart_tabled s).trans (tellRequester_tabled .ended _)).trans (tellHeldEnded_tabled _)).trans
      (.of_eq rfl rfl)
  rw [enterEmergency_eq]
  split
  · exact began.trans (enterParked_tabled _)
  · exact began

theorem requestEmergency_tabled (s : State) : Tabled s (requestEmergency s) := by
  unfold requestEmergency
  split
  · exact .rfl
  · exact .rfl
  · exact enterEmergency_tabled s

theorem startRequest_tabled (s : State) : Tabled s (startRequest s) := by
  unfold startRequest
  split
  · split <;> exact .of_eq rfl rfl
  all_goals exact .of_eq rfl rfl

theorem stopRequest_tabled (s : State) : Tabled s (stopRequest s) := by
  unfold stopRequest
  simp only
  split
  · exact .of_eq rfl rfl
  · exact .of_eq rfl rfl
  · exact .of_eq rfl rfl
  · split
    · exact .of_eq rfl rfl
    · exact .of_eq rfl rfl
    · exact .of_eq rfl rfl
    · exact Tabled.trans (.of_eq rfl rfl) (requestRetract_tabled _)

theorem respond_tabled (cls : FaultClass) (s : State) : Tabled s (respond cls s) := by
  have noted := noteEnd_tabled cls s
  have cut := noted.trans (cutWrite_tabled _)
  have home := cut.trans (requestRetract_tabled _)
  have stall := (home.trans (stopRequest_tabled _)).trans (.of_eq rfl rfl)
  cases cls
  case supplyLoss =>
    exact ((cut.trans (requestEmergency_tabled _)).trans (stopRequest_tabled _)).trans (.of_eq rfl rfl)
  case stallSpinUp => exact stall
  case stallIndexLoss => exact stall
  case stallBrake => exact stall
  case servoLoss => exact home.trans (.of_eq rfl rfl)
  case offTrack => exact cut
  case writeFault => exact cut
  case seekLoad => exact noted.trans (requestRetract_tabled _)
  case seekSeek => exact noted.trans (requestRetract_tabled _)
  case seekPark => exact noted.trans (requestRetract_tabled _)
  case speedDeviation => exact .rfl
  case dataCheck => exact .rfl

theorem raise_tabled (cls : FaultClass) (s : State) : Tabled s (raise cls s) :=
  (offer_tabled _ s).trans (respond_tabled cls _)

theorem replaceRequester_tabled (q : Option Requester) (s : State) :
    Tabled s (replaceRequester q s) := by
  unfold replaceRequester
  split
  · exact .rfl
  · exact tellRequester_tabled _ s

theorem requestTarget_tabled (t : Target) (q : Option Requester) (s : State) :
    Tabled s (requestTarget t q s) := by
  have asked : Tabled s (dropTold s) := .of_eq rfl rfl
  have replaced := asked.trans (replaceRequester_tabled q _)
  obtain h | h | h | h | h | h := s.pos.state.request_cases
  · rw [requestTarget_of_parked t q h]
    exact asked.trans (requestParked_tabled t q _)
  · rw [requestTarget_of_loading t q h]
    exact replaced.trans (.of_eq rfl rfl)
  · rw [requestTarget_of_seeking t q h]
    split <;> exact replaced.trans (.of_eq rfl rfl)
  · rw [requestTarget_of_following t q h]
    split
    · cases q <;> exact .of_eq rfl rfl
    · exact (asked.trans (depart_tabled _)).trans (.of_eq rfl rfl)
  · rw [requestTarget_of_coasting t q h]
    exact replaced.trans (.of_eq rfl rfl)
  · rw [requestTarget_of_returning t q h]
    exact (asked.trans (tellHeldEnded_tabled _)).trans (.of_eq rfl rfl)

theorem settleWhereItIs_tabled (s : State) : Tabled s (settleWhereItIs s) := by
  unfold settleWhereItIs
  split
  · exact .of_eq rfl rfl
  · exact .of_eq rfl rfl
  · exact Tabled.trans (.of_eq rfl rfl) (requestTarget_tabled _ _ _)
  all_goals exact .of_eq rfl rfl

theorem settleWhereItIs_apart (s : State) : Apart s (settleWhereItIs s) := by
  unfold settleWhereItIs
  split
  · simp [Apart, newSeek]
  · simp [Apart, newSeek]
  · exact Apart.trans (by simp [Apart]) (requestTarget_apart _ _ _)
  all_goals simp [Apart]

/-! ### Operations of the mechanism -/

/-- PARK is high and the heads are neither on their way to the ramp nor has a request been held. -/
def Sensed (s : State) : Prop :=
  s.pins.park = true ∧ s.pos.state ≠ .retracting ∧ s.pos.state ≠ .emergency ∧ s.pos.held = none

theorem Sensed.of_pos {s t : State} (h : Sensed s) (pins : t.pins = s.pins) (state : t.pos.state = s.pos.state)
    (held : t.pos.held = s.pos.held) : Sensed t := by
  obtain ⟨park, back, hurry, none⟩ := h
  exact ⟨by rw [pins, park], by rw [state]; exact back, by rw [state]; exact hurry, by rw [held, none]⟩

theorem Sensed.depart {s : State} (h : Sensed s) : Sensed (depart s) :=
  h.of_pos (depart_apart s).1 (by rw [depart_pos]) (by rw [depart_pos])

theorem Sensed.tellRequester {s : State} (h : Sensed s) (o : TargetOutcome) : Sensed (tellRequester o s) :=
  h.of_pos (tellRequester_apart o s).1 (by rw [tellRequester_pos]) (by rw [tellRequester_pos])

/-- With PARK high an entry to PARKED follows at once: the heads are never on their way (R65, R66). -/
theorem Sensed.enterRetracting {s : State} (h : Sensed s) : Sensed (enterRetracting s) := by
  have pins := (depart_apart s).1
  have sensed : (Machine.depart s).pins.park = true := by rw [pins]; exact h.1
  have began : (beganRetract s).pins = s.pins := (tellRequester_apart .ended (Machine.depart s)).1.trans pins
  rw [enterRetracting_eq, if_pos sensed, enterParked_eq]
  exact ⟨by rw [← h.1, ← began], nofun, nofun, h.2.2.2⟩

theorem Sensed.enterEmergency {s : State} (h : Sensed s) : Sensed (enterEmergency s) := by
  have pins := (depart_apart s).1
  have sensed : (Machine.depart s).pins.park = true := by rw [pins]; exact h.1
  have began : (beganEmergency s).pins = s.pins :=
    ((tellHeldEnded_apart _).1.trans (tellRequester_apart .ended (Machine.depart s)).1).trans pins
  rw [enterEmergency_eq, if_pos sensed, enterParked_eq]
  exact ⟨by rw [← h.1, ← began], nofun, nofun, rfl⟩

theorem Sensed.discardHeld {s : State} (h : Sensed s) : Sensed (discardHeld s) := by
  refine ⟨by rw [(discardHeld_apart s).1]; exact h.1, ?_, ?_, rfl⟩
  · rw [discardHeld_state]; exact h.2.1
  · rw [discardHeld_state]; exact h.2.2.1

theorem Sensed.requestRetract {s : State} (h : Sensed s) : Sensed (requestRetract s) := by
  unfold Machine.requestRetract
  split
  · exact h.discardHeld
  · exact h.discardHeld
  · exact h.discardHeld
  · exact h.discardHeld.enterRetracting

theorem Sensed.requestEmergency {s : State} (h : Sensed s) : Sensed (requestEmergency s) := by
  unfold Machine.requestEmergency
  split
  · exact h
  · exact h
  · exact h.enterEmergency

theorem Sensed.stopRequest {s : State} (h : Sensed s) : Sensed (stopRequest s) := by
  have spin (q : Spindle) : Sensed { s with spin := q } := h
  unfold Machine.stopRequest
  simp only
  split
  case h_4 =>
    split
    case h_4 => exact (spin _).requestRetract
    all_goals exact h
  all_goals exact h

theorem Sensed.noteEnd {s : State} (h : Sensed s) (cls : FaultClass) : Sensed (noteEnd cls s) :=
  h.of_pos (noteEnd_apart cls s).1 (by rw [noteEnd_pos]) (by rw [noteEnd_pos])

theorem Sensed.cutWrite {s : State} (h : Sensed s) : Sensed (cutWrite s) :=
  h.of_pos (cutWrite_apart s).1 (by rw [cutWrite_pos]) (by rw [cutWrite_pos])

theorem Sensed.respond {s : State} (h : Sensed s) (cls : FaultClass) : Sensed (respond cls s) := by
  have noted := h.noteEnd cls
  have stall : Sensed (Machine.stopRequest (Machine.requestRetract (Machine.cutWrite (Machine.noteEnd cls s)))) :=
    noted.cutWrite.requestRetract.stopRequest
  cases cls
  case supplyLoss => exact noted.cutWrite.requestEmergency.stopRequest
  case stallSpinUp => exact stall
  case stallIndexLoss => exact stall
  case stallBrake => exact stall
  case servoLoss => exact noted.cutWrite.requestRetract
  case offTrack => exact noted.cutWrite
  case writeFault => exact noted.cutWrite
  case seekLoad => exact noted.requestRetract
  case seekSeek => exact noted.requestRetract
  case seekPark => exact noted.requestRetract
  case speedDeviation => exact h
  case dataCheck => exact h

theorem Sensed.raise {s : State} (h : Sensed s) (cls : FaultClass) : Sensed (raise cls s) :=
  Sensed.respond (s := offer (formRecord cls s) s) (h.of_pos (offer_apart _ s).1 rfl rfl) cls

theorem Sensed.requestParked {s : State} (h : Sensed s) (t : Target) (q : Option Requester) :
    Sensed (requestParked t q s) := by
  obtain ⟨park, -, -, held⟩ := id h
  unfold Machine.requestParked
  split
  · exact ⟨park, nofun, nofun, held⟩
  · split
    · exact h
    · exact h

theorem seekState_not_home (r : Int) : seekState r ≠ .retracting ∧ seekState r ≠ .emergency := by
  unfold seekState
  split <;> simp

theorem Sensed.newSeek {s : State} (h : Sensed s) (t : Target) (q : Option Requester) : Sensed (newSeek t q s) := by
  obtain ⟨park, -, -, held⟩ := h
  exact ⟨park, (seekState_not_home _).1, (seekState_not_home _).2, held⟩

theorem Sensed.replaceRequester {s : State} (h : Sensed s) (q : Option Requester) :
    Sensed (replaceRequester q s) := by
  unfold Machine.replaceRequester
  split
  · exact h
  · exact h.tellRequester .ended

theorem Sensed.requestTarget {s : State} (h : Sensed s) (t : Target) (q : Option Requester) :
    Sensed (requestTarget t q s) := by
  have asked : Sensed (dropTold s) := h
  have replaced := asked.replaceRequester q
  obtain st | st | st | st | st | st := s.pos.state.request_cases
  · rw [requestTarget_of_parked t q st]
    exact asked.requestParked t q
  · rw [requestTarget_of_loading t q st]
    exact replaced
  · rw [requestTarget_of_seeking t q st]
    split
    · exact replaced
    · exact replaced.newSeek t q
  · rw [requestTarget_of_following t q st]
    split
    · cases q <;> exact h
    · exact asked.depart.newSeek t q
  · rw [requestTarget_of_coasting t q st]
    exact replaced
  · obtain st | st := st
    · exact absurd st h.2.1
    · exact absurd st h.2.2.1

theorem Sensed.settleWhereItIs {s : State} (h : Sensed s) : Sensed (settleWhereItIs s) := by
  have freed : Sensed { s with pos := { s.pos with requester := none } } := h
  obtain ⟨park, back, hurry, held⟩ := id h
  unfold Machine.settleWhereItIs
  split
  · exact h.newSeek _ _
  · exact h.newSeek _ _
  · exact freed.requestTarget _ _
  · exact h
  · exact absurd ‹_› back
  · exact absurd ‹_› hurry
  · exact h
  · exact h

/-! ### No sector in work -/

/-- No sector is in work and no SPEED DEVIATION is deferred to the end of one. -/
def Shut (s : State) : Prop :=
  s.chan.op = none ∧ s.chan.wgate = false ∧ s.chan.writeCurrent = 0 ∧ s.fault.holder = none

theorem Shut.depart {s : State} (h : Shut s) : Shut (depart s) := by
  unfold Machine.depart
  rw [h.1]
  exact h

theorem Shut.cutWrite {s : State} (h : Shut s) : Shut (cutWrite s) := by
  unfold Machine.cutWrite
  rw [h.1]
  exact h

theorem Shut.tellRequester {s : State} (h : Shut s) (o : TargetOutcome) : Shut (tellRequester o s) := by
  unfold Machine.tellRequester
  split <;> exact h

theorem Shut.tellHeldEnded {s : State} (h : Shut s) : Shut (tellHeldEnded s) := by
  unfold Machine.tellHeldEnded
  split <;> exact h

theorem Shut.noteEnd {s : State} (h : Shut s) (c : FaultClass) : Shut (noteEnd c s) := by
  unfold Machine.noteEnd
  split <;> exact h

theorem Shut.enterRetracting {s : State} (h : Shut s) : Shut (enterRetracting s) := by
  have began : Shut (beganRetract s) := h.depart.tellRequester .ended
  rw [enterRetracting_eq]
  split
  · rw [enterParked_eq]
    exact began
  · exact began

theorem Shut.enterEmergency {s : State} (h : Shut s) : Shut (enterEmergency s) := by
  have began : Shut (beganEmergency s) := (h.depart.tellRequester .ended).tellHeldEnded
  rw [enterEmergency_eq]
  split
  · rw [enterParked_eq]
    exact began
  · exact began

theorem Shut.requestEmergency {s : State} (h : Shut s) : Shut (requestEmergency s) := by
  unfold Machine.requestEmergency
  split
  · exact h
  · exact h
  · exact h.enterEmergency

theorem Shut.requestRetract {s : State} (h : Shut s) : Shut (requestRetract s) := by
  have discards : Shut (discardHeld s) := h.tellHeldEnded
  unfold Machine.requestRetract
  split
  · exact discards
  · exact discards
  · exact discards
  · exact discards.enterRetracting

theorem Shut.stopRequest {s : State} (h : Shut s) : Shut (stopRequest s) := by
  unfold Machine.stopRequest
  dsimp only
  split
  · exact h
  · exact h
  · exact h
  · split
    · exact h
    · exact h
    · exact h
    · exact Shut.requestRetract (s := { s with spin := s.spin.withdrawn.enterCoasting }) h

theorem Shut.startRequest {s : State} (h : Shut s) : Shut (startRequest s) := by
  unfold Machine.startRequest
  split
  · split <;> exact h
  all_goals exact h

theorem Shut.requestParked {s : State} (h : Shut s) (t : Target) (q : Option Requester) : Shut (requestParked t q s) := by
  unfold Machine.requestParked
  split
  · exact h
  · split <;> exact h

theorem Shut.requestTarget {s : State} (h : Shut s) (t : Target) (q : Option Requester) : Shut (requestTarget t q s) := by
  have replaced (u : State) (k : Shut u) : Shut (replaceRequester q u) := by
    unfold replaceRequester
    split
    · exact k
    · exact k.tellRequester .ended
  have ready : Shut { s with mail := { s.mail with told := none } } := h
  unfold Machine.requestTarget
  dsimp only
  split
  · exact ready.requestParked t q
  · exact replaced _ ready
  · split
    · exact replaced _ ready
    · exact replaced _ ready
  · split
    · exact replaced _ ready
    · exact replaced _ ready
  · split
    · split <;> exact h
    · exact ready.depart
  · exact replaced _ ready
  · exact ready.tellHeldEnded
  · exact ready.tellHeldEnded

theorem Shut.settleWhereItIs {s : State} (h : Shut s) : Shut (settleWhereItIs s) := by
  unfold Machine.settleWhereItIs
  split
  · exact h
  · exact h
  · exact Shut.requestTarget (s := { s with pos := { s.pos with requester := none } }) h _ _
  all_goals exact h

theorem Shut.raise {s : State} (h : Shut s) (cls : FaultClass) : Shut (raise cls s) := by
  have offered : Shut (offer (formRecord cls s) s) := h
  have noted := offered.noteEnd cls
  unfold Machine.raise respond
  split
  · exact noted.cutWrite.requestEmergency.stopRequest
  · exact noted.cutWrite.requestRetract.stopRequest
  · exact noted.cutWrite.requestRetract.stopRequest
  · exact noted.cutWrite.requestRetract.stopRequest
  · exact noted.cutWrite.requestRetract
  · exact noted.cutWrite
  · exact noted.cutWrite
  · exact noted.requestRetract
  · exact noted.requestRetract
  · exact noted.requestRetract
  · exact offered
  · exact offered

/-- An operation of the heads, the spindle, the channel or the fault unit: what it keeps, and what it leaves
as it is. -/
structure Acts (s t : State) : Prop where
  mech : MechKept s t
  apart : Apart s t
  tabled : Tabled s t
  sensed : Sensed s → Sensed t

theorem Acts.rfl {s : State} : Acts s s := ⟨.rfl, .rfl, .rfl, id⟩

theorem Acts.trans {s t u : State} (h : Acts s t) (k : Acts t u) : Acts s u :=
  ⟨h.mech.trans k.mech, h.apart.trans k.apart, h.tabled.trans k.tabled, fun ok => k.sensed (h.sensed ok)⟩

theorem requestTarget_acts (t : Target) (q : Option Requester) (s : State) :
    Acts s (requestTarget t q s) :=
  ⟨requestTarget_mech t q s, requestTarget_apart t q s, requestTarget_tabled t q s, fun h => h.requestTarget t q⟩

theorem requestRetract_acts (s : State) : Acts s (requestRetract s) :=
  ⟨requestRetract_mech s, requestRetract_apart s, requestRetract_tabled s, fun h => h.requestRetract⟩

theorem stopRequest_acts (s : State) : Acts s (stopRequest s) :=
  ⟨stopRequest_mech s, stopRequest_apart s, stopRequest_tabled s, fun h => h.stopRequest⟩

theorem settleWhereItIs_acts (s : State) : Acts s (settleWhereItIs s) :=
  ⟨settleWhereItIs_mech s, settleWhereItIs_apart s, settleWhereItIs_tabled s, fun h => h.settleWhereItIs⟩

theorem raise_acts (cls : FaultClass) (s : State) : Acts s (raise cls s) :=
  ⟨raise_mech cls s, raise_apart cls s, raise_tabled cls s, fun h => h.raise cls⟩

end Sys2Proof.Machine

/-! ## Proofs: a target request is held only while the heads are on their way home -/

namespace Sys2Proof.Machine

/-- A target request is held only in RETRACTING and EMERGENCY (R51). -/
def Homed (s : State) : Prop :=
  s.pos.state ≠ .retracting → s.pos.state ≠ .emergency → s.pos.held = none

theorem Homed.of_none {s : State} (h : s.pos.held = none) : Homed s := fun _ _ => h

theorem Homed.of_same {s t : State} (h : Homed s) (state : t.pos.state = s.pos.state)
    (held : s.pos.held = none → t.pos.held = none) : Homed t := fun back hurry =>
  held (h (by rwa [← state]) (by rwa [← state]))

theorem Homed.of_pos {s t : State} (h : Homed s) (pos : t.pos = s.pos) : Homed t :=
  h.of_same (by rw [pos]) (by rw [pos]; exact id)

/-- With the heads in any other state nothing is held. -/
theorem Homed.none_of {s : State} (h : Homed s) {p : PosState} (here : s.pos.state = p)
    (back : p ≠ .retracting := by decide) (hurry : p ≠ .emergency := by decide) : s.pos.held = none :=
  h (by rwa [here]) (by rwa [here])

theorem Homed.cutWrite {s : State} (h : Homed s) : Homed (cutWrite s) := h.of_pos (by simp)

theorem Homed.noteEnd {s : State} (h : Homed s) (c : FaultClass) : Homed (noteEnd c s) := h.of_pos (by simp)

theorem enterRetracting_held {s : State} (h : s.pos.held = none) : (enterRetracting s).pos.held = none := by
  rw [enterRetracting_eq]
  split
  · rw [enterParked_eq]
    exact h
  · exact h

theorem enterEmergency_held (s : State) : (enterEmergency s).pos.held = none := by
  rw [enterEmergency_eq]
  split
  · rw [enterParked_eq]
    rfl
  · rfl

/-- A retract request discards what is held (R64). -/
theorem requestRetract_held (s : State) : (requestRetract s).pos.held = none := by
  unfold requestRetract
  split
  · rfl
  · rfl
  · rfl
  · exact enterRetracting_held rfl

theorem Homed.requestEmergency {s : State} (h : Homed s) : Homed (requestEmergency s) := by
  unfold Machine.requestEmergency
  split
  · exact h
  · exact h
  · exact .of_none (enterEmergency_held s)

theorem Homed.stopRequest {s : State} (h : Homed s) : Homed (stopRequest s) := by
  unfold Machine.stopRequest
  dsimp only
  split
  · exact h
  · exact h
  · exact h
  · split
    · exact h
    · exact h
    · exact h
    · exact .of_none (requestRetract_held _)

theorem Homed.startRequest {s : State} (h : Homed s) : Homed (startRequest s) := by
  unfold Machine.startRequest
  split
  · split <;> exact h
  all_goals exact h

theorem requestParked_held (t : Target) (q : Option Requester) (s : State) :
    (requestParked t q s).pos.held = s.pos.held := by
  unfold requestParked
  split
  · rfl
  · split <;> rfl

/-- A target request is held where the heads are on their way home, and nowhere else (R51). -/
theorem Homed.requestTarget {s : State} (h : Homed s) (t : Target) (q : Option Requester) :
    Homed (requestTarget t q s) := by
  have replaced (u : State) : (replaceRequester q u).pos = u.pos := by
    unfold replaceRequester
    split <;> simp
  obtain here | here | here | here | here | here := s.pos.state.request_cases
  · rw [requestTarget_of_parked t q here]
    exact .of_none ((requestParked_held t q _).trans (h.none_of here))
  · rw [requestTarget_of_loading t q here]
    exact .of_none ((congrArg Positioner.held (replaced _)).trans (h.none_of here))
  · have none : s.pos.held = none := here.elim (fun e => h.none_of e) fun e => h.none_of e
    rw [requestTarget_of_seeking t q here]
    split <;> exact .of_none ((congrArg Positioner.held (replaced _)).trans none)
  · rw [requestTarget_of_following t q here]
    split
    · cases q <;> exact .of_none (h.none_of here)
    · exact .of_none ((congrArg Positioner.held (depart_pos _)).trans (h.none_of here))
  · rw [requestTarget_of_coasting t q here]
    exact .of_none ((congrArg Positioner.held (replaced _)).trans (h.none_of here))
  · rw [requestTarget_of_returning t q here]
    have away : (holdRequest t q (tellHeldEnded (dropTold s))).pos.state = s.pos.state := by
      simp [holdRequest]
    exact fun back hurry => absurd here (not_or.mpr ⟨by rwa [away] at back, by rwa [away] at hurry⟩)

theorem Homed.settleWhereItIs {s : State} (h : Homed s) : Homed (settleWhereItIs s) := by
  unfold Machine.settleWhereItIs
  split
  · exact .of_none (h.none_of ‹_›)
  · exact .of_none (h.none_of ‹_›)
  · exact Homed.requestTarget (s := { s with pos := { s.pos with requester := none } }) h _ _
  · exact .of_none (h.none_of ‹_›)
  · exact .of_none rfl
  · exact .of_none rfl
  · exact h
  · exact h

theorem Homed.raise {s : State} (h : Homed s) (cls : FaultClass) : Homed (raise cls s) := by
  have offered : Homed (offer (formRecord cls s) s) := h
  have noted := offered.noteEnd cls
  have home (u : State) : Homed (Machine.requestRetract u) := .of_none (requestRetract_held u)
  unfold Machine.raise respond
  split
  · exact noted.cutWrite.requestEmergency.stopRequest
  · exact (home _).stopRequest
  · exact (home _).stopRequest
  · exact (home _).stopRequest
  · exact home _
  · exact noted.cutWrite
  · exact noted.cutWrite
  · exact home _
  · exact home _
  · exact home _
  · exact offered
  · exact offered

/-- What an operation keeps that begins no sector and that holds no request out of its place. -/
structure Tame (s t : State) : Prop where
  shut : Shut s → Shut t
  homed : Homed s → Homed t

theorem requestTarget_tame (t : Target) (q : Option Requester) (s : State) : Tame s (requestTarget t q s) :=
  ⟨fun h => h.requestTarget t q, fun h => h.requestTarget t q⟩

theorem requestRetract_tame (s : State) : Tame s (requestRetract s) :=
  ⟨fun h => h.requestRetract, fun _ => .of_none (requestRetract_held s)⟩

theorem stopRequest_tame (s : State) : Tame s (stopRequest s) :=
  ⟨fun h => h.stopRequest, fun h => h.stopRequest⟩

theorem settleWhereItIs_tame (s : State) : Tame s (settleWhereItIs s) :=
  ⟨fun h => h.settleWhereItIs, fun h => h.settleWhereItIs⟩

theorem raise_tame (cls : FaultClass) (s : State) : Tame s (raise cls s) :=
  ⟨fun h => h.raise cls, fun h => h.raise cls⟩

end Sys2Proof.Machine

namespace Sys2Proof.Machine

/-! ### What the work of an item can do -/

/-- The shell is free to leave (R18): the latch is asserted, the eject is in its last stage and the cartridge
RELEASED. -/
def Leaving (s : State) : Prop :=
  s.cart.latch = true ∧ s.cu.slot.work = .eject ∧ s.cart.eject.map Eject.stage = some .leaveOrJam
  ∧ s.cart.state = .released

/-- Nothing changes that a law speaks of, but for the tables and the session, which stay lawful. -/
def Aside (s t : State) : Prop :=
  SameMech s t
  ∧ (t.link.outbox = s.link.outbox ∧ t.link.heldFrame = s.link.heldFrame ∧ t.link.line = s.link.line
    ∧ t.link.send = s.link.send ∧ t.link.acked = s.link.acked)
  ∧ (t.cu.queue.length = s.cu.queue.length ∧ t.cu.slot.item = s.cu.slot.item
    ∧ t.cu.slot.work = s.cu.slot.work ∧ t.cu.resets = s.cu.resets ∧ t.cu.accepted = s.cu.accepted
    ∧ t.cu.repliesSent = s.cu.repliesSent)
  ∧ (t.cart.state = s.cart.state ∧ t.cart.latch = s.cart.latch ∧ t.cart.wp = s.cart.wp
    ∧ t.cart.eject.map Eject.stage = s.cart.eject.map Eject.stage)
  ∧ (SessionOk s.record.session s.record.copyStatus s.record.unsaved →
      SessionOk t.record.session t.record.copyStatus t.record.unsaved)
  ∧ (Tables s.record.session s.fmt s.record.load s.mail.load →
      Tables t.record.session t.fmt t.record.load t.mail.load)
  ∧ t.pending = s.pending ∧ t.pins.rst = s.pins.rst ∧ t.pins.park = s.pins.park
  ∧ (s.pos.held = none → t.pos.held = none) ∧ t.fault.holder = s.fault.holder

theorem Aside.rfl {s : State} : Aside s s := by simp [Aside, SameMech]

/-- The shell lies open: its type, write protect and removal hold change (R2, R4). -/
def setShell (type : Option CartType) (wp hold : Bool) (s : State) : State :=
  { s with cart := { s.cart with type, wp, hold } }

/-- The latch is de-asserted (R19, R20). -/
def unlatch (s : State) : State := { s with cart := { s.cart with latch := false } }

/-- The origin state and the progress of an eject are set (R12). -/
def setEject (o : Option CartState) (e : Option Eject) (s : State) : State :=
  { s with cart := { s.cart with origin := o, eject := e } }

/-- The latch is asserted and the release window opens (R18). -/
def assertLatch (s : State) : State :=
  { s with cart := { s.cart with
      latch := true
      eject := s.cart.eject.map fun e =>
        { e with stage := .leaveOrJam, window := some Config.releaseWindow } } }

/-- A data request joins the outbound line (R120). -/
def joinLine (l : Byte × Nat) (s : State) : State :=
  { s with link := { s.link with line := s.link.line ++ [l] } }

/-- One thing that the work of an item does: the items of the slot, the copy writes and the load are made of
these. -/
inductive Move (live : Bool) : State → State → Prop
  /-- No law sees it. -/
  | aside {s t : State} : Aside s t → Move live s t
  /-- An operation of the mechanism, which begins no sector, and holds no request out of its place, but where
  `live` says so. -/
  | acts {s t : State} : Acts s t → (live = false → Tame s t) → Move live s t
  /-- A start request. -/
  | start {s : State} : ¬ Leaving s → Move live s (startRequest s)
  /-- A data request. -/
  | request (l : Byte × Nat) (s : State) : Move live s (joinLine l s)
  /-- The data requests are withdrawn. -/
  | withdraw (s : State) : Move live s (withdrawLine s)
  /-- The item passes to another stage. -/
  | work {w : Work} {s : State} : ¬ Leaving s → (∀ r, w ≠ .replying r) →
      (s.cu.slot.work ≠ .idle ∨ s.cu.slot.item ≠ .free) → Move live s (setWork w s)
  /-- The item ends. -/
  | finish {o : OutcomeCode} {fields : List Byte} {s : State} : ¬ Leaving s → Move live s (finishWith o fields s)
  /-- The soft reset ends. -/
  | restore {s : State} : s.cu.slot.work = .resetPark → Move live s (restore s)
  /-- The cartridge state changes. -/
  | cart {c : CartState} {s : State} : ¬ Leaving s → Move live s (setCart c s)
  /-- The eject goes on. -/
  | eject {o : Option CartState} {e : Option Eject} {s : State} : ¬ Leaving s → Move live s (setEject o e s)
  /-- The cartridge is released. -/
  | latch {s : State} : s.cart.state = .released → s.cu.slot.work = .eject → s.cart.eject.isSome →
      s.spin.state = .stopped → s.pos.state = .parked → Move live s (assertLatch s)
  | unlatch (s : State) : Move live s (unlatch s)
  /-- A shell comes or goes. -/
  | shell (type : Option CartType) (wp hold : Bool) (s : State) : Move live s (setShell type wp hold s)

/-- The work of items: any number of moves. -/
abbrev Moves (live : Bool) : State → State → Prop := Relation.ReflTransGen (Move live)

variable {live : Bool}

theorem Move.moves {s t : State} (h : Move live s t) : Moves live s t := .single h

theorem Aside.moves {s t : State} (h : Aside s t) : Moves live s t := .single (.aside h)

theorem Acts.moves {s t : State} (h : Acts s t) (tame : live = false → Tame s t) : Moves live s t :=
  .single (.acts h tame)

/-- What the work of an item comes to, if it goes on at all. -/
def May (live : Bool) (s : State) : Option State → Prop
  | none => True
  | some t => Moves live s t

@[simp] theorem may_none (s : State) : May live s none := trivial

@[simp] theorem may_some (s t : State) : May live s (some t) = Moves live s t := rfl

/-! ### Updates that no law sees -/

theorem setCause_aside (c : Cause) (s : State) : Aside s (setCause c s) := by simp [Aside, SameMech]

theorem endRest_aside (s : State) : Aside s (endRest s) := by simp [Aside, SameMech]

theorem resetReport_aside (s : State) : Aside s (resetReport s) := by simp [Aside, SameMech]

theorem dropRequester_aside (s : State) : Aside s (dropRequester s) := by simp [Aside, SameMech]

theorem stopGateWait_aside (s : State) : Aside s (stopGateWait s) := by simp [Aside, SameMech]

theorem dropTold_aside (s : State) : Aside s (dropTold s) := by simp [Aside, SameMech]

theorem dropNote_aside (s : State) : Aside s (dropNote s) := by simp [Aside, SameMech]

theorem dropSector_aside (s : State) : Aside s (dropSector s) := by simp [Aside, SameMech]

theorem setTransfer_aside (t : Transfer) (s : State) : Aside s (setTransfer t s) := by
  simp [Aside, SameMech]

theorem setReassign_aside (r : Reassign) (s : State) : Aside s (setReassign r s) := by
  simp [Aside, SameMech]

theorem startGateWait_aside (s : State) : Aside s (startGateWait s) := by
  unfold startGateWait
  split
  · exact .rfl
  · simp [Aside, SameMech]

theorem fillFree_aside (b : BufSlot) (s : State) : Aside s (fillFree b s) := by
  unfold fillFree
  split
  · simp [Aside, SameMech]
  · split
    · simp [Aside, SameMech]
    · exact .rfl

theorem setSlotOf_aside (i : Nat) (b : BufSlot) (s : State) : Aside s (setSlotOf i b s) := by
  unfold setSlotOf
  split
  · simp [Aside, SameMech]
  · split
    · simp [Aside, SameMech]
    · exact .rfl

theorem discardSession_aside (s : State) : Aside s (discardSession s) := by
  unfold discardSession
  split <;> simp +contextual [Aside, SameMech, SessionOk, Tables, SessionState.Sound]

/-- An item that is no eject ends. -/
theorem finishWith_moves {s : State} (o : OutcomeCode) (fields : List Byte)
    (other : s.cu.slot.work ≠ .eject) : Moves live s (finishWith o fields s) :=
  .single (.finish fun l => other l.2.1)

theorem finish_moves_of_not_leaving {s : State} (o : OutcomeCode) (h : ¬ Leaving s) :
    Moves live s (finish o s) := by
  unfold finish
  split <;> exact .single (.finish h)

theorem finish_moves {s : State} (o : OutcomeCode) (other : s.cu.slot.work ≠ .eject) :
    Moves live s (finish o s) :=
  finish_moves_of_not_leaving o fun l => other l.2.1

end Sys2Proof.Machine

/-! ## Proofs: what the work of items can do

Each beginning, transition and end of an item, of a copy write and of a load is made of moves. -/

namespace Sys2Proof.Machine

variable {live : Bool}

theorem requestTarget_moves (t : Target) (q : Option Requester) (s : State) : Moves live s (requestTarget t q s) :=
  (requestTarget_acts t q s).moves fun _ => requestTarget_tame _ _ s

/-! ### What the operations of the mechanism leave -/

theorem Apart.slot {s t : State} (h : Apart s t) : t.cu.slot = s.cu.slot := by
  obtain ⟨-, -, -, -, -, -, -, -, h, -⟩ := h; exact h

theorem Apart.cart {s t : State} (h : Apart s t) : t.cart = s.cart := by
  obtain ⟨-, -, h, -⟩ := h; exact h

theorem Apart.record {s t : State} (h : Apart s t) : t.record = s.record := by
  obtain ⟨-, -, -, h, -⟩ := h; exact h

@[simp] theorem requestTarget_slot (t : Target) (q : Option Requester) (s : State) :
    (requestTarget t q s).cu.slot = s.cu.slot := (requestTarget_apart t q s).slot
@[simp] theorem requestTarget_cart (t : Target) (q : Option Requester) (s : State) :
    (requestTarget t q s).cart = s.cart := (requestTarget_apart t q s).cart
@[simp] theorem requestTarget_record (t : Target) (q : Option Requester) (s : State) :
    (requestTarget t q s).record = s.record := (requestTarget_apart t q s).record
@[simp] theorem requestRetract_slot (s : State) : (requestRetract s).cu.slot = s.cu.slot :=
  (requestRetract_apart s).slot
@[simp] theorem requestRetract_cart (s : State) : (requestRetract s).cart = s.cart :=
  (requestRetract_apart s).cart
@[simp] theorem requestRetract_record (s : State) : (requestRetract s).record = s.record :=
  (requestRetract_apart s).record
@[simp] theorem startRequest_slot (s : State) : (startRequest s).cu.slot = s.cu.slot :=
  (startRequest_apart s).slot
@[simp] theorem startRequest_cart (s : State) : (startRequest s).cart = s.cart :=
  (startRequest_apart s).cart
@[simp] theorem startRequest_record (s : State) : (startRequest s).record = s.record :=
  (startRequest_apart s).record
@[simp] theorem stopRequest_slot (s : State) : (stopRequest s).cu.slot = s.cu.slot :=
  (stopRequest_apart s).slot
@[simp] theorem stopRequest_cart (s : State) : (stopRequest s).cart = s.cart :=
  (stopRequest_apart s).cart
@[simp] theorem stopRequest_record (s : State) : (stopRequest s).record = s.record :=
  (stopRequest_apart s).record
@[simp] theorem settleWhereItIs_slot (s : State) : (settleWhereItIs s).cu.slot = s.cu.slot :=
  (settleWhereItIs_apart s).slot
@[simp] theorem settleWhereItIs_cart (s : State) : (settleWhereItIs s).cart = s.cart :=
  (settleWhereItIs_apart s).cart
@[simp] theorem raise_slot (cls : FaultClass) (s : State) : (raise cls s).cu.slot = s.cu.slot :=
  (raise_apart cls s).slot
@[simp] theorem raise_cart (cls : FaultClass) (s : State) : (raise cls s).cart = s.cart :=
  (raise_apart cls s).cart
@[simp] theorem raise_record (cls : FaultClass) (s : State) : (raise cls s).record = s.record :=
  (raise_apart cls s).record

/-! ### Copies of a record that have been read -/

/-- A zone table that the walk of R81 finds in order is consistent. -/
theorem walkZones_consistent {t : CartType} {n : Nat} {l : List Byte} {zs : List Zone}
    (h : walkZones t n l = .ok zs) : ∀ z ∈ zs, z.consistent t = true := by
  induction n generalizing l zs with
  | zero =>
    cases l with
    | nil => simp only [walkZones, Except.ok.injEq] at h; simp [← h]
    | cons b bs => simp [walkZones] at h
  | succ n ih =>
    unfold walkZones at h
    split at h
    · cases h
    · split at h
      · cases h
      · split at h
        · cases h
        · split at h
          · cases h
          · rename_i ok
            split at h
            · rename_i rest hrest
              obtain rfl := Except.ok.inj h
              intro z hz
              obtain rfl | hz := List.mem_cons.mp hz
              · simp only [listConsistent, Bool.not_eq_true', Bool.not_eq_false, Bool.and_eq_true,
                  List.all_eq_true, decide_eq_true_eq, and_assoc] at ok
                obtain ⟨up, all, nodup⟩ := ok
                exact (consistent_iff t _).mpr ⟨all, up, nodup⟩
              · exact ih hrest z hz
            · cases h

theorem finalFinding_sound (image : List Byte) : ∀ c, (finalFinding image).2 = some c → c.Sound := by
  intro c h
  unfold finalFinding at h
  split at h
  · cases h
  · split at h
    · cases h
    · split at h
      · cases h
      · rename_i zones ok
        obtain rfl := Option.some.inj h
        exact walkZones_consistent ok

/-! ### The record unit -/

theorem beginCopies_aside (owner : CopyOwner) (image : List Byte) (s : State) :
    Aside s (beginCopies owner image s) := by
  simp [beginCopies, Aside, SameMech]

/-- Where a copy write stands is no law's concern. -/
theorem setCopyWrite_aside (c : Option CopyWrite) (s : State) :
    Aside s { s with record := { s.record with copyWrite := c } } := by
  simp [Aside, SameMech]

theorem beginSessionCopies_aside (s : State) : Aside s (beginSessionCopies s) := by
  unfold beginSessionCopies
  split
  · exact beginCopies_aside _ _ s
  · simp [Aside, SameMech]

theorem beginWriteBack_moves (s : State) : Moves live s (beginWriteBack s) := by
  unfold beginWriteBack
  split
  · exact Aside.moves (by simp [Aside, SameMech])
  · split
    · exact (beginSessionCopies_aside s).moves
    · exact (setCopyWrite_aside _ s).moves.trans (requestTarget_moves _ _ _)

@[simp] theorem beginWriteBack_slot (s : State) : (beginWriteBack s).cu.slot = s.cu.slot := by
  unfold beginWriteBack beginSessionCopies
  split
  · rfl
  · split
    · split <;> rfl
    · simp

@[simp] theorem beginWriteBack_cart (s : State) : (beginWriteBack s).cart = s.cart := by
  unfold beginWriteBack beginSessionCopies
  split
  · rfl
  · split
    · split <;> rfl
    · simp

theorem applyWriteBack_aside (res : RecordResult) (s : State) : Aside s (applyWriteBack res s) := by
  unfold applyWriteBack
  split
  · rename_i r h
    cases res <;> simp [Aside, SameMech, h, SessionOk, Tables, SessionState.Sound]
  · exact .rfl

theorem endCopies_moves (owner : CopyOwner) (w0 w1 : Bool) (s : State) :
    Moves live s (endCopies owner w0 w1 s) := by
  have ended := (setCopyWrite_aside none s).moves (live := live)
  cases owner with
  | writeBack =>
    refine (ended.trans (applyWriteBack_aside (copiesResult w0 w1) _).moves).tail (.aside ?_)
    simp [endCopies, Aside, SameMech]
  | format =>
    refine ended.tail (.aside ?_)
    simp [endCopies, Aside, SameMech]

theorem copyDone_moves (c : CopyWrite) (ok : Bool) (s : State) : Moves live s (copyDone c ok s) := by
  unfold copyDone
  split
  · exact (setCopyWrite_aside _ s).moves
  · exact endCopies_moves _ _ _ s

theorem copyAttemptFails_moves (c : CopyWrite) (s : State) : Moves live s (copyAttemptFails c s) := by
  unfold copyAttemptFails
  split
  · exact copyDone_moves _ _ s
  · exact (setCopyWrite_aside _ s).moves

theorem abandonCopies_moves (c : CopyWrite) (s : State) : Moves live s (abandonCopies c s) :=
  endCopies_moves _ _ _ s

theorem copyPassGoesOn_moves (c : CopyWrite) (s : State) : Moves live s (copyPassGoesOn c s) := by
  unfold copyPassGoesOn
  split
  · exact (setCopyWrite_aside _ s).moves
  · split
    · exact copyDone_moves _ _ s
    · exact (setCopyWrite_aside _ s).moves

theorem copySectorEnds_moves (c : CopyWrite) (r : SectorResult) (s : State) :
    Moves live s (copySectorEnds c r s) := by
  unfold copySectorEnds
  split
  · exact copyAttemptFails_moves c s
  · split
    · exact copyPassGoesOn_moves c s
    · split
      · exact copyPassGoesOn_moves c s
      · exact copyAttemptFails_moves c s
    · exact copyAttemptFails_moves c s
    · exact .refl
    · exact .refl

theorem advanceCopies_moves (s : State) : May live s (advanceCopies s) := by
  have sector : Aside s { s with mail := { s.mail with sector := none } } := by simp [Aside, SameMech]
  have note : Aside s { s with mail := { s.mail with note := none, sector := none } } := by
    simp [Aside, SameMech]
  have told : Aside s { s with mail := { s.mail with told := none } } := by simp [Aside, SameMech]
  unfold advanceCopies
  split
  · trivial
  · split
    · split
      · exact sector.moves.trans (abandonCopies_moves _ _)
      · exact note.moves.trans (copyAttemptFails_moves _ _)
    · split
      · split
        · split
          · exact abandonCopies_moves _ _
          · trivial
        · exact told.moves.trans (beginSessionCopies_aside _).moves
        · exact told.moves.trans (abandonCopies_moves _ _)
      · split
        · exact sector.moves.trans (abandonCopies_moves _ _)
        · split
          · trivial
          · exact sector.moves.trans (copySectorEnds_moves _ _ _)

/-! ### The record load -/

/-- What a load has kept of copy 0 is consistent where the tables are. -/
def KeepsCopy (l : Load) (s : State) : Prop := tables s → ∀ c, l.copy0 = some c → c.Sound

theorem keepsCopy_of_load {l : Load} {s : State} (h : s.record.load = some l) : KeepsCopy l s :=
  fun ⟨_, _, load, _⟩ => load l h

theorem setLoad_aside {l : Load} {s : State} (h : KeepsCopy l s) :
    Aside s { s with record := { s.record with load := some l } } := by
  have kept : tables s → tables { s with record := { s.record with load := some l } } := by
    intro ok
    obtain ⟨session, fmt, -, answer⟩ := id ok
    exact ⟨session, fmt, fun k hk => Option.some.inj hk ▸ h ok, answer⟩
  refine ⟨by simp [SameMech], by simp, by simp, by simp, id, kept, rfl, rfl, rfl, id, rfl⟩

theorem loadSector_moves {l : Load} {s : State} (h : KeepsCopy l s) : Moves live s (loadSector l s) := by
  unfold loadSector
  split
  · exact (setLoad_aside h).moves
  · exact (setLoad_aside (l := { l with offset := 0, waiting := true }) h).moves.trans
      (requestTarget_moves _ _ _)

theorem restoreOffset_moves (s : State) : Moves live s (restoreOffset s) := by
  unfold restoreOffset
  split
  · split
    · exact (requestTarget_moves _ _ s)
    · exact .refl
  · exact .refl

@[simp] theorem restoreOffset_slot (s : State) : (restoreOffset s).cu.slot = s.cu.slot := by
  unfold restoreOffset
  split
  · split <;> simp
  · rfl

theorem copyClassified_moves {l : Load} {rep : CopyReport} {c : Option RecordCopy} {s : State}
    (h : KeepsCopy l s) (sound : ∀ x, c = some x → x.Sound) : Moves live s (copyClassified l rep c s) := by
  unfold copyClassified
  split
  · have emptied : Aside s { s with record := { s.record with image := [] } } := by
      simp [Aside, SameMech]
    exact emptied.moves.trans (loadSector_moves fun _ => sound)
  · have answered : Aside s { s with
        record := { s.record with load := none }
        mail := { s.mail with load := some (.chosen l.report0 rep l.copy0 c) } } := by
      refine ⟨by simp [SameMech], by simp, by simp, by simp, id, ?_, rfl, rfl, rfl, id, rfl⟩
      intro ok
      obtain ⟨session, fmt, -, -⟩ := id ok
      exact ⟨session, fmt, by simp, fun a ha => Option.some.inj ha ▸ ⟨h ok, sound⟩⟩
    exact answered.moves.trans (restoreOffset_moves _)

theorem loadSectorRead_moves {l : Load} (data : List Byte) {s : State} (h : KeepsCopy l s) :
    Moves live s (loadSectorRead l data s) := by
  let image := ((s.record.image.take (512 * l.sector)) ++ data).take Config.imageBytes
  have stored : Aside s { s with record := { s.record with image } } := by simp [Aside, SameMech]
  unfold loadSectorRead
  refine stored.moves.trans ?_
  simp only
  split
  · exact copyClassified_moves h (by simp)
  · split
    · exact loadSector_moves h
    · exact copyClassified_moves h (finalFinding_sound _)

theorem loadAttemptFails_moves {l : Load} {s : State} (h : KeepsCopy l s) :
    Moves live s (loadAttemptFails l s) := by
  unfold loadAttemptFails
  split
  · split <;> exact copyClassified_moves h (by simp)
  · split
    · exact (setLoad_aside (l := { l with attempt := l.attempt + 1 }) h).moves
    · exact (setLoad_aside (l := { l with
          attempt := l.attempt + 1, offset := attemptOffset (l.attempt + 1), waiting := true }) h).moves.trans
        (requestTarget_moves _ _ _)

theorem endLoad_aside {r : LoadResult} (s : State) (h : r.Sound) : Aside s (endLoad r s) := by
  refine ⟨by simp [endLoad, SameMech], by simp [endLoad], by simp [endLoad], by simp [endLoad], id, ?_, rfl, rfl, rfl, id, rfl⟩
  rintro ⟨session, fmt, -, -⟩
  exact ⟨session, fmt, by simp [endLoad], fun a ha => Option.some.inj ha ▸ h⟩

theorem advanceLoad_moves (s : State) : May live s (advanceLoad s) := by
  unfold advanceLoad
  split
  · trivial
  · rename_i l hl
    have kept := keepsCopy_of_load hl
    have sector : Aside s { s with mail := { s.mail with sector := none } } := by simp [Aside, SameMech]
    have ends (r : LoadResult) (h : r.Sound) : Moves live s (endLoad r s) := (endLoad_aside s h).moves
    split
    · exact ends .failed trivial
    · split
      · exact ends .stopped trivial
      · split
        · split
          · trivial
          · have told : Aside s { s with mail := { s.mail with told := none } } := by
              simp [Aside, SameMech]
            have goes : KeepsCopy { l with waiting := false } (dropTold s) := kept
            exact told.moves.trans (setLoad_aside goes).moves
          · exact ends .failed trivial
        · split
          · exact ends .failed trivial
          · split
            · exact sector.moves.trans (loadSectorRead_moves _ kept)
            · exact sector.moves.trans (loadAttemptFails_moves kept)
            · trivial

theorem beginLoad_moves (s : State) : Moves live s (beginLoad s) := by
  have begun : Aside s { s with record := { s.record with
      image := []
      load := some { copy := 0, sector := 0, attempt := 1, offset := 0, firstPass := false,
                     limit := s.set.active.retry, waiting := !onTarget 0 0 s
                     report0 := CopyReport.notRead, copy0 := none } } } := by
    simp +contextual [Aside, SameMech, Tables]
  unfold beginLoad
  simp only
  split
  · exact begun.moves.trans (requestTarget_moves _ _ _)
  · exact begun.moves

@[simp] theorem beginLoad_slot (s : State) : (beginLoad s).cu.slot = s.cu.slot := by
  unfold beginLoad
  simp only
  split
  · simp
  · rfl

/-- The choice of copy replaces the session by one that a VALID copy gave, or by none (R83). -/
theorem applyChoice_moves {r0 r1 : CopyReport} {c0 c1 : Option RecordCopy} {s : State}
    (answer : s.mail.load = some (.chosen r0 r1 c0 c1)) (other : s.cu.slot.work ≠ .eject) :
    Moves live s (applyChoice r0 r1 c0 c1 s) := by
  let f := choiceFinding (s.cart.type.getD .a) r0 r1 c0 c1
  have ok : SessionOk f.2.1 f.2.2 false ∧ (∀ r, f.2.1 = .full r → ∃ c, (c0 = some c ∨ c1 = some c)
      ∧ r = c.session) := by
    have chosen : ∀ i c st, chooseCopy c0 c1 = some (i, c, st) → c0 = some c ∨ c1 = some c := by
      intro i c st h
      unfold chooseCopy at h
      split at h
      · simp only at h
        split at h <;> simp_all
      all_goals simp_all
    simp only [f, choiceFinding]
    split
    · rename_i i c st h
      split
      · simp [SessionOk]
      · split
        · simp [SessionOk]
        · exact ⟨by simp [SessionOk], fun r hr => ⟨c, chosen i c st h, (SessionState.full.inj hr).symm⟩⟩
    · split <;> simp [SessionOk]
  have changed : Aside (setCart f.1 s) (applyChoice r0 r1 c0 c1 s) := by
    refine ⟨by simp [applyChoice, SameMech], by simp [applyChoice], by simp [applyChoice],
      by simp [applyChoice, f], fun _ => ok.1, ?_, rfl, rfl, rfl, id, rfl⟩
    rintro ⟨-, fmt, load, answers⟩
    refine ⟨?_, fmt, load, answers⟩
    obtain ⟨sound0, sound1⟩ := answers _ answer
    show f.2.1.Sound
    unfold SessionState.Sound
    split
    · rename_i r hr
      obtain ⟨c, h | h, rfl⟩ := ok.2 r hr
      · exact sound0 c h
      · exact sound1 c h
    · trivial
  exact (Relation.ReflTransGen.single (.cart fun l => other l.2.1)).trans changed.moves

@[simp] theorem applyChoice_slot (r0 r1 : CopyReport) (c0 c1 : Option RecordCopy) (s : State) :
    (applyChoice r0 r1 c0 c1 s).cu.slot = s.cu.slot := rfl

end Sys2Proof.Machine

/-! ## Proofs: the moves of the items that transfer no blocks -/

namespace Sys2Proof.Machine

variable {live : Bool}

/-! ### Moves live within a stage -/

/-- The item goes on in its stage: moves that change neither the item nor its stage. -/
def Stays (live : Bool) (s t : State) : Prop :=
  Moves live s t ∧ t.cu.slot.work = s.cu.slot.work ∧ t.cu.slot.item = s.cu.slot.item

theorem Stays.moves {s t : State} (h : Stays live s t) : Moves live s t := h.1

theorem Stays.rfl {s : State} : Stays live s s := ⟨.refl, Eq.refl _, Eq.refl _⟩

theorem Stays.trans {s t u : State} (h : Stays live s t) (k : Stays live t u) : Stays live s u :=
  ⟨h.1.trans k.1, k.2.1.trans h.2.1, k.2.2.trans h.2.2⟩

theorem Stays.of_slot {s t : State} (h : Moves live s t) (k : t.cu.slot = s.cu.slot) : Stays live s t :=
  ⟨h, by rw [k], by rw [k]⟩

theorem Aside.stays {s t : State} (h : Aside s t) : Stays live s t := by
  obtain ⟨-, -, ⟨-, item, work, -⟩, -⟩ := id h
  exact ⟨h.moves, work, item⟩

theorem Acts.stays {s t : State} (h : Acts s t) (tame : live = false → Tame s t) : Stays live s t :=
  .of_slot (h.moves tame) h.apart.slot

/-- An item other than an eject is in the slot. -/
def Busy (s : State) : Prop :=
  (s.cu.slot.work ≠ .idle ∨ s.cu.slot.item ≠ .free) ∧ s.cu.slot.work ≠ .eject

theorem Busy.of_work {s : State} {w : Work} (h : s.cu.slot.work = w) (active : w ≠ .idle := by decide)
    (other : w ≠ .eject := by decide) : Busy s := by
  simp [Busy, h, active, other]

theorem Busy.not_leaving {s : State} (h : Busy s) : ¬ Leaving s := fun l => h.2 l.2.1

theorem Stays.busy {s t : State} (h : Stays live s t) (busy : Busy s) : Busy t := by
  simpa [Busy, h.2.1, h.2.2] using busy

theorem Stays.setWork {s t : State} (h : Stays live s t) (busy : Busy s) (w : Work)
    (other : ∀ r, w ≠ .replying r := by simp) : Moves live s (setWork w t) :=
  h.moves.tail (.work (h.busy busy).not_leaving other (h.busy busy).1)

theorem Stays.finishWith {s t : State} (h : Stays live s t) (busy : Busy s) (o : OutcomeCode)
    (fields : List Byte) : Moves live s (finishWith o fields t) :=
  h.moves.tail (.finish (h.busy busy).not_leaving)

theorem Stays.finish {s t : State} (h : Stays live s t) (busy : Busy s) (o : OutcomeCode) :
    Moves live s (finish o t) :=
  h.moves.trans (finish_moves_of_not_leaving o (h.busy busy).not_leaving)

theorem setCart_stays {c : CartState} {s : State} (busy : Busy s) : Stays live s (setCart c s) :=
  .of_slot (.single (.cart busy.not_leaving)) rfl

theorem startRequest_stays {s : State} (busy : Busy s) : Stays live s (startRequest s) :=
  .of_slot (.single (.start busy.not_leaving)) (startRequest_slot s)

theorem beginWriteBack_stays (s : State) : Stays live s (beginWriteBack s) :=
  .of_slot (beginWriteBack_moves s) (beginWriteBack_slot s)

theorem beginLoad_stays (s : State) : Stays live s (beginLoad s) :=
  .of_slot (beginLoad_moves s) (beginLoad_slot s)

theorem restoreOffset_stays (s : State) : Stays live s (restoreOffset s) :=
  .of_slot (restoreOffset_moves s) (restoreOffset_slot s)

theorem requestTarget_stays (t : Target) (q : Option Requester) (s : State) :
    Stays live s (requestTarget t q s) := (requestTarget_acts t q s).stays fun _ => requestTarget_tame _ _ s

theorem requestRetract_stays (s : State) : Stays live s (requestRetract s) :=
  (requestRetract_acts s).stays fun _ => requestRetract_tame s

theorem stopRequest_stays (s : State) : Stays live s (stopRequest s) :=
  (stopRequest_acts s).stays fun _ => stopRequest_tame s

theorem settleWhereItIs_stays (s : State) : Stays live s (settleWhereItIs s) :=
  (settleWhereItIs_acts s).stays fun _ => settleWhereItIs_tame s

theorem dropNote_stays (s : State) : Stays live s (dropNote s) := (dropNote_aside s).stays

theorem dropTold_stays (s : State) : Stays live s (dropTold s) := (dropTold_aside s).stays

theorem dropSaved_stays (s : State) : Stays live s { s with mail := { s.mail with saved := none } } :=
  Aside.stays (by simp [Aside, SameMech])

theorem wakeMechanism_stays {s : State} (busy : Busy s) : Stays live s (wakeMechanism s) := by
  have ended := (endRest_aside s).stays (live := live)
  unfold wakeMechanism
  simp only
  split
  · exact ended
  · exact ended.trans (startRequest_stays (ended.busy busy))

/-- The spindle is started if it is not AT_SPEED. -/
theorem startUnless_stays {p : Prop} [Decidable p] {s : State} (busy : Busy s) :
    Stays live s (if p then s else startRequest s) := by
  split
  · exact .rfl
  · exact startRequest_stays busy

theorem slotFaulted_stays (cls : FaultClass) (s : State) : Stays live s (slotFaulted cls s) := by
  have dropped := dropNote_stays (live := live) s
  unfold slotFaulted
  simp only
  split
  · exact dropped.trans (Aside.stays (by simp [Aside, SameMech]))
  · exact dropped

theorem slotResult_stays (r : RecordResult) (s : State) : Stays live s (slotResult r s) :=
  Aside.stays (by simp [slotResult, Aside, SameMech])

theorem replaceReport_stays (r0 r1 : CopyReport) (s : State) : Stays live s (replaceReport r0 r1 s) :=
  Aside.stays (by simp [replaceReport, Aside, SameMech])

/-! ### SPIN UP, AUTO START and the reload -/

theorem beginStart_moves {s : State} (busy : Busy s) : Moves live s (beginStart s) :=
  have starting := setCart_stays busy
  (starting.trans (startRequest_stays (starting.busy busy))).setWork busy _

theorem endStart_moves {s : State} (o : OutcomeCode) (busy : Busy s) : Moves live s (endStart o s) :=
  ((setCart_stays busy).trans (stopRequest_stays _)).finish busy o

theorem choice_moves {r0 r1 : CopyReport} {c0 c1 : Option RecordCopy} {s : State}
    (answer : s.mail.load = some (.chosen r0 r1 c0 c1)) (busy : Busy s) (o : OutcomeCode) :
    Moves live s (finish o (applyChoice r0 r1 c0 c1 s)) :=
  (Stays.of_slot (applyChoice_moves answer busy.2) rfl).finish busy o

theorem advanceStart_may (s : State) : May live s (advanceStart s) := by
  unfold advanceStart
  split
  case h_1 hw =>
    have busy : Busy s := .of_work hw
    split
    · split
      · exact endStart_moves _ busy
      · exact (dropNote_stays s).moves
    · split
      · exact endStart_moves _ busy
      · split
        · exact (requestTarget_stays _ _ s).setWork busy _
        · trivial
  case h_2 hw =>
    have busy : Busy s := .of_work hw
    split
    · split
      · exact endStart_moves _ busy
      · exact (dropNote_stays s).moves
    · split
      · exact endStart_moves _ busy
      · split
        · trivial
        · exact ((dropTold_stays s).trans (beginLoad_stays _)).setWork busy _
        · exact endStart_moves _ busy
  case h_3 hw =>
    have busy : Busy s := .of_work hw
    split
    · trivial
    · exact endStart_moves _ busy
    · exact endStart_moves _ busy
    · exact choice_moves ‹_› busy _
  case h_4 => trivial

theorem beginSpinOnly_moves {s : State} (busy : Busy s) : Moves live s (beginSpinOnly s) :=
  (wakeMechanism_stays busy).setWork busy _

theorem Stays.reloadSpindle {s t : State} (h : Stays live s t) (busy : Busy s) : Moves live s (reloadSpindle t) :=
  (h.trans (startUnless_stays (h.busy busy))).setWork busy _

theorem beginReload_moves {s : State} (busy : Busy s) : Moves live s (beginReload s) := by
  have ended := (endRest_aside s).stays (live := live)
  unfold beginReload
  simp only
  split
  · exact (ended.trans (beginWriteBack_stays _)).setWork busy _
  · exact ended.reloadSpindle busy

theorem advanceReload_may (s : State) : May live s (advanceReload s) := by
  unfold advanceReload
  split
  case h_1 hw =>
    have busy : Busy s := .of_work hw
    split
    · split
      · exact finish_moves _ busy.2
      · exact (dropNote_stays s).moves
    · split
      · exact finish_moves _ busy.2
      · split
        · exact finish_moves _ busy.2
        · trivial
  case h_2 hw =>
    have busy : Busy s := .of_work hw
    split
    · trivial
    · split
      · exact finish_moves _ busy.2
      · split
        · exact finish_moves _ busy.2
        · split
          · exact finish_moves _ busy.2
          · exact (dropSaved_stays s).reloadSpindle busy
  case h_3 hw =>
    have busy : Busy s := .of_work hw
    split
    · split
      · exact finish_moves _ busy.2
      · exact (dropNote_stays s).moves
    · split
      · exact finish_moves _ busy.2
      · split
        · exact (requestTarget_stays _ _ s).setWork busy _
        · trivial
  case h_4 hw =>
    have busy : Busy s := .of_work hw
    split
    · split
      · exact finish_moves _ busy.2
      · exact (dropNote_stays s).moves
    · split
      · exact finish_moves _ busy.2
      · split
        · trivial
        · exact ((dropTold_stays s).trans (beginLoad_stays _)).setWork busy _
        · exact finish_moves _ busy.2
  case h_5 hw =>
    have busy : Busy s := .of_work hw
    split
    · trivial
    · exact finish_moves _ busy.2
    · exact finish_moves _ busy.2
    · split
      · exact choice_moves ‹_› busy _
      · exact (replaceReport_stays _ _ s).finish busy _
  case h_6 => trivial

/-! ### SEEK, REST, SPIN DOWN and TIMED WAKE -/

theorem beginSeek_moves {s : State} (busy : Busy s) : Moves live s (beginSeek s) :=
  (wakeMechanism_stays busy).setWork busy _

theorem advanceSeek_may (s : State) : May live s (advanceSeek s) := by
  unfold advanceSeek
  split
  case h_1 hw =>
    have busy : Busy s := .of_work hw
    split
    · split
      · exact finish_moves _ busy.2
      · exact (dropNote_stays s).moves
    · split
      · exact finish_moves _ busy.2
      · split
        · exact (requestTarget_stays _ _ s).setWork busy _
        · trivial
  case h_2 hw =>
    have busy : Busy s := .of_work hw
    split
    · split
      · exact finish_moves _ busy.2
      · exact (dropNote_stays s).moves
    · split
      · exact finish_moves _ busy.2
      · split
        · exact (settleWhereItIs_stays s).finish busy _
        · trivial
  case h_3 => trivial

theorem Stays.restParks {s t : State} (h : Stays live s t) (busy : Busy s) : Moves live s (restParks t) :=
  (h.trans (requestRetract_stays t)).setWork busy _

theorem beginRest_moves {s : State} (busy : Busy s) : Moves live s (beginRest s) := by
  have ended := (endRest_aside s).stays (live := live)
  unfold beginRest
  simp only
  split
  · exact (ended.trans (beginWriteBack_stays _)).setWork busy _
  · exact ended.restParks busy

theorem Stays.enterRest {s t : State} (h : Stays live s t) (busy : Busy s) : Moves live s (enterRest t) :=
  have rested : ∀ r : RestControl, Stays live t { t with rest := r } := fun r => Aside.stays (by simp [Aside, SameMech])
  (h.trans (rested _)).finish busy _

theorem advanceRest_may (s : State) : May live s (advanceRest s) := by
  unfold advanceRest
  split
  case h_1 hw =>
    have busy : Busy s := .of_work hw
    split
    · exact (slotFaulted_stays _ s).moves
    · split
      · trivial
      · exact (slotResult_stays _ s).restParks busy
  case h_2 hw =>
    have busy : Busy s := .of_work hw
    split
    · exact (slotFaulted_stays _ s).moves
    · split
      · split
        · exact (stopRequest_stays s).setWork busy _
        · exact Stays.rfl.enterRest busy
      · trivial
  case h_3 hw =>
    have busy : Busy s := .of_work hw
    split
    · exact (slotFaulted_stays _ s).enterRest busy
    · exact (slotFaulted_stays _ s).moves
    · split
      · exact Stays.rfl.enterRest busy
      · trivial
  case h_4 => trivial

theorem Stays.downParks {s t : State} (h : Stays live s t) (busy : Busy s) : Moves live s (downParks t) :=
  (h.trans (requestRetract_stays t)).setWork busy _

theorem beginSpinDown_moves {s : State} (busy : Busy s) : Moves live s (beginSpinDown s) := by
  have ended := (endRest_aside s).stays (live := live)
  unfold beginSpinDown
  simp only
  split
  · exact ended.downParks busy
  · split
    · exact (ended.trans (slotResult_stays _ _)).downParks busy
    · split
      · exact (ended.trans (beginWriteBack_stays _)).setWork busy _
      · exact (ended.trans (startRequest_stays (ended.busy busy))).setWork busy _

theorem Stays.downDiscards {s t : State} (h : Stays live s t) (busy : Busy s) : Moves live s (downDiscards t) := by
  have discarded := h.trans (discardSession_aside t).stays
  exact (discarded.trans (setCart_stays (discarded.busy busy))).finish busy _

theorem advanceSpinDown_may (s : State) : May live s (advanceSpinDown s) := by
  unfold advanceSpinDown
  split
  case h_1 hw =>
    have busy : Busy s := .of_work hw
    split
    · split
      · exact ((slotFaulted_stays _ s).trans (slotResult_stays _ _)).downParks busy
      · exact (dropNote_stays s).moves
    · split
      · exact (beginWriteBack_stays s).setWork busy _
      · trivial
  case h_2 hw =>
    have busy : Busy s := .of_work hw
    split
    · exact (slotFaulted_stays _ s).moves
    · split
      · trivial
      · exact (slotResult_stays _ s).downParks busy
  case h_3 hw =>
    have busy : Busy s := .of_work hw
    split
    · exact (slotFaulted_stays _ s).moves
    · split
      · exact (stopRequest_stays s).setWork busy _
      · trivial
  case h_4 hw =>
    have busy : Busy s := .of_work hw
    split
    · exact (slotFaulted_stays _ s).downDiscards busy
    · exact (slotFaulted_stays _ s).moves
    · split
      · exact Stays.rfl.downDiscards busy
      · trivial
  case h_5 => trivial

theorem Stays.endWake {s t : State} (h : Stays live s t) (busy : Busy s) : Moves live s (endWake t) :=
  (h.trans (setCause_aside _ t).stays).finish busy _

theorem beginWake_moves {s : State} (busy : Busy s) : Moves live s (beginWake s) := by
  have ended := (endRest_aside s).stays (live := live)
  unfold beginWake
  split
  · exact finish_moves _ busy.2
  · simp only
    split
    · exact ended.endWake busy
    · exact (ended.trans (startUnless_stays (ended.busy busy))).setWork busy _

theorem advanceWake_may (s : State) : May live s (advanceWake s) := by
  unfold advanceWake
  split
  case h_1 hw =>
    have busy : Busy s := .of_work hw
    split
    · split
      · exact Stays.rfl.endWake busy
      · exact (dropNote_stays s).moves
    · split
      · exact Stays.rfl.endWake busy
      · split
        · split
          · exact (requestTarget_stays _ _ s).setWork busy _
          · exact Stays.rfl.endWake busy
        · trivial
  case h_2 hw =>
    have busy : Busy s := .of_work hw
    split
    · split
      · exact Stays.rfl.endWake busy
      · exact (dropNote_stays s).moves
    · split
      · exact Stays.rfl.endWake busy
      · split
        · exact (settleWhereItIs_stays s).endWake busy
        · trivial
  case h_3 => trivial

/-! ### The eject sequence -/

/-- The eject has not come to its last stage. -/
def Undone (s : State) : Prop := s.cart.eject.map Eject.stage ≠ some .leaveOrJam

theorem Undone.not_leaving {s : State} (h : Undone s) : ¬ Leaving s := fun l => h l.2.2.1

theorem ejectStage_moves {s : State} (st : EjectStage) (h : Undone s) : Moves live s (ejectStage st s) :=
  .single (.eject h.not_leaving)

theorem ejectParks_moves {s : State} (h : Undone s) : Moves live s (ejectParks s) := by
  have parks := ejectStage_moves (live := live) .park h
  unfold ejectParks
  simp only
  split
  · exact parks
  · exact parks.trans (requestRetract_stays _).moves

theorem Aside.undone {s t : State} (h : Aside s t) (k : Undone s) : Undone t := by
  obtain ⟨-, -, -, ⟨-, -, -, stage⟩, -⟩ := h
  rwa [Undone, stage]

theorem ejectSaveFails_moves {s : State} (o : OutcomeCode) (h : Undone s) : Moves live s (ejectSaveFails o s) := by
  have lost := setCause_aside .recordLost s
  unfold ejectSaveFails
  split
  · split
    · exact lost.moves.trans (ejectParks_moves (lost.undone h))
    · have back : Moves live s (setCart (s.cart.origin.getD .present) s) := .single (.cart h.not_leaving)
      exact back.trans (finish_moves_of_not_leaving o fun l => h l.2.2.1)
  · exact finish_moves_of_not_leaving o h.not_leaving

theorem ejectSaves_moves {s : State} (h : Undone s) : Moves live s (ejectSaves s) :=
  (beginWriteBack_moves s).trans (ejectStage_moves .writeBack (by simpa [Undone] using h))

/-- What an eject changes when it begins (R12). -/
def ejectBegun (button force : Bool) (s : State) : State :=
  setWork .eject (setEject (some s.cart.state) (some { button, force, stage := .writeBackSpin, window := none })
    (endRest (setCart .unloading s)))

theorem ejectBegun_moves {s : State} (button force : Bool) (busy : Busy s) :
    Moves live s (ejectBegun button force s) := by
  have unloading := (setCart_stays (live := live) (c := .unloading) busy).trans (endRest_aside _).stays
  have lasting := unloading.busy busy
  have ejects : Stays live (endRest (setCart .unloading s)) (setEject (some s.cart.state)
      (some { button, force, stage := .writeBackSpin, window := none }) (endRest (setCart .unloading s))) :=
    .of_slot (.single (.eject lasting.not_leaving)) rfl
  exact (unloading.trans ejects).setWork busy _

theorem ejectBegun_undone (button force : Bool) (s : State) : Undone (ejectBegun button force s) := by
  simp [Undone, ejectBegun, setEject]

theorem beginEject_moves {s : State} (button force : Bool) (busy : Busy s) :
    Moves live s (beginEject button force s) := by
  have begun := ejectBegun_moves (live := live) button force busy
  have undone := ejectBegun_undone button force s
  unfold beginEject
  simp only
  change Moves live s (if _ then ejectParks (ejectBegun button force s) else _)
  split
  · exact begun.trans (ejectParks_moves undone)
  · split
    · split
      · exact begun.trans (ejectSaves_moves undone)
      · exact begun.trans (ejectSaveFails_moves _ undone)
    · split
      · exact begun.trans (ejectSaveFails_moves _ undone)
      · split
        · exact begun.trans (ejectSaves_moves undone)
        · exact begun.tail (.start undone.not_leaving)

@[simp] theorem discardSession_cart (s : State) : (discardSession s).cart = s.cart := by
  unfold discardSession
  split <;> rfl

theorem discarded_moves {s : State} (c : CartState) (h : ¬ Leaving s) :
    Moves live s (resetReport (discardSession (setCart c s))) :=
  ((Move.cart h).moves.trans (discardSession_aside _).moves).trans (resetReport_aside _).moves

theorem ejectBrakeFails_moves {s : State} (h : Undone s) : Moves live s (ejectBrakeFails s) := by
  refine (discarded_moves _ h.not_leaving).trans (finish_moves_of_not_leaving _ ?_)
  exact Undone.not_leaving (by simpa [Undone, discardSession_cart] using h)

theorem ejectBrakes_moves {s : State} (h : Undone s) : Moves live s (ejectBrakes s) := by
  have brakes := ejectStage_moves (live := live) .brake h
  unfold ejectBrakes
  simp only
  split
  · exact brakes
  · exact brakes.trans (stopRequest_stays _).moves

/-- The latch is not asserted. -/
theorem not_leaving_of_unlatched {s : State} (h : s.cart.latch = false) : ¬ Leaving s := fun l => by
  simp [Leaving, h] at l

@[simp] theorem unlatch_latch (s : State) : (unlatch s).cart.latch = false := rfl

theorem shellLeaves_eq (s : State) : shellLeaves s = setShell none false false
    (setCause .removed (resetReport (discardSession (setCart .empty (unlatch s))))) := by
  by_cases h : s.record.unsaved = true <;>
    simp [shellLeaves, setShell, discardSession, resetReport, setCause, setCart, unlatch, h]

theorem ejectJams_eq (s : State) : ejectJams s = finish .ejectJammed
    (setCause .jammed (resetReport (discardSession (setCart (stateForType s.cart.type) (unlatch s))))) := by
  by_cases h : s.record.unsaved = true <;>
    simp [ejectJams, discardSession, resetReport, setCause, setCart, unlatch, h]

/-- The shell leaves (R19): the latch goes first. -/
theorem shellLeaves_moves (s : State) : Moves live s (shellLeaves s) := by
  have opened : Moves live s (unlatch s) := .single (.unlatch s)
  have gone := opened.trans (discarded_moves (s := unlatch s) .empty (not_leaving_of_unlatched rfl))
  have told := gone.trans (setCause_aside .removed _).moves
  rw [shellLeaves_eq]
  exact told.tail (.shell _ _ _ _)

theorem shellLeaves_unlatched (s : State) : (shellLeaves s).cart.latch = false := rfl

theorem ejectLeaves_moves (s : State) : Moves live s (ejectLeaves s) :=
  (shellLeaves_moves s).trans
    (finish_moves_of_not_leaving _ (not_leaving_of_unlatched (shellLeaves_unlatched s)))

theorem ejectJams_moves (s : State) : Moves live s (ejectJams s) := by
  have opened : Moves live s (unlatch s) := .single (.unlatch s)
  have gone := opened.trans
    (discarded_moves (s := unlatch s) (stateForType s.cart.type) (not_leaving_of_unlatched rfl))
  rw [ejectJams_eq]
  refine (gone.trans (setCause_aside .jammed _).moves).trans (finish_moves_of_not_leaving _ ?_)
  exact not_leaving_of_unlatched (by simp [unlatch])

theorem ejectReleases_moves {s : State} (h : Undone s) (work : s.cu.slot.work = .eject)
    (some : s.cart.eject.isSome) (still : s.spin.state = .stopped) (parked : s.pos.state = .parked) :
    Moves live s (ejectReleases s) := by
  have released : Moves live s (setCart .released s) := .single (.cart h.not_leaving)
  have latched := released.tail (Move.latch (s := setCart .released s) rfl work some still parked)
  unfold ejectReleases
  simp only
  split
  · exact latched
  · exact latched.trans (ejectLeaves_moves _)

theorem advanceEject_may {s : State} (work : s.cu.slot.work = .eject) : May live s (advanceEject s) := by
  have answered : Aside s (dropNote { s with mail := { s.mail with saved := none } }) := by
    simp [Aside, SameMech]
  unfold advanceEject
  split
  · trivial
  · rename_i e he
    have undone {st : EjectStage} (h : e.stage = st) (last : st ≠ .leaveOrJam) : Undone s := by
      simp [Undone, he, h, last]
    split
    case h_1 hs =>
      have go := undone hs (by decide)
      split
      · split
        · exact (dropNote_stays s).moves.trans (ejectSaveFails_moves _ ((dropNote_aside s).undone go))
        · exact (dropNote_stays s).moves
      · split
        · exact ejectSaves_moves go
        · trivial
    case h_2 hs =>
      have go := answered.undone (undone hs (by decide))
      split
      · trivial
      · simp only
        split
        · exact answered.moves.trans (ejectSaveFails_moves _ go)
        · exact answered.moves.trans (ejectParks_moves go)
    case h_3 hs =>
      have go := undone hs (by decide)
      split
      · exact (dropNote_stays s).moves
      · split
        · split
          · exact ejectBrakeFails_moves go
          · exact ejectBrakes_moves go
        · trivial
    case h_4 hs =>
      have go := undone hs (by decide)
      split
      · exact ejectBrakeFails_moves go
      · split
        · exact (dropNote_stays s).moves
        · split
          · exact ejectStage_moves _ go
          · trivial
    case h_5 hs =>
      have go := undone hs (by decide)
      split
      · exact (dropNote_stays s).moves
      · split
        · rename_i atRest
          exact ejectReleases_moves go work (by simp [he]) atRest.1 atRest.2
        · trivial
    case h_6 =>
      split
      · exact (dropNote_stays s).moves
      · trivial

/-! ### The soft reset -/

theorem advanceReset_may (s : State) : May live s (advanceReset s) := by
  unfold advanceReset
  split
  · rename_i hw
    split
    · exact (dropNote_stays s).moves
    · split
      · exact .single (.restore hw)
      · trivial
  · trivial

end Sys2Proof.Machine

/-! ## Proofs: the moves of the items that transfer blocks -/

namespace Sys2Proof.Machine

variable {live : Bool}

/-! ### READ, WRITE and VERIFY -/

theorem setTransfer_stays (t : Transfer) (s : State) : Stays live s (setTransfer t s) :=
  (setTransfer_aside t s).stays

theorem setReassign_stays (r : Reassign) (s : State) : Stays live s (setReassign r s) :=
  (setReassign_aside r s).stays

theorem stopGateWait_stays (s : State) : Stays live s (stopGateWait s) := (stopGateWait_aside s).stays

theorem startGateWait_stays (s : State) : Stays live s (startGateWait s) := (startGateWait_aside s).stays

theorem dropSector_stays (s : State) : Stays live s (dropSector s) := (dropSector_aside s).stays

theorem fillFree_stays (b : BufSlot) (s : State) : Stays live s (fillFree b s) := (fillFree_aside b s).stays

theorem setSlotOf_stays (i : Nat) (b : BufSlot) (s : State) : Stays live s (setSlotOf i b s) :=
  (setSlotOf_aside i b s).stays

theorem dropRequester_stays (s : State) : Stays live s (dropRequester s) := (dropRequester_aside s).stays

/-- The buffer, the requests and the timers of the channel are no law's concern. -/
theorem setChan_stays {s : State} {c : Channel} (gate : c.wgate = s.chan.wgate := by rfl)
    (write : c.writeCurrent = s.chan.writeCurrent := by rfl) (op : c.op = s.chan.op := by rfl)
    (rot : c.rotation = s.chan.rotation := by rfl) : Stays live s { s with chan := c } :=
  Aside.stays (by simp [Aside, SameMech, gate, write, op, rot])

/-- The answers taken before the load's are no law's concern. -/
theorem setMail_stays {s : State} {m : Mail} (load : m.load = s.mail.load := by rfl) :
    Stays live s { s with mail := m } :=
  Aside.stays (by simp [Aside, SameMech, load])

theorem dropAnswers_stays (s : State) :
    Stays live s { s with mail := { s.mail with sector := none, told := none, note := none } } := setMail_stays

theorem dropCopies_stays (s : State) : Stays live s { s with mail := { s.mail with copies := none } } :=
  setMail_stays

theorem requestNext_stays (s : State) : Stays live s (requestNext s) := by
  unfold requestNext
  split
  · split
    · exact ((setTransfer_stays _ s).trans (fillFree_stays _ _)).trans (.of_slot (.single (.request _ _)) rfl)
    · exact .rfl
  · exact .rfl

theorem requestData_stays (s : State) : Stays live s (requestData s) :=
  (requestNext_stays s).trans (requestNext_stays _)

theorem beginData_moves (cmd : DataCommand) {s : State} (busy : Busy s) : Moves live s (beginData cmd s) := by
  unfold beginData
  simp only
  split
  · exact finish_moves _ busy.2
  · have set := setTransfer_stays (live := live)
      (newTransfer cmd (slotTag s) (word32At (slotParams s) 0) (min (byteAt (slotParams s) 4) 16) s) s
    split
    · exact set.finish busy _
    · split
      · exact set.finish busy _
      · exact ((set.trans (wakeMechanism_stays (set.busy busy))).trans (requestData_stays _)).setWork busy _

theorem endBuffers_stays (t : Transfer) (o : OutcomeCode) (s : State) : Stays live s (endBuffers t o s) := by
  unfold endBuffers
  split
  · exact Stays.trans setChan_stays (.of_slot (.single (.withdraw _)) rfl)
  · split
    · exact setChan_stays
    · exact .rfl

theorem endTransfer_stays (t : Transfer) (o : OutcomeCode) (save : Bool) (s : State) :
    Stays live s (endTransfer t o save s) := by
  have stopped := (((endBuffers_stays (live := live) t o s).trans (restoreOffset_stays _)).trans
    (stopGateWait_stays _)).trans (dropRequester_stays _)
  unfold endTransfer
  simp only
  generalize dropRequester (stopGateWait (restoreOffset (endBuffers t o s))) = x at *
  have quiet : Stays live s { x with mail := { x.mail with sector := none, told := none, note := none } } :=
    stopped.trans (dropAnswers_stays x)
  split
  · exact (quiet.trans (setTransfer_stays _ _)).trans (beginWriteBack_stays _)
  · exact quiet.trans (setTransfer_stays _ _)

theorem attemptFails_stays (t : Transfer) (s : State) : Stays live s (attemptFails t s) := by
  unfold attemptFails
  split
  · exact endTransfer_stays _ _ _ s
  · split
    · exact ((raise_acts _ s).stays fun _ => raise_tame _ s).trans (endTransfer_stays _ _ _ _)
    · split
      · exact setTransfer_stays _ s
      · exact (setTransfer_stays _ s).trans (requestTarget_stays _ _ _)

theorem frameBuffered_stays (idx : Nat) (d : List Byte) (s : State) : Stays live s (frameBuffered idx d s) := by
  have filled := fillFree_stays (live := live) (.holding idx d) s
  unfold frameBuffered
  simp only
  split
  · exact filled.trans setChan_stays
  · exact filled

theorem blockRead_stays (t : Transfer) (d : List Byte) (s : State) : Stays live s (blockRead t d s) := by
  unfold blockRead
  simp only
  split
  · exact (frameBuffered_stays _ _ s).trans (setTransfer_stays _ _)
  · exact setTransfer_stays _ s

theorem blockWritten_stays (t : Transfer) (s : State) : Stays live s (blockWritten t s) :=
  ((setSlotOf_stays _ _ s).trans (setTransfer_stays _ _)).trans (requestData_stays _)

theorem goToPlace_stays (t : Transfer) (s : State) : Stays live s (goToPlace t s) := by
  unfold goToPlace
  split
  · exact setTransfer_stays _ s
  · exact (setTransfer_stays _ s).trans (requestTarget_stays _ _ _)

/-- A reassignment leaves the session's zone table consistent (R100). -/
theorem changeZones_aside {s : State} {wp : Bool} {lba k : Nat} {zones : List Zone}
    (moved : reassignLba wp (sessionTable s).1 (sessionTable s).2 lba = .moved k zones) :
    Aside s (changeZones zones s) := by
  unfold changeZones
  split
  · rename_i r full
    refine ⟨by simp [SameMech], by simp, by simp, by simp, fun _ => by simp [SessionOk], ?_, rfl, rfl, rfl, id, rfl⟩
    rintro ⟨sound, fmt, load, answer⟩
    refine ⟨?_, fmt, load, answer⟩
    simp only [full, SessionState.Sound] at sound ⊢
    simp only [sessionTable, fullSession, full, reassignLba] at moved
    split at moved
    · cases moved
    · rename_i z one
      obtain ⟨-, rfl⟩ := Moved.moved.inj moved
      intro z' mem
      obtain old | rfl := List.mem_or_eq_of_mem_set mem
      · exact sound z' old
      · exact reassignZone_consistent (offset_lt _ _) (zoneAt_consistent sound _) one
  · exact .rfl

theorem moveBlock_stays (t : Transfer) (s : State) : Stays live s (moveBlock t s) := by
  unfold moveBlock
  split
  · exact endTransfer_stays _ _ _ s
  · split
    · exact endTransfer_stays _ _ _ s
    · rename_i moved
      exact ((changeZones_aside moved).stays.trans (stopGateWait_stays _)).trans (goToPlace_stays _ _)

theorem blockSectorEnds_stays (t : Transfer) (r : SectorResult) (s : State) :
    Stays live s (blockSectorEnds t r s) := by
  unfold blockSectorEnds
  split
  · split
    · exact setTransfer_stays _ s
    · exact blockWritten_stays t s
  · exact .rfl
  · exact blockRead_stays t _ s
  · exact attemptFails_stays t s

theorem readBackEnds_stays (t : Transfer) (r : SectorResult) (s : State) :
    Stays live s (readBackEnds t r s) := by
  unfold readBackEnds
  split
  · split
    · exact blockWritten_stays t s
    · exact moveBlock_stays t s
  · exact moveBlock_stays t s
  · exact .rfl

theorem beginBlock_stays (t : Transfer) (s : State) : Stays live s (beginBlock t s) := by
  unfold beginBlock
  split
  · exact endTransfer_stays _ _ _ s
  · exact goToPlace_stays _ s

theorem transferFault_stays (t : Transfer) (cls : FaultClass) (s : State) :
    Stays live s (transferFault t cls s) := by
  unfold transferFault
  split
  · exact endTransfer_stays _ _ _ s
  · exact endTransfer_stays _ _ _ s

theorem advanceBlocks_may (t : Transfer) (s : State) : May live s (advanceBlocks t s) := by
  unfold advanceBlocks
  split
  · split
    · exact (setTransfer_stays _ s).moves
    · trivial
  · exact (beginBlock_stays t s).moves
  · split
    · trivial
    · exact ((dropTold_stays s).trans (setTransfer_stays _ _)).moves
    · exact (endTransfer_stays _ _ _ s).moves
  all_goals trivial

theorem transferSaved_stays (t : Transfer) (r : RecordResult) (s : State) :
    Stays live s (transferSaved t r s) :=
  ((dropSaved_stays s).trans (dropNote_stays _)).trans (setTransfer_stays _ _)

theorem advanceData_may {s : State} (busy : Busy s) : May live s (advanceData s) := by
  unfold advanceData
  split
  · trivial
  · rename_i t ht
    split
    · split
      · exact (transferSaved_stays t _ s).moves
      · trivial
    · split
      · split
        · exact (dropNote_stays s).moves
        · split
          · exact finish_moves _ busy.2
          · trivial
      · split
        · exact (transferFault_stays t _ s).moves
        · split
          · split
            · exact ((dropSector_stays s).trans (readBackEnds_stays t _ _)).moves
            · exact ((dropSector_stays s).trans (blockSectorEnds_stays t _ _)).moves
          · split
            · exact (endTransfer_stays _ _ _ s).moves
            · split
              · exact (endTransfer_stays _ _ _ s).moves
              · exact advanceBlocks_may t s

theorem withdrawOldest_stays (s : State) : Stays live s (withdrawOldest s) := by
  unfold withdrawOldest
  split
  · exact .rfl
  · exact Stays.trans setChan_stays (setSlotOf_stays _ _ _)

theorem timeOut_stays (t : Transfer) (s : State) : Stays live s (timeOut t s) := by
  unfold timeOut
  split
  · exact setTransfer_stays _ s
  · exact endTransfer_stays _ _ _ s

theorem dropFrames_stays (s : State) : Stays live s (dropFrames s) := setChan_stays

theorem dataTimerExpires_stays (s : State) : Stays live s (dataTimerExpires s) := by
  unfold dataTimerExpires
  split
  · exact .rfl
  · split
    · split
      · exact .rfl
      · split
        · exact withdrawOldest_stays s
        · exact (withdrawOldest_stays s).trans (timeOut_stays _ _)
    · split
      · exact .rfl
      · split
        · exact (dropFrames_stays s).trans (setTransfer_stays _ _)
        · exact (dropFrames_stays s).trans (timeOut_stays _ _)

theorem takeData_stays (d : List Byte) (s : State) : Stays live s (takeData d s) := by
  unfold takeData
  split
  · exact (setCause_aside _ s).stays
  · simp only
    split
    · split
      · exact Stays.trans setChan_stays (setSlotOf_stays _ _ _)
      · exact (Stays.trans setChan_stays (setSlotOf_stays _ _ _)).trans (requestData_stays _)
    · exact Stays.trans setChan_stays (setSlotOf_stays _ _ _)

/-! ### REASSIGN -/

theorem beginReassign_moves {s : State} (busy : Busy s) : Moves live s (beginReassign s) := by
  unfold beginReassign
  simp only
  split
  · exact finish_moves _ busy.2
  · split
    · exact finish_moves _ busy.2
    · split
      · exact finish_moves _ busy.2
      · have set := setReassign_stays (live := live)
        exact ((set _ s).trans (wakeMechanism_stays ((set _ s).busy busy))).setWork busy _

theorem writeStageEnds_stays (r : Reassign) (o : OutcomeCode) (s : State) :
    Stays live s (writeStageEnds r o s) :=
  ((((dropAnswers_stays s).trans (dropRequester_stays _)).trans (stopGateWait_stays _)).trans
    (setReassign_stays _ _)).trans (beginWriteBack_stays _)

theorem allocateSpare_stays (r : Reassign) (s : State) : Stays live s (allocateSpare r s) := by
  unfold allocateSpare
  split
  · exact writeStageEnds_stays r _ s
  · rename_i moved
    have changed := (changeZones_aside moved).stays (live := live) |>.trans (stopGateWait_stays _)
    simp only
    split
    · exact (changed.trans (setReassign_stays _ _)).trans (startGateWait_stays _)
    · exact (changed.trans (setReassign_stays _ _)).trans (requestTarget_stays _ _ _)

theorem bufferBlock_stays (d : List Byte) (s : State) : Stays live s (bufferBlock d s) := setChan_stays

theorem reassignAttemptFails_stays (r : Reassign) (s : State) : Stays live s (reassignAttemptFails r s) := by
  unfold reassignAttemptFails
  split
  · exact (bufferBlock_stays _ s).trans (allocateSpare_stays _ _)
  · split
    · exact setReassign_stays _ s
    · exact (setReassign_stays _ s).trans (requestTarget_stays _ _ _)

theorem beginReadStage_stays (r : Reassign) (s : State) : Stays live s (beginReadStage r s) := by
  unfold beginReadStage
  simp only
  split
  · exact setReassign_stays _ s
  · exact (setReassign_stays _ s).trans (requestTarget_stays _ _ _)

theorem endReassignEarly_moves {s : State} (o : OutcomeCode) (busy : Busy s) :
    Moves live s (endReassignEarly o s) := (restoreOffset_stays s).finish busy o

theorem reassignFault_moves {s : State} (r : Reassign) (cls : FaultClass) (busy : Busy s) :
    Moves live s (reassignFault r cls s) := by
  unfold reassignFault
  split
  · exact finish_moves _ busy.2
  · split
    · exact (writeStageEnds_stays _ _ s).moves
    · exact endReassignEarly_moves _ busy

theorem reassignSectorEnds_stays (r : Reassign) (x : SectorResult) (s : State) :
    Stays live s (reassignSectorEnds r x s) := by
  unfold reassignSectorEnds
  split
  · exact (bufferBlock_stays _ s).trans (allocateSpare_stays _ _)
  · exact reassignAttemptFails_stays r s
  · split
    · exact writeStageEnds_stays _ _ s
    · exact (stopGateWait_stays s).trans (setReassign_stays _ _)
  · split
    · exact writeStageEnds_stays _ _ s
    · exact .rfl
  · split
    · exact writeStageEnds_stays _ _ s
    · exact allocateSpare_stays r s
  · exact allocateSpare_stays r s
  · exact .rfl

theorem advanceReassign_may {s : State} (busy : Busy s) : May live s (advanceReassign s) := by
  unfold advanceReassign
  split
  · trivial
  · rename_i r hr
    split
    · split
      · trivial
      · exact (setReassign_stays _ s).finish busy _
    · split
      · exact reassignFault_moves r _ busy
      · split
        · exact endReassignEarly_moves _ busy
        · split
          · exact ((dropSector_stays s).trans (reassignSectorEnds_stays r _ _)).moves
          · split
            · split
              · exact (beginReadStage_stays r s).moves
              · trivial
            · split
              · trivial
              · exact ((dropTold_stays s).trans (setReassign_stays _ _)).moves
              · exact endReassignEarly_moves _ busy
              · exact endReassignEarly_moves _ busy
            · split
              · trivial
              · exact (((dropTold_stays s).trans (setReassign_stays _ _)).trans (startGateWait_stays _)).moves
              · exact (writeStageEnds_stays _ _ s).moves
            · trivial

/-! ### FORMAT -/

/-- The context is sound where the tables of the state are. -/
def Format.SoundIn (f : Format) (s : State) : Prop := tables s → f.Sound

theorem soundIn_of_fmt {f : Format} {s : State} (h : s.fmt = some f) : f.SoundIn s :=
  fun ⟨_, fmt, _⟩ => fmt f h

theorem setFormat_stays {f : Format} {s : State} (h : f.SoundIn s) : Stays live s (setFormat f s) := by
  have kept : tables s → tables (setFormat f s) := by
    intro ok
    obtain ⟨session, -, load, answer⟩ := id ok
    exact ⟨session, fun g hg => Option.some.inj hg ▸ h ok, load, answer⟩
  exact Aside.stays ⟨by simp [SameMech], by simp, by simp, by simp, id, kept, rfl, rfl, rfl, id, rfl⟩

theorem formatTarget_stays {f : Format} {s : State} (h : Format.SoundIn { f with step := .target } s) :
    Stays live s (formatTarget f s) :=
  (setFormat_stays h).trans (requestTarget_stays _ _ _)

/-- Outside VERIFYING a context is sound where its zone entries are consistent. -/
theorem Format.sound_of_zones {f : Format} (phase : f.phase ≠ .verifying)
    (zones : ∀ z ∈ f.zones, z.consistent f.type = true) : f.Sound :=
  ⟨zones, fun h => absurd h phase⟩

theorem newFormat_sound (p : List Byte) (s : State) : (newFormat p s).Sound :=
  Format.sound_of_zones (by simp [newFormat]) (by simp [newFormat])

theorem beginFormat_moves {s : State} (busy : Busy s) : Moves live s (beginFormat s) := by
  unfold beginFormat
  split
  · exact finish_moves _ busy.2
  · have set := setFormat_stays (live := live) (s := s) fun _ => newFormat_sound (slotParams s) s
    exact (set.trans (wakeMechanism_stays (set.busy busy))).setWork busy _

/-- A session of which the type alone is known (R134). -/
theorem typeOnly_stays (type : CartType) {s : State} (status : s.record.copyStatus = .none)
    (unsaved : s.record.unsaved = false) :
    Stays live s { s with record := { s.record with session := .typeOnly type } } := by
  refine Aside.stays ⟨by simp [SameMech], by simp, by simp, by simp, fun _ _ => ⟨status, unsaved⟩, ?_, rfl, rfl, rfl, id, rfl⟩
  rintro ⟨-, fmt, load, answer⟩
  exact ⟨trivial, fmt, load, answer⟩

theorem enterMarking_stays {s : State} (f : Format) (busy : Busy s) : Stays live s (enterMarking f s) := by
  have discarded := (discardSession_aside s).stays (live := live)
  have blank := discarded.trans (setCart_stays (c := .blank) (discarded.busy busy))
  have reset := blank.trans (resetReport_aside _).stays
  have typed := reset.trans (typeOnly_stays f.type (by simp [discardSession]) (by simp [discardSession]))
  refine (typed.trans (setFormat_stays fun _ => ?_)).trans (beginCopies_aside _ _ _).stays
  exact Format.sound_of_zones (by simp) (emptyZones_consistent _)

theorem enterWriting_stays {f : Format} {s : State} (h : f.SoundIn s) : Stays live s (enterWriting f s) :=
  formatTarget_stays fun ok => Format.sound_of_zones (by simp) (h ok).1

theorem beginSpares_stays {f : Format} {s : State} (z : Nat) (h : f.SoundIn s) :
    Stays live s (beginSpares z f s) :=
  formatTarget_stays fun ok => ⟨(h ok).1, by simp⟩

theorem userSlots_pos (t : CartType) : 0 < t.userSlots := by cases t <;> decide

theorem beginUsers_stays {f : Format} {s : State} (h : f.SoundIn s) : Stays live s (beginUsers f s) :=
  formatTarget_stays fun ok => ⟨(h ok).1, fun _ => ⟨by simp, fun _ => by
    simpa [userSlot] using userSlots_pos f.type⟩⟩

theorem enterFinishing_stays {f : Format} {s : State} (h : f.SoundIn s) : Stays live s (enterFinishing f s) :=
  formatTarget_stays fun ok => Format.sound_of_zones (by simp) (h ok).1

theorem writingDone_stays {f : Format} {s : State} (h : f.SoundIn s) : Stays live s (writingDone f s) := by
  unfold writingDone
  split
  · exact beginSpares_stays 0 h
  · exact enterFinishing_stays h

theorem trackWritten_stays {f : Format} {s : State} (n : Nat) (h : f.SoundIn s)
    (phase : f.phase = .writing) : Stays live s (trackWritten n f s) := by
  have other : f.phase ≠ .verifying := by simp [phase]
  unfold trackWritten nextTrack
  split
  · split
    · exact setFormat_stays fun ok => Format.sound_of_zones other (h ok).1
    · split
      · exact formatTarget_stays fun ok => Format.sound_of_zones other (h ok).1
      · exact writingDone_stays (f := { f with seen := n :: f.seen }) h
  · exact setFormat_stays (f := { f with seen := n :: f.seen }) h

/-- Marking a spare keeps a consistent entry consistent; beyond the bitmap it marks nothing. -/
theorem markSet_consistent_any {t : CartType} {z : Zone} (k : Nat) (h : z.consistent t = true) :
    (z.markSet k).consistent t = true := by
  by_cases lt : k < 32
  · exact markSet_consistent lt h
  · have none : 1#32 <<< k = 0#32 := BitVec.shiftLeft_eq_zero (by omega)
    simpa [Zone.markSet, none] using h

theorem mem_set_consistent {t : CartType} {zones : List Zone} {i : Nat} {z : Zone}
    (all : ∀ z ∈ zones, z.consistent t = true) (one : z.consistent t = true) :
    ∀ z' ∈ zones.set i z, z'.consistent t = true := by
  intro z' mem
  obtain old | rfl := List.mem_or_eq_of_mem_set mem
  · exact all z' old
  · exact one

/-- The spare check goes on to its next spare, or to the user check. -/
theorem nextSpare_stays {f : Format} {s : State} (h : f.SoundIn s) :
    Stays live s (if f.abortPending ∨ f.index < f.type.spareWidth then setFormat f s else beginUsers f s) := by
  split
  · exact setFormat_stays h
  · exact beginUsers_stays h

theorem spareRead_stays {f : Format} {s : State} (good : Bool) (h : f.SoundIn s)
    (user : f.userPart = false) (step : tables s → f.step ≠ .track) : Stays live s (spareRead good f s) := by
  have place : ∀ slot, f.userPart = true → slot < f.type.userSlots := by simp [user]
  cases good with
  | true => exact nextSpare_stays fun ok => ⟨(h ok).1, fun _ => ⟨step ok, place _⟩⟩
  | false =>
    refine nextSpare_stays fun ok => ⟨mem_set_consistent (h ok).1 ?_, fun _ => ⟨step ok, place _⟩⟩
    exact markSet_consistent_any f.index (zoneAt_consistent (h ok).1 f.zone)

theorem zoneDone_stays {f : Format} {s : State} (h : f.SoundIn s) : Stays live s (zoneDone f s) := by
  unfold zoneDone
  split
  · exact beginSpares_stays _ h
  · exact enterFinishing_stays h

/-- The first slot of the next track of a user check is one of the zone's, where the check goes on
(R137). -/
theorem nextUserTrack_stays {f : Format} {s : State} (h : f.SoundIn s) (step : tables s → f.step ≠ .track) :
    Stays live s (nextUserTrack f s) := by
  unfold nextUserTrack
  split
  · exact zoneDone_stays h
  · rename_i more
    split
    · rename_i head
      refine setFormat_stays fun ok => ⟨(h ok).1, fun _ => ⟨step ok, fun _ => ?_⟩⟩
      simp only [userSlot, head] at more ⊢
      omega
    · rename_i head
      refine formatTarget_stays fun ok => ⟨(h ok).1, fun _ => ⟨by simp, fun _ => ?_⟩⟩
      simp only [userSlot] at more ⊢
      omega

theorem userChecked_stays {f : Format} {s : State} (n : Nat) (h : f.SoundIn s) (step : tables s → f.step ≠ .track) :
    Stays live s (userChecked n f s) := by
  have sound : Format.SoundIn { f with seen := n :: f.seen, waits := f.waits.filter fun w => w.1 != n } s := h
  unfold userChecked
  simp only
  split
  · exact setFormat_stays sound
  · exact nextUserTrack_stays sound step

/-- A user check: what its sector's end finds reassigns its slot, a user slot (R137). -/
theorem userRead_moves {f : Format} {s : State} (good : Bool) (busy : Busy s)
    (phase : f.phase = .verifying) (user : f.userPart = true) (h : f.SoundIn s) (step : tables s → f.step ≠ .track) :
    Moves live s (userRead f.index good f s) := by
  unfold userRead
  split
  · exact (userChecked_stays _ h step).moves
  · split
    · refine (setFormat_stays ?_).finish busy _
      exact h
    · exact finish_moves _ busy.2
    · rename_i moved
      refine (userChecked_stays (f := { f with reassigned := f.reassigned + 1, zones := _ }) _ ?_ step).moves
      intro ok
      obtain ⟨all, place⟩ := h ok
      obtain ⟨-, slot⟩ := place phase
      have one := reassignZone_consistent (slot user) (zoneAt_consistent all f.zone) moved
      exact ⟨mem_set_consistent all one, place⟩

theorem verifyRead_moves {f : Format} {s : State} (r : SectorResult) (busy : Busy s)
    (phase : f.phase = .verifying) (h : f.SoundIn s) : Moves live s (verifyRead f.index r f s) := by
  have step : tables s → f.step ≠ .track := fun ok => ((h ok).2 phase).1
  unfold verifyRead
  split
  · split
    · exact userRead_moves _ busy phase ‹_› h step
    · exact (spareRead_stays _ h (by simpa using ‹¬f.userPart = true›) step).moves
  · split
    · exact userRead_moves _ busy phase ‹_› h step
    · exact (spareRead_stays _ h (by simpa using ‹¬f.userPart = true›) step).moves
  · exact .refl

theorem applyFinal_stays {f : Format} {s : State} (w0 w1 : Bool) (busy : Busy s) (h : f.SoundIn s) :
    Stays live s (applyFinal f w0 w1 s) := by
  unfold applyFinal
  split
  · refine (setCart_stays (c := .ready) busy).trans (Aside.stays
      ⟨by simp [SameMech], by simp, by simp, by simp, fun _ => by simp [SessionOk], ?_, rfl, rfl, rfl, id, rfl⟩)
    intro ok
    obtain ⟨-, fmt, load, answer⟩ := id ok
    exact ⟨(h ok).1, fmt, load, answer⟩
  · exact .rfl

theorem formatCopied_moves {f : Format} {s : State} (w0 w1 : Bool) (busy : Busy s) (h : f.SoundIn s) :
    Moves live s (formatCopied f w0 w1 s) := by
  unfold formatCopied
  split
  · split
    · exact finish_moves _ busy.2
    · split
      · exact finish_moves _ busy.2
      · split
        · exact finish_moves _ busy.2
        · exact ((dropCopies_stays s).trans (enterWriting_stays h)).moves
  · split
    · exact (applyFinal_stays w0 w1 busy h).finish busy _
    · exact (applyFinal_stays w0 w1 busy h).finish busy _

theorem formatSectorEnds_moves {f : Format} {s : State} (r : SectorResult) (busy : Busy s)
    (h : f.SoundIn s) : Moves live s (formatSectorEnds f r s) := by
  unfold formatSectorEnds
  split
  · rename_i phase
    split
    · exact (trackWritten_stays _ h phase).moves
    · exact .refl
  · rename_i phase
    exact verifyRead_moves r busy phase h
  · exact .refl

theorem formatStage_may {f : Format} {s : State} (busy : Busy s) (h : f.SoundIn s) :
    May live s (formatStage f s) := by
  have told := dropTold_stays (live := live) s
  unfold formatStage
  split
  · split
    · rename_i phase _
      refine (formatTarget_stays fun ok => ⟨(h ok).1, fun verifying => ?_⟩).moves
      exact ⟨by simp, ((h ok).2 verifying).2⟩
    · trivial
  · split
    · trivial
    · split
      · exact (told.trans (enterMarking_stays f (told.busy busy))).moves
      · trivial
      · rename_i phase
        have track := setFormat_stays (live := live) (s := dropTold s) (f := { f with step := .track })
          fun ok => Format.sound_of_zones (by simp [phase]) (h ok).1
        exact (told.trans track).moves
      · have checks := setFormat_stays (live := live) (s := dropTold s)
          (f := { f with step := if f.userPart then .users else .spares })
          fun ok => ⟨(h ok).1, fun verifying => ⟨by cases f.userPart <;> simp, ((h ok).2 verifying).2⟩⟩
        exact (told.trans checks).moves
      · rename_i phase
        have final := setFormat_stays (live := live) (s := dropTold s) (f := { f with step := .copies })
          fun ok => Format.sound_of_zones (by simp [phase]) (h ok).1
        exact ((told.trans final).trans (beginCopies_aside _ _ _).stays).moves
    · exact finish_moves _ busy.2
  · trivial

theorem advanceFormat_may {s : State} (busy : Busy s) : May live s (advanceFormat s) := by
  unfold advanceFormat
  split
  · trivial
  · rename_i f hf
    have h := soundIn_of_fmt hf
    split
    · split
      · trivial
      · exact formatCopied_moves _ _ busy h
    · split
      · split
        · exact (dropNote_stays s).moves
        · exact finish_moves _ busy.2
      · split
        · have dropped := dropSector_stays (live := live) s
          exact dropped.moves.trans (formatSectorEnds_moves _ (dropped.busy busy) h)
        · split
          · exact finish_moves _ busy.2
          · split
            · exact finish_moves _ busy.2
            · exact formatStage_may busy h

theorem startWait_stays {f : Format} {s : State} (n : Nat) (h : f.SoundIn s) : Stays live s (startWait n f s) := by
  unfold startWait
  split
  · exact .rfl
  · exact setFormat_stays (f := { f with waits := f.waits ++ [(n, s.set.active.timeout * Config.second)] }) h

theorem expireWait_stays (s : State) : Stays live s (expireWait s) := by
  unfold expireWait
  split
  · exact .rfl
  · rename_i f hf
    split
    · exact .rfl
    · have sound := soundIn_of_fmt hf
      exact setFormat_stays (f := { f with waits := _ }) sound

/-! ### How an event works itself out -/

theorem advanceItem_may (s : State) : May live s (advanceItem s) := by
  unfold advanceItem
  split
  case h_1 => trivial
  case h_2 => exact advanceStart_may s
  case h_3 => exact advanceStart_may s
  case h_4 => exact advanceStart_may s
  case h_5 => exact advanceReload_may s
  case h_6 => exact advanceReload_may s
  case h_7 => exact advanceReload_may s
  case h_8 => exact advanceReload_may s
  case h_9 => exact advanceReload_may s
  case h_10 => exact advanceSeek_may s
  case h_11 => exact advanceSeek_may s
  case h_12 hw => exact advanceData_may (.of_work hw)
  case h_13 hw => exact advanceReassign_may (.of_work hw)
  case h_14 hw => exact advanceFormat_may (.of_work hw)
  case h_15 => exact advanceRest_may s
  case h_16 => exact advanceRest_may s
  case h_17 => exact advanceRest_may s
  case h_18 => exact advanceSpinDown_may s
  case h_19 => exact advanceSpinDown_may s
  case h_20 => exact advanceSpinDown_may s
  case h_21 => exact advanceSpinDown_may s
  case h_22 hw => exact advanceEject_may hw
  case h_23 => exact advanceWake_may s
  case h_24 => exact advanceWake_may s
  case h_25 => exact advanceReset_may s
  case h_26 => trivial
  case h_27 => trivial

theorem advance_may (s : State) : May live s (advance s) := by
  have copies := advanceCopies_moves (live := live) s
  have load := advanceLoad_moves (live := live) s
  unfold advance
  split
  · rename_i h
    rwa [h] at copies
  · split
    · rename_i h
      rwa [h] at load
    · exact advanceItem_may s

theorem advanceMany_moves (n : Nat) (s : State) : Moves live s (advanceMany n s) := by
  induction n generalizing s with
  | zero => exact .refl
  | succ n ih =>
    have one := advance_may (live := live) s
    unfold advanceMany
    split
    · exact .refl
    · rename_i h
      rw [h] at one
      exact Relation.ReflTransGen.trans one (ih _)

/-- An event works itself out in moves. -/
theorem settle_moves (s : State) : Moves live s (settle s) := by
  refine (advanceMany_moves settleFuel s).tail (.aside ⟨?_, ?_, ?_, ?_, id, ?_, rfl, rfl, rfl, id, rfl⟩)
  · simp [settle, SameMech]
  · simp [settle]
  · simp [settle]
  · simp [settle]
  · rintro ⟨session, fmt, load, -⟩
    exact ⟨session, fmt, load, by simp [settle, Mail.none]⟩

end Sys2Proof.Machine

/-! ## Proofs: the moves of the mechanism's events -/

namespace Sys2Proof.Machine

/-! ### Index arrivals, samples and declarations are operations of the mechanism -/

/-- What an operation leaves besides the mechanism and its laws: all that no operation changes, and the
tables. -/
def Lone (s t : State) : Prop := Apart s t ∧ Tabled s t

theorem Lone.rfl {s : State} : Lone s s := ⟨.rfl, .rfl⟩

theorem Lone.trans {s t u : State} (h : Lone s t) (k : Lone t u) : Lone s u :=
  ⟨h.1.trans k.1, h.2.trans k.2⟩

theorem Acts.lone {s t : State} (h : Acts s t) : Lone s t := ⟨h.apart, h.tabled⟩

theorem Lone.acts {s t : State} (h : Lone s t) (mech : MechKept s t) (sensed : Sensed s → Sensed t) : Acts s t :=
  ⟨mech, h.1, h.2, sensed⟩

theorem setPos_lone (p : Positioner) (s : State) : Lone s { s with pos := p } :=
  ⟨by simp [Apart], .of_eq rfl rfl⟩

theorem setClk_lone (k : Clock) (s : State) : Lone s { s with clk := k } :=
  ⟨by simp [Apart], .of_eq rfl rfl⟩

theorem setSpin_lone (p : Spindle) (s : State) : Lone s { s with spin := p } :=
  ⟨by simp [Apart], .of_eq rfl rfl⟩

theorem setChan_lone (c : Channel) (s : State) : Lone s { s with chan := c } :=
  ⟨by simp [Apart], .of_eq rfl rfl⟩

theorem setFault_lone (f : FaultUnit) (s : State) : Lone s { s with fault := f } :=
  ⟨by simp [Apart], .of_eq rfl rfl⟩

theorem raise_lone (cls : FaultClass) (s : State) : Lone s (raise cls s) := (raise_acts cls s).lone

theorem depart_lone (s : State) : Lone s (depart s) := ⟨depart_apart s, depart_tabled s⟩

theorem tellRequester_lone (o : TargetOutcome) (s : State) : Lone s (tellRequester o s) :=
  ⟨tellRequester_apart o s, tellRequester_tabled o s⟩

@[simp] theorem endSector_pos (sig : ReadSignal) (s : State) : (endSector sig s).pos = s.pos := by
  unfold endSector
  split
  · split <;> rfl
  · rw [releaseHolder_pos]
    change (clearTorn _ (closeOp s)).pos = s.pos
    unfold clearTorn
    split <;> rfl
  · rfl

theorem heldActs_of_none {s : State} (h : s.pos.held = none) : heldActs s = s := by
  unfold heldActs
  rw [h]

theorem endSector_acts (sig : ReadSignal) (s : State) : Acts s (endSector sig s) :=
  ⟨endSector_mech sig s, endSector_apart sig s, endSector_tabled sig s,
    fun h => h.of_pos (endSector_apart sig s).1 (by rw [endSector_pos]) (by rw [endSector_pos])⟩

theorem enterParked_acts {s : State} (away : s.pos.state = .retracting ∨ s.pos.state = .emergency) :
    Acts s (enterParked s) :=
  ⟨enterParked_mech away, enterParked_apart s, enterParked_tabled s, fun ⟨_, back, hurry, _⟩ =>
    absurd away (not_or.mpr ⟨back, hurry⟩)⟩

theorem heldActs_acts (s : State) : Acts s (heldActs s) :=
  ⟨heldActs_mech s, heldActs_apart s, heldActs_tabled s, fun h => by rw [heldActs_of_none h.2.2.2]; exact h⟩

theorem enterEmergency_acts {s : State} (away : s.pos.state ≠ .parked) : Acts s (enterEmergency s) :=
  ⟨enterEmergency_mech away, enterEmergency_apart s, enterEmergency_tabled s, Sensed.enterEmergency⟩

theorem raiseDeviation_lone (s : State) : Lone s (raiseDeviation s) := by
  unfold raiseDeviation
  split
  · exact setFault_lone _ s
  · exact raise_lone _ s

theorem indexSpindle_acts (s : State) : Acts s (indexSpindle s) := by
  have lone : Lone s (indexSpindle s) := by
    unfold indexSpindle
    simp only
    split
    · exact (setSpin_lone _ s).trans (raiseDeviation_lone _)
    · exact setSpin_lone _ s
  refine lone.acts ⟨indexSpindle_laws s, indexSpindle_still⟩ fun h => ?_
  unfold indexSpindle raiseDeviation
  simp only
  split
  · split
    · exact h
    · exact Sensed.raise (s := { s with spin := (Spindle.index s.set.trims.gs s.spin.measure).1 }) h _
  · exact h

theorem seekTimesOut_lone (s : State) : Lone s (seekTimesOut s) := by
  unfold seekTimesOut
  split
  · exact ((tellRequester_lone _ s).trans (setPos_lone _ _)).trans (raise_lone _ _)
  · exact setPos_lone _ s

theorem Sensed.seekTimesOut {s : State} (h : Sensed s) : Sensed (seekTimesOut s) := by
  unfold Machine.seekTimesOut
  split
  · have told := h.tellRequester .failed
    exact Sensed.raise (s := { Machine.tellRequester .failed s with
      pos := { (Machine.tellRequester .failed s).pos with requester := none } }) told _
  · exact h

theorem seekTimesOut_acts (s : State) : Acts s (seekTimesOut s) :=
  (seekTimesOut_lone s).acts (seekTimesOut_mech s) Sensed.seekTimesOut

theorem seekSample_lone (r v : Int) (s : State) : Lone s (seekSample r v s) := by
  unfold seekSample
  simp only
  split
  · exact ((setPos_lone _ s).trans (tellRequester_lone _ _)).trans (setPos_lone _ _)
  · split
    · exact (setPos_lone _ s).trans (seekTimesOut_lone _)
    · exact setPos_lone _ s

theorem followSample_lone (r v : Int) (s : State) : Lone s (followSample r v s) := by
  have steered := setPos_lone { s.pos with current := fineCurrent s.set.trims r v } s
  unfold followSample
  simp only
  split
  · exact steered.trans (setPos_lone _ _)
  · split
    · exact (steered.trans (raise_lone _ _)).trans (setPos_lone _ _)
    · split
      · exact (steered.trans (depart_lone _)).trans (setPos_lone _ _)
      · exact steered.trans (setPos_lone _ _)

theorem sighted_lone (cyl : Nat) (pe : Int) (s : State) : Lone s (sighted cyl pe s) := by
  rw [sighted, landTarget_frame]
  exact (setClk_lone (goodSample s).clk s).trans (setPos_lone _ _)

theorem Sensed.fly {s : State} (h : Sensed s) {p : Positioner} (back : p.state ≠ .retracting)
    (hurry : p.state ≠ .emergency) (held : p.held = s.pos.held) : Sensed { s with pos := p } :=
  ⟨h.1, back, hurry, held.trans h.2.2.2⟩

/-- A sample of a seek leaves the heads flying, or has them retracted at once. -/
theorem sensed_seekSample {s : State} (park : s.pins.park = true) (held : s.pos.held = none) (r v : Int) :
    Sensed (seekSample r v s) := by
  have sought (i : Int) (n k : Nat) : Sensed { s with
      pos := { s.pos with state := seekState r, current := i, settle := n, seekCount := k } } :=
    ⟨park, (seekState_not_home r).1, (seekState_not_home r).2, held⟩
  unfold seekSample
  simp only
  split
  · exact ((sought _ _ _).tellRequester .complete).fly nofun nofun rfl
  · split
    · exact (sought _ _ _).seekTimesOut
    · exact sought _ _ _

theorem Sensed.followSample {s : State} (h : Sensed s) (r v : Int) : Sensed (followSample r v s) := by
  have steered (i : Int) : Sensed { s with pos := { s.pos with current := i } } := h
  unfold Machine.followSample
  simp only
  split
  · exact h
  · split
    · exact ((steered _).raise .offTrack).fly nofun nofun rfl
    · split
      · exact (steered _).depart.fly nofun nofun rfl
      · exact h

theorem Sensed.takeSample {s : State} (h : Sensed s) (cyl : Nat) (pe : Int) : Sensed (takeSample cyl pe s) := by
  have seen : Sensed (sighted cyl pe s) := by
    rw [sighted, landTarget_frame]
    exact h
  rw [takeSample_eq]
  simp only
  split
  · exact seen.fly (seekState_not_home _).1 (seekState_not_home _).2 rfl
  · exact sensed_seekSample seen.1 seen.2.2.2 _ _
  · exact sensed_seekSample seen.1 seen.2.2.2 _ _
  · exact seen.followSample _ _
  · have park : (resumed (sighted cyl pe s)).pins.park = true := seen.1
    have held : (resumed (sighted cyl pe s)).pos.held = none := seen.2.2.2
    split
    · rename_i follows
      have back : (resumed (sighted cyl pe s)).pos.state = .following := (sighted_remembered cyl pe s).trans follows
      have again : Sensed (resumed (sighted cyl pe s)) :=
        ⟨park, by rw [back]; nofun, by rw [back]; nofun, held⟩
      exact again.followSample _ _
    · exact sensed_seekSample park held _ _
  · exact h

theorem takeSample_acts (cyl : Nat) (pe : Int) (s : State) : Acts s (takeSample cyl pe s) := by
  refine Lone.acts ?_ (takeSample_mech cyl pe s) fun h => h.takeSample cyl pe
  have seen := sighted_lone cyl pe s
  rw [takeSample_eq]
  simp only
  split
  · exact seen.trans (setPos_lone _ _)
  · exact seen.trans (seekSample_lone _ _ _)
  · exact seen.trans (seekSample_lone _ _ _)
  · exact seen.trans (followSample_lone _ _ _)
  · have back := seen.trans (setPos_lone (resumed (sighted cyl pe s)).pos _)
    split
    · exact back.trans (followSample_lone _ _ _)
    · exact back.trans (seekSample_lone _ _ _)
  · exact .rfl

theorem losesServo_acts (s : State) : Acts s (losesServo (clockMisses s)) :=
  ((setClk_lone _ s).trans (raise_lone _ _)).acts (losesServo_clockMisses_mech s)
    fun h => Sensed.raise (s := clockMisses s) h .servoLoss

theorem missCounts_lone (s : State) : Lone s (missCounts s) := by
  unfold missCounts
  split
  · exact .rfl
  · simp only
    split
    · exact (setPos_lone _ s).trans (seekTimesOut_lone _)
    · exact setPos_lone _ s

theorem Sensed.missCounts {s : State} (h : Sensed s) : Sensed (missCounts s) := by
  have counted (n : Nat) : Sensed { s with pos := { s.pos with seekCount := n } } := h
  unfold Machine.missCounts
  split
  · exact h
  · simp only
    split
    · exact (counted _).seekTimesOut
    · exact h

theorem Sensed.positionMiss {s : State} (h : Sensed s) : Sensed (positionMiss s) := by
  have coasts : Sensed (coastOn s) := by
    unfold coastOn
    split
    · exact h
    · exact h.depart.fly nofun nofun rfl
  unfold Machine.positionMiss
  split
  · exact h.raise .servoLoss
  · exact coasts.missCounts

theorem positionMiss_acts {s : State} (tracks : s.pos.state.tracks = true) :
    Acts s (positionMiss (clockMisses s)) := by
  refine Lone.acts ?_ (positionMiss_mech tracks) fun h => Sensed.positionMiss (s := clockMisses s) h
  have missed := setClk_lone (clockMisses s).clk s
  have coasts : Lone (clockMisses s) (coastOn (clockMisses s)) := by
    unfold coastOn
    split
    · exact setPos_lone _ _
    · exact (depart_lone _).trans (setPos_lone _ _)
  unfold positionMiss
  split
  · exact missed.trans (raise_lone _ _)
  · exact (missed.trans coasts).trans (missCounts_lone _)

/-! ### Sectors -/

theorem beginRead_acts (p : Place) {s : State} (free : s.chan.op = none) : Acts s (beginRead p s) :=
  (setChan_lone _ s).acts (beginRead_mech p free) id

theorem beginWrite_acts {p : Place} {d : List Byte} {cyl : Nat} {s : State}
    (gate : copyGate cyl s = true) : Acts s (beginWrite p d s) :=
  (setChan_lone _ s).acts
    ⟨⟨id, fun _ => beginWrite_gate gate, id, id, .rfl _⟩, fun h k => ⟨h, k⟩⟩ id

theorem setRotation_acts {p : Nat} (s : State) (h : p ≤ 31) :
    Acts s { s with chan := { s.chan with rotation := p } } :=
  (setChan_lone _ s).acts ⟨⟨id, id, id, fun ⟨a, b, c, _⟩ => ⟨a, b, c, h⟩, .rfl _⟩, fun h k => ⟨h, k⟩⟩ id

theorem sectorEnds_acts (p : Nat) (sig : ReadSignal) (s : State) : Acts s (sectorEnds p sig s) := by
  unfold sectorEnds
  split
  · split
    · exact endSector_acts sig s
    · exact .rfl
  · exact .rfl

theorem copySectorStart_stays (c : CopyWrite) {s : State} (free : s.chan.op = none) :
    Stays true s (copySectorStart c s) := by
  unfold copySectorStart
  split
  · split
    · exact ((beginRead_acts _ free).stays nofun)
    · exact .rfl
  · split
    · exact ((beginWrite_acts ‹_›).stays nofun)
    · exact .rfl

theorem copyStart_stays (c : CopyWrite) (n : Nat) {s : State} (free : s.chan.op = none) :
    Stays true s (copyStart c n s) := by
  unfold copyStart
  split
  · exact .rfl
  · split
    · split
      · exact (setCopyWrite_aside _ s).stays.trans (copySectorStart_stays _ free)
      · exact .rfl
    · split
      · exact copySectorStart_stays c free
      · exact .rfl

theorem loadStart_moves {l : Load} (n : Nat) {s : State} (free : s.chan.op = none)
    (h : KeepsCopy l s) : Moves true s (loadStart l n s) := by
  unfold loadStart
  split
  · exact .refl
  · split
    · exact ((beginRead_acts _ free).moves nofun)
    · split
      · exact (setLoad_aside (l := { l with firstPass := true }) h).moves
      · exact loadAttemptFails_moves h

theorem copyGate_of_writeGate {cyl : Nat} {s : State} (h : writeGate cyl s = true) :
    copyGate cyl s = true := by
  simp only [writeGate, Bool.and_eq_true] at h
  exact h.1

theorem dataStart_stays (t : Transfer) (n : Nat) {s : State} (free : s.chan.op = none) :
    Stays true s (dataStart t n s) := by
  unfold dataStart
  split
  · exact .rfl
  · split
    · split
      · exact ((beginRead_acts _ free).stays nofun)
      · exact .rfl
    · split
      · exact .rfl
      · split
        · split
          · exact .rfl
          · split
            · exact (stopGateWait_stays s).trans ((beginWrite_acts (copyGate_of_writeGate ‹_›)).stays nofun)
            · exact startGateWait_stays s
        · split
          · exact .rfl
          · split
            · exact .rfl
            · split
              · exact ((beginRead_acts _ free).stays nofun)
              · split
                · exact setTransfer_stays _ s
                · exact attemptFails_stays t s

theorem reassignStart_stays (r : Reassign) (n : Nat) {s : State} (free : s.chan.op = none) :
    Stays true s (reassignStart r n s) := by
  unfold reassignStart
  split
  · exact .rfl
  · split
    · split
      · exact .rfl
      · split
        · exact ((beginRead_acts _ free).stays nofun)
        · split
          · exact setReassign_stays _ s
          · exact reassignAttemptFails_stays r s
    · split
      · split
        · exact ((beginWrite_acts (copyGate_of_writeGate ‹_›)).stays nofun)
        · exact .rfl
      · exact .rfl
    · split
      · exact ((beginRead_acts _ free).stays nofun)
      · exact .rfl
    · exact .rfl

theorem formatStart_stays {f : Format} (n : Nat) {s : State} (free : s.chan.op = none) (h : f.SoundIn s) :
    Stays true s (formatStart f n s) := by
  unfold formatStart
  split
  · rename_i step
    split
    · exact .rfl
    · split
      · rename_i gate
        have named := setFormat_stays (live := true) (s := s)
          (f := { f with index := n, waits := f.waits.filter fun w => w.1 != n })
          fun ok => ⟨(h ok).1, fun verifying => absurd step ((h ok).2 verifying).1⟩
        have opens : copyGate f.cylinder (setFormat
            { f with index := n, waits := f.waits.filter fun w => w.1 != n } s) = true :=
          copyGate_of_writeGate (s := s) gate
        exact named.trans ((beginWrite_acts opens).stays nofun)
      · exact startWait_stays n h
  · simp only
    split
    · exact .rfl
    · split
      · exact ((beginRead_acts _ free).stays nofun)
      · exact startWait_stays n h
  · split
    · exact .rfl
    · rename_i within
      split
      · have named := setFormat_stays (live := true) (s := s) (f := { f with index := n }) fun ok =>
          ⟨(h ok).1, fun verifying => ⟨((h ok).2 verifying).1, fun _ => by
            have : ¬ f.type.userSlots ≤ userSlot f n := fun le => within (.inr le)
            simpa [userSlot] using this⟩⟩
        exact named.trans ((beginRead_acts (s := setFormat { f with index := n } s) _ free).stays nofun)
      · exact startWait_stays n h
  · exact .rfl

theorem sectorStart_moves (n : Nat) (s : State) : Moves true s (sectorStart n s) := by
  unfold sectorStart
  split
  · exact .refl
  · rename_i busy
    have free : s.chan.op = none := by simpa using busy
    split
    · exact (copyStart_stays _ n free).moves
    · split
      · exact loadStart_moves n free (keepsCopy_of_load ‹_›)
      · split
        · exact (dataStart_stays _ n free).moves
        · split
          · exact (reassignStart_stays _ n free).moves
          · split
            · exact (formatStart_stays n free (soundIn_of_fmt ‹_›)).moves
            · exact .refl

theorem rotate_moves {p : Nat} (sig : ReadSignal) (s : State) (h : p ≤ 31) : Moves true s (rotate p sig s) := by
  have turned := ((setRotation_acts s h).moves (live := true) nofun)
  unfold rotate
  simp only
  split
  · exact (((turned.trans ((sectorEnds_acts p sig _).moves nofun)).trans (settle_moves _)).trans
      (sectorStart_moves _ _)).trans (settle_moves _)
  · exact turned.trans (settle_moves _)

theorem rotateNext_moves (sig : ReadSignal) (s : State) : Moves true s (rotateNext sig s) := by
  unfold rotateNext
  split
  · exact rotate_moves sig s (by omega)
  · exact settle_moves s

end Sys2Proof.Machine

/-! ## Proofs: what a row does

Every row of the table, and every step with no command waiting, is a run of events: moves of the work in hand
and of the mechanism, and what the link and the queue take and give. -/

namespace Sys2Proof.Machine

/-- One thing that a row does. Under `room` a reply of an immediate command, and a RESET, finds a free place of
the outbox; under `empties` the fault slot may be emptied. -/
inductive Event (room empties : Prop) : State → State → Prop
  | move {s t : State} : Move true s t → Event room empties s t
  /-- The receiver goes on. -/
  | receive {s : State} {pins : Pins} {link : Link} : link.outbox = s.link.outbox → link.line = s.link.line →
      link.send = s.link.send → link.acked = s.link.acked →
      (link.heldFrame = true → s.link.heldFrame = true ∨ placeFree s = true) → pins.rst = s.pins.rst →
      Event room empties s { s with pins, link }
  /-- A frame is answered at once. -/
  | direct {r : Reply} {s : State} : r.queued = false → (room → placesUsed s < 8) →
      Event room empties s (putReply r s)
  /-- A RESET joins those not yet answered. -/
  | join {s : State} (tag : Byte) : (room → placesUsed s < 8) →
      Event room empties s { s with cu := { s.cu with resets := s.cu.resets ++ [tag] } }
  | accept {s : State} (e : Entry) : s.cu.queue.length < 4 → Event room empties s (accept e s)
  /-- The fault slot is emptied. -/
  | clear (s : State) : empties → Event room empties s { s with fault := { s.fault with slot := none } }
  /-- A frame begins to be sent: the front of its line. -/
  | grant {f : Outbound} {s : State} : s.link.send = none →
      (∀ r, f = .reply r → s.link.outbox.head? = some r) →
      (∀ t i, f = .request t i → s.link.line.head? = some (t, i)) →
      Event room empties s { s with link := { s.link with send := some f, acked := 0 } }
  /-- No frame is sent any more. -/
  | silent (s : State) : Event room empties s { s with link := { s.link with send := none, acked := 0 } }
  /-- A reply has been sent whole. -/
  | sent {r : Reply} {s : State} : s.link.send = some (.reply r) →
      Event room empties s (replySent r { s with link := { s.link with send := none, acked := 0 } })
  /-- A data request has been sent whole. -/
  | asked {s : State} : s.link.send = none →
      Event room empties s { s with link := { s.link with line := s.link.line.tail } }
  | head {e : Entry} {rest : List Entry} {s : State} : s.cu.slot.item = .free → s.cu.queue = e :: rest →
      Event room empties s (takeHead e s)
  | item {i : Item} {s : State} : s.cu.slot.item = .free → (∀ e, i ≠ .command e) →
      (∀ tag, i = .softReset tag → s.cu.resets ≠ []) → Event room empties s (takeItem i s)
  /-- A waiting reply enters the outbox. -/
  | placed {r : Reply} {s : State} : s.cu.slot.work = .replying r → placeFree s = true →
      Event room empties s (freeSlot (putReply r s))
  | down (s : State) : Event room empties s (countDown s)

/-- What a row does: any number of events. -/
abbrev Events (room empties : Prop) : State → State → Prop :=
  Relation.ReflTransGen (Event room empties)

variable {room empties : Prop} {live : Bool}

theorem Moves.events {s t : State} (h : Moves true s t) : Events room empties s t :=
  Relation.ReflTransGen.mono (r := Move true) (fun _ _ => Event.move) s t h

theorem Event.events {s t : State} (h : Event room empties s t) : Events room empties s t := .single h

theorem unlessReset_events {f : State → State} {s : State} (h : Events room empties s (f s)) :
    Events room empties s (unlessReset f s) := by
  unfold unlessReset
  split
  · exact .refl
  · exact h

/-! ### The drive link -/

/-- The receiver goes on without holding a new place. -/
theorem receive_events {s : State} {pins : Pins} {link : Link} (outbox : link.outbox = s.link.outbox)
    (line : link.line = s.link.line) (send : link.send = s.link.send) (acked : link.acked = s.link.acked)
    (held : link.heldFrame = true → s.link.heldFrame = true) (rst : pins.rst = s.pins.rst := by rfl) :
    Events room empties s { s with pins, link } :=
  .single (.receive outbox line send acked (fun h => .inl (held h)) rst)

theorem setPins_events (pins : Pins) (s : State) (rst : pins.rst = s.pins.rst := by rfl) :
    Events room empties s { s with pins } :=
  receive_events rfl rfl rfl rfl id rst

theorem dropFrame_events (s : State) : Events room empties s (dropFrame s) :=
  receive_events rfl rfl rfl rfl (by simp)

theorem setCause_events (c : Cause) (s : State) : Events room empties s (setCause c s) :=
  (setCause_aside c s).moves.events

theorem receiveErrs_events (s : State) : Events room empties s (receiveErrs s) := by
  have low := setPins_events (room := room) (empties := empties) { s.pins with dir := false } s
  unfold receiveErrs
  simp only
  split
  · exact low.trans (receive_events rfl rfl rfl rfl id)
  · exact ((low.trans (dropFrame_events _)).trans (setCause_events _ _)).trans
      (receive_events rfl rfl rfl rfl id)

theorem placesUsed_lt_of_placeFree {s : State} (h : placeFree s = true) : placesUsed s < 8 :=
  of_decide_eq_true h

/-- The frame that has a place leaves it to its reply. -/
theorem placesUsed_dropFrame_lt {s : State} (bound : placesUsed s ≤ 8)
    (h : s.link.heldFrame = true ∨ placeFree s = true) : placesUsed (dropFrame s) < 8 := by
  have dropped : placesUsed (dropFrame s) = s.link.outbox.length + 0 + s.cu.resets.length := rfl
  obtain held | free := h
  · simp only [placesUsed, held, if_true] at bound
    omega
  · have := placesUsed_lt_of_placeFree free
    unfold placesUsed at this
    omega

/-- The frame in reception is taken in the place that it has. -/
theorem receiveCommand_events {f : State → State} {s : State} (bound : room → placesUsed s ≤ 8)
    (act : ∀ u, (room → placesUsed u < 8) → Events room empties u (f u)) :
    Events room empties s (receiveCommand f s) := by
  unfold receiveCommand
  split
  · exact .refl
  · split
    · exact receiveErrs_events s
    · split
      · rename_i place
        let u : State := { s with pins := { s.pins with dir := false } }
        refine ((setPins_events { s.pins with dir := false } s).trans (dropFrame_events u)).trans (act _ ?_)
        exact fun r => placesUsed_dropFrame_lt (s := u) (bound r) (Bool.or_eq_true_iff.mp place)
      · exact receive_events rfl rfl rfl rfl id

theorem cancelQueue_aside (s : State) : Aside s (cancelQueue s) := by
  simp [cancelQueue, Aside, SameMech]

theorem tellAbort_aside (s : State) : Aside s (tellAbort s) := by
  unfold tellAbort
  split
  · refine ⟨by simp [SameMech], by simp, by simp, by simp, id, ?_, rfl, rfl, rfl, id, rfl⟩
    rintro ⟨session, fmt, load, answer⟩
    refine ⟨session, fun f hf => ?_, load, answer⟩
    obtain ⟨g, hg, rfl⟩ := Option.map_eq_some_iff.mp hf
    exact fmt g hg
  · exact .rfl

theorem direct_events {o : OutcomeCode} {tag code : Byte} {fields : List Byte} {s : State}
    (place : room → placesUsed s < 8) :
    Events room empties s (putReply (directReply tag code o fields) s) :=
  .single (.direct rfl place)

theorem doSense_events (tag : Byte) {s : State} (place : room → placesUsed s < 8) :
    Events room empties s (doSense tag s) := direct_events place

theorem doHold_events (tag : Byte) {s : State} (place : room → placesUsed s < 8) :
    Events room empties s (doHold tag s) := by
  unfold doHold
  split
  · exact direct_events place
  · have held : Aside s { s with cart := { s.cart with hold := true } } := by simp [Aside, SameMech]
    exact held.moves.events.trans (direct_events place)

theorem doRelease_events (tag : Byte) {s : State} (place : room → placesUsed s < 8) :
    Events room empties s (doRelease tag s) := by
  have freed : Aside s { s with cart := { s.cart with hold := false } } := by simp [Aside, SameMech]
  exact freed.moves.events.trans (direct_events place)

theorem doAbort_events (tag : Byte) {s : State} (place : room → placesUsed s < 8) :
    Events room empties s (doAbort tag s) :=
  (direct_events place).trans
    (Moves.events (((cancelQueue_aside _).moves.trans (tellAbort_aside _).moves).trans (settle_moves _)))

theorem doReset_events (tag : Byte) {s : State} (place : room → placesUsed s < 8) :
    Events room empties s (doReset tag s) := by
  let u : State := { s with cu := { s.cu with resets := s.cu.resets ++ [tag] } }
  have withdrawn : Aside u { u with cu := { u.cu with
      pendAuto := if s.cu.resets.isEmpty then false else s.cu.pendAuto } } := by simp [Aside, SameMech]
  exact (Event.join tag place).events.trans
    (Moves.events (((withdrawn.moves.trans (cancelQueue_aside _).moves).trans (tellAbort_aside _).moves).trans
      (settle_moves _)))

theorem clearCauses_aside (m : BitVec 16) (s : State) : Aside s (clearCauses m s) := by
  simp [clearCauses, Aside, SameMech]

theorem clearFault_events (s : State) (h : empties) : Events room empties s (clearFault s) := by
  have emptied := (Event.clear (room := room) s h).events
  unfold clearFault
  simp only
  split
  · exact emptied.trans (Moves.events ((raise_acts _ _).moves nofun))
  · exact emptied

theorem placesUsed_clearFault (s : State) : placesUsed (clearFault s) = placesUsed s := by
  unfold clearFault
  simp only
  split
  · obtain ⟨-, link, -, -, -, -, -, -, -, resets, -⟩ :=
      raise_apart .supplyLoss { s with fault := { s.fault with slot := none } }
    simp [placesUsed, link, resets]
  · rfl

theorem doClearAttention_events (tag : Byte) (causes : BitVec 16) {s : State} (may : empties)
    (place : room → placesUsed s < 8) : Events room empties s (doClearAttention tag causes s) := by
  have cleared := (clearCauses_aside causes s).moves.events (room := room) (empties := empties)
  unfold doClearAttention
  split
  · exact direct_events place
  · refine Relation.ReflTransGen.trans ?_ (settle_moves _).events
    split
    · refine (cleared.trans (clearFault_events _ may)).trans (direct_events ?_)
      rw [placesUsed_clearFault]
      exact place
    · exact cleared.trans (direct_events place)

theorem doImmediate_events (code tag : Byte) (params : List Byte) {s : State} (may : empties)
    (place : room → placesUsed s < 8) : Events room empties s (doImmediate code tag params s) := by
  unfold doImmediate
  split
  · exact doSense_events tag place
  · split
    · exact doClearAttention_events tag _ may place
    · split
      · exact doAbort_events tag place
      · split
        · exact doHold_events tag place
        · split
          · exact doRelease_events tag place
          · exact doReset_events tag place

theorem takeCommand_events (body : List Byte) {s : State} (may : empties)
    (place : room → placesUsed s < 8) : Events room empties s (takeCommand body s) := by
  unfold takeCommand
  simp only
  split
  · exact direct_events place
  · split
    · exact direct_events place
    · split
      · exact doImmediate_events _ _ _ may place
      · split
        · exact direct_events place
        · rename_i full
          exact .single (.accept _ (by simpa [Config.queueMax] using full))

theorem receiveBody_events (body : List Byte) {s : State} (may : empties)
    (bound : room → placesUsed s ≤ 8) : Events room empties s (receiveBody body s) := by
  refine receiveCommand_events bound fun u place => ?_
  split
  · exact takeCommand_events body may place
  · exact receiveErrs_events u

theorem receiveData_events (d : List Byte) (s : State) : Events room empties s (receiveData d s) := by
  unfold receiveData
  split
  · exact .refl
  · split
    · exact receiveErrs_events s
    · split
      · exact receiveErrs_events s
      · exact ((setPins_events _ s).trans (dropFrame_events _)).trans
          (Moves.events ((takeData_stays d _).moves.trans (settle_moves _)))

theorem receiveError_events (s : State) : Events room empties s (receiveError s) := by
  unfold receiveError
  split
  · exact .refl
  · exact receiveErrs_events s

theorem assemble_events (a : Assembly) (s : State) : Events room empties s (assemble a s) :=
  receive_events rfl rfl rfl rfl id

/-- A frame takes a free place at its kind byte. -/
theorem hold_events {link : Link} {s : State} (free : placeFree s = true)
    (outbox : link.outbox = s.link.outbox) (line : link.line = s.link.line)
    (send : link.send = s.link.send) (acked : link.acked = s.link.acked) :
    Events room empties s { s with link } :=
  .single (.receive (pins := s.pins) outbox line send acked (fun _ => .inr free) rfl)

theorem takeKind_events (data : Byte) (s : State) : Events room empties s (takeKind data s) := by
  unfold takeKind
  split
  · exact receiveErrs_events s
  · exact assemble_events _ s
  · split
    · refine Relation.ReflTransGen.trans ?_ (assemble_events _ _)
      exact hold_events ‹_› rfl rfl rfl rfl
    · exact receive_events rfl rfl rfl rfl id

theorem takeBody_events (k : FrameKind) (n : Nat) (bytes : List Byte) {s : State} (may : empties)
    (bound : room → placesUsed s ≤ 8) : Events room empties s (takeBody k n bytes s) := by
  unfold takeBody
  split
  · exact assemble_events _ s
  · split
    · exact receiveCommand_events bound fun u place => takeCommand_events bytes may place
    · exact receiveData_events bytes s

theorem takeByte_events (data : Byte) {s : State} (may : empties) (bound : room → placesUsed s ≤ 8) :
    Events room empties s (takeByte data s) := by
  unfold takeByte
  split
  · refine Relation.ReflTransGen.trans ?_ (takeKind_events data _)
    exact receive_events rfl rfl rfl rfl id
  · exact assemble_events _ s
  · unfold takeLength
    split
    · exact assemble_events _ s
    · exact receiveErrs_events s
  · exact takeBody_events _ _ _ may bound
  · exact receiveErrs_events s

theorem byteReceived_events (data : Byte) (dp : Bool) {s : State} (may : empties)
    (bound : room → placesUsed s ≤ 8) : Events room empties s (byteReceived data dp s) := by
  unfold byteReceived
  split
  · exact .refl
  · split
    · exact receiveErrs_events s
    · exact (setPins_events _ s).trans (takeByte_events data may bound)

theorem byteGapExpires_events (s : State) : Events room empties s (byteGapExpires s) := by
  unfold byteGapExpires
  split
  · exact (dropFrame_events s).trans (setCause_events _ _)
  · exact .refl

theorem quietExpires_events (s : State) : Events room empties s (quietExpires s) := by
  unfold quietExpires
  split
  · exact dropFrame_events s
  · exact .refl

theorem grantFrame_events {s : State} (free : s.link.send = none) :
    Events room empties s (grantFrame s) := by
  unfold grantFrame
  split
  · rename_i r rest _ _ queue
    refine .single (.grant free (fun r' h => ?_) (by simp))
    obtain rfl := Outbound.reply.inj h
    simp [queue]
  · rename_i t i rest _ _ line
    refine .single (.grant free (by simp) fun t' i' h => ?_)
    obtain ⟨rfl, rfl⟩ := Outbound.request.inj h
    simp [line]
  · rename_i i d _ _ _
    refine Relation.ReflTransGen.trans (.single (.grant (f := .data i d) free (by simp) (by simp))) ?_
    exact Moves.events (Stays.moves setChan_stays)
  · exact .refl

theorem busGrant_events (s : State) : Events room empties s (busGrant s) := by
  unfold busGrant
  split
  · exact .refl
  · rename_i busy
    have free : s.link.send = none := by simpa using busy
    simp only
    split
    · exact (((dropFrame_events s).trans (setCause_events _ _)).trans (setPins_events _ _)).trans
        (grantFrame_events free)
    · exact ((dropFrame_events s).trans (setPins_events _ _)).trans
        (grantFrame_events free)

theorem dirFalls_events (s : State) : Events room empties s (dirFalls s) :=
  (setPins_events { s.pins with dir := false } s).trans (.single (.silent _))

theorem dataSent_stays (i : Nat) (s : State) : Stays live s (dataSent i s) := by
  have freed := setSlotOf_stays (live := live) i .free s
  unfold dataSent
  simp only
  split
  · exact freed
  · split
    · exact (freed.trans (setTransfer_stays _ _)).trans setChan_stays
    · exact freed.trans (setTransfer_stays _ _)

theorem frameSent_events (s : State) : Events room empties s (frameSent s) := by
  have silent := (Event.silent (room := room) (empties := empties) s).events
  unfold frameSent
  split
  · exact .refl
  · rename_i f sending
    refine Relation.ReflTransGen.trans ?_ (settle_moves _).events
    split
    · exact .single (.sent sending)
    · refine silent.trans ?_
      unfold requestSent
      split
      · refine Relation.ReflTransGen.trans (.single (.asked rfl)) ?_
        exact Moves.events (Stays.moves setChan_stays)
      · exact .refl
    · exact silent
    · exact silent.trans (dataSent_stays _ _).moves.events

theorem kindTakesPlace_events (s : State) : Events room empties s (kindTakesPlace s) := by
  unfold kindTakesPlace
  split
  · rename_i h
    refine Relation.ReflTransGen.trans ?_ (assemble_events _ _)
    exact hold_events (Bool.and_eq_true_iff.mp h).2 rfl rfl rfl rfl
  · exact .refl

theorem replyTakesPlace_events (s : State) : Events room empties s (replyTakesPlace s) := by
  unfold replyTakesPlace
  split
  · split
    · exact .single (.placed ‹_› ‹_›)
    · exact .refl
  · exact .refl

/-! ### Items at the slot -/

/-- An item that has just taken the slot is at work on nothing. -/
theorem Busy.of_item {s : State} (work : s.cu.slot.work = .idle) (item : s.cu.slot.item ≠ .free) : Busy s := by
  simp [Busy, work, item]

theorem takeHead_busy (e : Entry) (s : State) : Busy (takeHead e s) := .of_item rfl (by simp [takeHead])

theorem takeItem_busy {i : Item} (s : State) (h : i ≠ .free) : Busy (takeItem i s) := .of_item rfl h

theorem gated_moves {gate : Option OutcomeCode} {work : State → State} {s : State} (busy : Busy s)
    (h : Moves live s (work s)) : Moves live s (gated gate work s) := by
  unfold gated
  split
  · exact finish_moves _ busy.2
  · split
    · exact finish_moves _ busy.2
    · exact h

theorem beginSpinUp_moves (e : Entry) {s : State} (busy : Busy s) : Moves live s (beginSpinUp e s) := by
  unfold beginSpinUp
  refine gated_moves busy ?_
  split
  · exact beginStart_moves busy
  · split
    · exact beginReload_moves busy
    · exact beginSpinOnly_moves busy

theorem takeSpinDown_moves (e : Entry) {s : State} (busy : Busy s) : Moves live s (takeSpinDown e s) := by
  unfold takeSpinDown
  split
  · exact finish_moves _ busy.2
  · exact beginSpinDown_moves busy

theorem takeSeek_moves (e : Entry) {s : State} (busy : Busy s) : Moves live s (takeSeek e s) := by
  refine gated_moves busy ?_
  split
  · exact finish_moves _ busy.2
  · exact beginSeek_moves busy

theorem takeDataCommand_moves (cmd : DataCommand) (e : Entry) {s : State} (busy : Busy s) :
    Moves live s (takeDataCommand cmd e s) := gated_moves busy (beginData_moves cmd busy)

theorem takeReassign_moves (e : Entry) {s : State} (busy : Busy s) : Moves live s (takeReassign e s) :=
  gated_moves busy (beginReassign_moves busy)

theorem takeFormat_moves (e : Entry) {s : State} (busy : Busy s) : Moves live s (takeFormat e s) :=
  beginFormat_moves busy

theorem takeRest_moves (e : Entry) {s : State} (busy : Busy s) : Moves live s (takeRest e s) := by
  unfold takeRest
  split
  · exact finish_moves _ busy.2
  · split
    · exact finish_moves _ busy.2
    · exact beginRest_moves busy

theorem takeEject_moves (e : Entry) {s : State} (busy : Busy s) : Moves live s (takeEject e s) := by
  unfold takeEject
  split
  · exact finish_moves _ busy.2
  · exact beginEject_moves _ _ busy

theorem takeReadTable_moves (e : Entry) {s : State} (busy : Busy s) : Moves live s (takeReadTable e s) :=
  finishWith_moves _ _ busy.2

/-- The settings are no law's concern. -/
theorem setSettings_stays (g : Settings) (s : State) : Stays live s { s with set := g } :=
  Aside.stays (by simp [Aside, SameMech])

theorem takeSetParameter_moves (e : Entry) {s : State} (busy : Busy s) : Moves live s (takeSetParameter e s) := by
  unfold takeSetParameter
  split
  · exact (setSettings_stays _ s).finishWith busy _ _
  · exact finishWith_moves _ _ busy.2

theorem takeSaveSettings_moves (e : Entry) {s : State} (busy : Busy s) : Moves live s (takeSaveSettings e s) :=
  (setSettings_stays _ s).setWork busy _

theorem takeLoadDefaults_moves (e : Entry) {s : State} (busy : Busy s) : Moves live s (takeLoadDefaults e s) :=
  (setSettings_stays _ s).finish busy _

theorem readBackSaved_moves (area : List Byte) (s : State) : Moves live s (readBackSaved area s) := by
  unfold readBackSaved
  split
  · rename_i work _
    have busy : Busy s := .of_work work
    split
    · exact (setSettings_stays _ s).finish busy _
    · refine Stays.finish ?_ busy _
      exact Aside.stays (by simp [Aside, SameMech])
  · exact .refl

theorem savedBack_events (area : List Byte) (s : State) : Events room empties s (savedBack area s) :=
  Moves.events ((readBackSaved_moves area s).trans (settle_moves _))

theorem runHead_events {begin' : Entry → State → State} (code : Byte)
    (begins : ∀ e u, Busy u → Moves true u (begin' e u)) (s : State) :
    Events room empties s (runHead code begin' s) := by
  unfold runHead headFor
  split
  · rename_i e taken
    split at taken
    · rename_i may
      simp only [headMayRun, slotFree, Bool.and_eq_true, beq_iff_eq] at may
      obtain ⟨⟨free, -⟩, -⟩ := may
      split at taken
      · rename_i e' rest queue
        split at taken
        · obtain rfl := Option.some.inj taken
          exact Relation.ReflTransGen.trans (.single (.head free queue))
            (Moves.events ((begins _ _ (takeHead_busy _ s)).trans (settle_moves _)))
        · cases taken
      · cases taken
    · cases taken
  · exact .refl

theorem takeCancelled_events (s : State) : Events room empties s (takeCancelled s) := by
  unfold takeCancelled
  split
  · rename_i e rest queue
    split
    · rename_i may
      simp only [slotFree, Bool.and_eq_true, beq_iff_eq] at may
      obtain ⟨⟨-, free⟩, -⟩ := may
      exact Relation.ReflTransGen.trans (.single (.head free queue))
        (Moves.events (finishWith_moves _ _ (takeHead_busy e s).2))
    · exact .refl
  · exact .refl

theorem slotFree_iff (s : State) : slotFree s = true ↔ s.cu.slot.item = .free := by
  simp [slotFree]

/-- Pending operations of the command unit are no law's concern. -/
theorem setPending_aside (auto eject wake : Bool) (s : State) : Aside s
    { s with cu := { s.cu with pendAuto := auto, pendEject := eject, pendWake := wake } } := by
  simp [Aside, SameMech]

/-- An internal operation takes the free slot, works, and the event works itself out. -/
theorem takeItem_events {i : Item} {s t : State} (free : s.cu.slot.item = .free)
    (internal : ∀ e, i ≠ .command e) (reset : ∀ tag, i = .softReset tag → s.cu.resets ≠ [])
    (h : Moves true (takeItem i s) t) : Events room empties s (settle t) :=
  Relation.ReflTransGen.trans (.single (.item free internal reset)) (Moves.events (h.trans (settle_moves t)))

theorem takeAutoStart_events (s : State) : Events room empties s (takeAutoStart s) := by
  unfold takeAutoStart
  split
  · rename_i may
    simp only [headMayRun, slotFree, Bool.and_eq_true, beq_iff_eq] at may
    obtain ⟨⟨⟨free, -⟩, -⟩, -⟩ := may
    have taken := (setPending_aside false s.cu.pendEject s.cu.pendWake s).moves.events
      (room := room) (empties := empties)
    refine taken.trans (takeItem_events (i := .autoStart) free (by simp) (by simp) ?_)
    have busy := takeItem_busy (i := .autoStart) { s with cu := { s.cu with pendAuto := false } } (by simp)
    split
    · exact finish_moves _ busy.2
    · exact beginStart_moves busy
  · exact .refl

theorem takeButtonEject_events (s : State) : Events room empties s (takeButtonEject s) := by
  unfold takeButtonEject
  split
  · rename_i may
    simp only [slotFree, Bool.and_eq_true, beq_iff_eq] at may
    obtain ⟨⟨free, -⟩, -⟩ := may
    have taken := (setPending_aside s.cu.pendAuto false s.cu.pendWake s).moves.events
      (room := room) (empties := empties)
    refine taken.trans (takeItem_events (i := .buttonEject) free (by simp) (by simp) ?_)
    exact beginEject_moves _ _ (takeItem_busy _ (by simp))
  · exact .refl

theorem takeTimedWake_events (s : State) : Events room empties s (takeTimedWake s) := by
  unfold takeTimedWake
  split
  · rename_i may
    simp only [headMayRun, slotFree, Bool.and_eq_true, beq_iff_eq] at may
    obtain ⟨⟨⟨free, -⟩, -⟩, -⟩ := may
    have taken := (setPending_aside s.cu.pendAuto s.cu.pendEject false s).moves.events
      (room := room) (empties := empties)
    refine taken.trans (takeItem_events (i := .timedWake) free (by simp) (by simp) ?_)
    exact beginWake_moves (takeItem_busy _ (by simp))
  · exact .refl

theorem takeSoftReset_events (s : State) : Events room empties s (takeSoftReset s) := by
  unfold takeSoftReset
  split
  · exact .refl
  · rename_i tag rest list
    split
    · rename_i drain
      simp only [drained, slotFree, Bool.and_eq_true, beq_iff_eq] at drain
      obtain ⟨free, -⟩ := drain
      have taken := Moves.events (room := room) (empties := empties)
        ((setPending_aside false s.cu.pendEject s.cu.pendWake s).moves.trans (endRest_aside _).moves)
      refine taken.trans (takeItem_events (i := .softReset tag) free (by simp) ?_ ?_)
      · simp [list, endRest]
      · exact ((requestRetract_acts _).stays (live := true) nofun).setWork (takeItem_busy _ (by simp)) _
    · exact .refl

/-! ### The cartridge handler -/

/-- A cartridge state other than RELEASED changes. -/
theorem setCart_moves {c : CartState} {s : State} (h : s.cart.state ≠ .released) : Moves true s (setCart c s) :=
  .single (.cart fun l => h l.2.2.2)

theorem insertShell_events (a b w : Bool) (s : State) : Events room empties s (insertShell a b w s) := by
  let u : State := { s with pins := { s.pins with seated := true, notchA := a, notchB := b, wprot := w } }
  have pins : Events room empties s u := setPins_events _ s
  unfold insertShell
  simp only
  split
  · exact pins
  · rename_i empty
    let v : State := setShell (typeOfNotches a b) w s.cart.hold u
    have within : v.cart.state ≠ .released := by
      have : v.cart.state = .empty := not_not.mp empty
      simp [this]
    have shell : Moves true u v := .single (.shell _ _ _ u)
    refine pins.trans (Moves.events ?_)
    split
    · exact (shell.trans (setCart_moves within)).trans (setCause_aside _ _).moves
    · rename_i t _
      have known : Moves true u (setCause .inserted (loadTypeTrims t (setCart .present v))) :=
        ((shell.trans (setCart_moves within)).trans (setSettings_stays _ _).moves).trans
          (setCause_aside _ _).moves
      split
      · exact known.trans (setPending_aside true _ _ _).moves
      · exact known

theorem seatedFalls_events (s : State) : Events room empties s (seatedFalls s) := by
  have low := setPins_events (room := room) (empties := empties) { s.pins with seated := false } s
  unfold seatedFalls
  simp only
  split
  · exact low.trans (Moves.events ((ejectLeaves_moves _).trans (settle_moves _)))
  · split
    · refine low.trans (Moves.events ((shellLeaves_moves _).trans ?_))
      exact Aside.moves (setPending_aside _ false _ _)
    · exact low

theorem pressButton_events (s : State) : Events room empties s (pressButton s) := by
  unfold pressButton
  split
  · exact .refl
  · split
    · exact setCause_events _ s
    · have asked := ((setPending_aside false true s.cu.pendWake s).moves (live := true)).trans (endRest_aside _).moves
      exact Moves.events (((asked.trans (cancelQueue_aside _).moves).trans (tellAbort_aside _).moves).trans
        (settle_moves _))

theorem windowExpires_events (s : State) : Events room empties s (windowExpires s) := by
  unfold windowExpires
  split
  · exact Moves.events ((ejectJams_moves s).trans (settle_moves _))
  · exact .refl

/-! ### The mechanism -/

/-- An operation of the mechanism, worked out. -/
theorem Acts.settled {s t : State} (h : Acts s t) : Events room empties s (settle t) :=
  Moves.events ((h.moves (live := true) nofun).trans (settle_moves t))

theorem indexArrives_events (sig : ReadSignal) (s : State) : Events room empties s (indexArrives sig s) :=
  Moves.events (((indexSpindle_acts s).moves (live := true) nofun).trans (rotate_moves sig _ (by omega)))

theorem kickExpires_events (s : State) : Events room empties s (kickExpires s) := by
  unfold kickExpires
  split
  · exact (raise_acts _ s).settled
  · exact .refl

theorem setGap_acts {s : State} {g : Nat} (h : s.spin.gap ≤ 1000000 → g ≤ 1000000) :
    Acts s { s with spin := { s.spin with gap := g } } :=
  (setSpin_lone _ s).acts (setGap_mech h) id

theorem accelSaturates_events (s : State) : Events room empties s (accelSaturates s) := by
  unfold accelSaturates
  split
  · exact ((setGap_acts (by simp [Config.gapMax])).trans (raise_acts _ _)).settled
  · exact .refl

theorem spinUpExpires_events (s : State) : Events room empties s (spinUpExpires s) := by
  unfold spinUpExpires
  split
  · exact (raise_acts _ s).settled
  · exact (raise_acts _ s).settled
  · exact (raise_acts _ s).settled
  · exact .refl

theorem indexLost_events (s : State) : Events room empties s (indexLost s) := by
  unfold indexLost
  split
  · have bound : s.spin.gap ≤ 1000000 → max s.spin.gap (Config.gapLimit + 1) ≤ 1000000 :=
      fun h => max_le h (by decide)
    exact ((setGap_acts bound).trans (raise_acts _ _)).settled
  · exact .refl

theorem stopExpires_events (s : State) : Events room empties s (stopExpires s) := by
  unfold stopExpires
  split
  · exact ((setSpin_lone _ s).acts (stopExpiry_mech ‹_›) id).settled
  · exact .refl

theorem brakeExpires_events (s : State) : Events room empties s (brakeExpires s) := by
  unfold brakeExpires
  split
  · have failed : Acts s { s with spin := { s.spin with brake := none, brakeFailed := true } } :=
      (setSpin_lone _ s).acts (setSpinFlags_mech rfl rfl rfl rfl) id
    exact (failed.trans (raise_acts _ _)).settled
  · exact .refl

theorem markStrobes_events (cyl : Nat) (pe : Int) (withIndex park : Bool) (sig : ReadSignal) (s : State) :
    Events room empties s (markStrobes cyl pe withIndex park sig s) := by
  have pins := setPins_events (room := room) (empties := empties) { s.pins with park } s
  unfold markStrobes
  simp only
  split
  · have taken := pins.trans (takeSample_acts cyl pe _).settled
    split
    · exact taken
    · exact taken.trans (Moves.events (rotateNext_moves sig _))
  · exact pins

theorem missDeclared_events (s : State) : Events room empties s (missDeclared s) := by
  unfold missDeclared
  split
  · exact (positionMiss_acts ‹_›).settled.trans (Moves.events (rotateNext_moves _ _))
  · exact .refl

theorem servoLost_events (s : State) : Events room empties s (servoLost s) := by
  unfold servoLost
  split
  · exact (losesServo_acts s).settled.trans (Moves.events (rotateNext_moves _ _))
  · exact .refl

theorem seekExpires_events (s : State) : Events room empties s (seekExpires s) := by
  unfold seekExpires
  split
  · exact (seekTimesOut_acts s).settled
  · exact (seekTimesOut_acts s).settled
  · split
    · exact .refl
    · exact (seekTimesOut_acts s).settled
  · exact .refl

theorem loadExpires_events (park : Bool) (s : State) : Events room empties s (loadExpires park s) := by
  unfold loadExpires
  split
  · let v : State := { s with pins := { s.pins with park } }
    let u := tellRequester .failed v
    have told : Acts v { u with pos := { u.pos with requester := none } } :=
      ((tellRequester_lone .failed v).trans (setPos_lone _ _)).acts
        ((tellRequester_same .failed v).kept.trans (setPos_mech rfl rfl)) fun h => h.tellRequester .failed
    exact (setPins_events _ s).trans (told.trans (raise_acts _ _)).settled
  · exact .refl

theorem retractExpires_events (s : State) : Events room empties s (retractExpires s) := by
  unfold retractExpires
  split
  · exact (enterEmergency_acts (by simp [*])).settled
  · exact .refl

theorem emergencyExpires_events (s : State) : Events room empties s (emergencyExpires s) := by
  unfold emergencyExpires
  split
  · exact ((enterParked_acts (.inr ‹_›)).trans (raise_acts _ _)).settled
  · exact .refl

theorem parkSeen_events (s : State) : Events room empties s (parkSeen s) := by
  have pins := setPins_events (room := room) (empties := empties) { s.pins with park := true } s
  unfold parkSeen parkReported
  simp only
  split
  · exact (pins.trans (enterParked_acts ‹_›).settled).trans (heldActs_acts _).settled
  · exact pins

theorem writeFaults_events (s : State) : Events room empties s (writeFaults s) := by
  unfold writeFaults
  split
  · exact (raise_acts _ s).settled
  · exact .refl

/-! ### Waits and the supply -/

/-- Moves, worked out. -/
theorem Stays.settled {s t : State} (h : Stays true s t) : Events room empties s (settle t) :=
  Moves.events (h.moves.trans (settle_moves t))

theorem dataTimes_events (s : State) : Events room empties s (dataTimes s) :=
  (dataTimerExpires_stays s).settled

theorem gateWaitExpires_events (s : State) : Events room empties s (gateWaitExpires s) := by
  have stopped := stopGateWait_stays (live := true) s
  refine Stays.settled ?_
  unfold gateWaitEnds
  split
  · exact stopped.trans (endTransfer_stays _ _ _ _)
  · split
    · exact stopped.trans (setReassign_stays _ _)
    · exact writeStageEnds_stays _ _ s
  · exact .rfl
  · split
    · split
      · exact expireWait_stays s
      · exact .rfl
    · exact .rfl

theorem readWaitExpires_events (s : State) : Events room empties s (readWaitExpires s) := by
  unfold readWaitExpires
  split
  · split
    · exact (expireWait_stays s).settled
    · exact .refl
  · exact .refl

theorem copyAttemptExpires_events (s : State) : Events room empties s (copyAttemptExpires s) := by
  refine Moves.events (Relation.ReflTransGen.trans ?_ (settle_moves _))
  unfold copyTimerExpires
  split
  · exact .refl
  · split
    · exact .refl
    · split
      · exact (setCopyWrite_aside _ s).moves
      · exact copyAttemptFails_moves _ s

/-- The supply warning is no law's concern. -/
theorem setWarning_aside (b : Bool) (s : State) : Aside s { s with fault := { s.fault with warning := b } } := by
  simp [Aside, SameMech]

theorem supplyWarns_events (s : State) : Events room empties s (supplyWarns s) := by
  have pins := setPins_events (room := room) (empties := empties) { s.pins with supwarn := false } s
  unfold supplyWarns
  simp only
  split
  · exact pins
  · exact (pins.trans (setWarning_aside true _).moves.events).trans (raise_acts _ _).settled

theorem supplyRecovers_events (s : State) : Events room empties s (supplyRecovers s) :=
  (setPins_events { s.pins with supwarn := true } s).trans (setWarning_aside false _).moves.events

theorem restExpires_events (s : State) : Events room empties s (restExpires s) := by
  unfold restExpires
  split
  · exact Moves.events (Aside.moves (by simp [Aside, SameMech]))
  · exact .refl

/-! ### Every row, and every step with no command waiting -/

/-- A row that is not a hard reset is a run of events. The frame rows may empty the fault slot. -/
theorem exec_events (c : Instr) {s t : State} (soft : ∀ l, c ≠ .hardReset l)
    (bound : room → placesUsed s ≤ 8) (may : mayEmptyFaultSlot c = true → empties)
    (h : exec c s = .next t) : Events room empties s t := by
  cases c with
  | commandFrame body =>
    cases h
    exact unlessReset_events (receiveBody_events body (may rfl) bound)
  | dataFrame body =>
    cases h
    exact unlessReset_events (receiveData_events body s)
  | receiveError e =>
    cases h
    exact unlessReset_events (receiveError_events s)
  | byteGapExpiry =>
    cases h
    exact unlessReset_events (byteGapExpires_events s)
  | discardQuietExpiry =>
    cases h
    exact unlessReset_events (quietExpires_events s)
  | busGrant =>
    cases h
    exact unlessReset_events (busGrant_events s)
  | dirLowDuringSend =>
    cases h
    exact unlessReset_events (dirFalls_events s)
  | frameSent =>
    cases h
    exact unlessReset_events (frameSent_events s)
  | kindByteTakesPlace =>
    cases h
    exact unlessReset_events (kindTakesPlace_events s)
  | replyTakesPlace =>
    cases h
    exact unlessReset_events (replyTakesPlace_events s)
  | hardReset levels => exact absurd rfl (soft levels)
  | spinUp =>
    cases h
    exact unlessReset_events (runHead_events _ (fun e _ => beginSpinUp_moves e) s)
  | spinDown =>
    cases h
    exact unlessReset_events (runHead_events _ (fun e _ => takeSpinDown_moves e) s)
  | seek =>
    cases h
    exact unlessReset_events (runHead_events _ (fun e _ => takeSeek_moves e) s)
  | read =>
    cases h
    exact unlessReset_events (runHead_events _ (fun e _ => takeDataCommand_moves _ e) s)
  | write =>
    cases h
    exact unlessReset_events (runHead_events _ (fun e _ => takeDataCommand_moves _ e) s)
  | verify =>
    cases h
    exact unlessReset_events (runHead_events _ (fun e _ => takeDataCommand_moves _ e) s)
  | reassign =>
    cases h
    exact unlessReset_events (runHead_events _ (fun e _ => takeReassign_moves e) s)
  | format =>
    cases h
    exact unlessReset_events (runHead_events _ (fun e _ => takeFormat_moves e) s)
  | rest =>
    cases h
    exact unlessReset_events (runHead_events _ (fun e _ => takeRest_moves e) s)
  | eject =>
    cases h
    exact unlessReset_events (runHead_events _ (fun e _ => takeEject_moves e) s)
  | readTable =>
    cases h
    exact unlessReset_events (runHead_events _ (fun e _ => takeReadTable_moves e) s)
  | setParameter =>
    cases h
    exact unlessReset_events (runHead_events _ (fun e _ => takeSetParameter_moves e) s)
  | saveSettings =>
    cases h
    exact unlessReset_events (runHead_events _ (fun e _ => takeSaveSettings_moves e) s)
  | saveSettingsReadBack area =>
    cases h
    exact unlessReset_events (savedBack_events area s)
  | loadDefaults =>
    cases h
    exact unlessReset_events (runHead_events _ (fun e _ => takeLoadDefaults_moves e) s)
  | sense tag =>
    cases h
    exact unlessReset_events (receiveCommand_events bound fun _ => doSense_events tag)
  | clearAttention tag causes =>
    cases h
    exact unlessReset_events (receiveCommand_events bound fun _ => doClearAttention_events tag causes (may rfl))
  | abort tag =>
    cases h
    exact unlessReset_events (receiveCommand_events bound fun _ => doAbort_events tag)
  | hold tag =>
    cases h
    exact unlessReset_events (receiveCommand_events bound fun _ => doHold_events tag)
  | release tag =>
    cases h
    exact unlessReset_events (receiveCommand_events bound fun _ => doRelease_events tag)
  | reset tag =>
    cases h
    exact unlessReset_events (receiveCommand_events bound fun _ => doReset_events tag)
  | cancelledCommandTakesSlot =>
    cases h
    exact unlessReset_events (takeCancelled_events s)
  | autoStart =>
    cases h
    exact unlessReset_events (takeAutoStart_events s)
  | buttonEject =>
    cases h
    exact unlessReset_events (takeButtonEject_events s)
  | timedWake =>
    cases h
    exact unlessReset_events (takeTimedWake_events s)
  | softResetPark =>
    cases h
    exact unlessReset_events (takeSoftReset_events s)
  | insertion notchA notchB wprot =>
    cases h
    exact unlessReset_events (insertShell_events notchA notchB wprot s)
  | seatedFalling =>
    cases h
    exact unlessReset_events (seatedFalls_events s)
  | ejectButtonPress =>
    cases h
    exact unlessReset_events (pressButton_events s)
  | releaseWindowExpiry =>
    cases h
    exact unlessReset_events (windowExpires_events s)
  | indexArrival sig =>
    cases h
    exact unlessReset_events (indexArrives_events sig s)
  | kickTimerExpiry =>
    cases h
    exact unlessReset_events (kickExpires_events s)
  | accelGapSaturation =>
    cases h
    exact unlessReset_events (accelSaturates_events s)
  | spinUpTimerExpiry =>
    cases h
    exact unlessReset_events (spinUpExpires_events s)
  | indexLoss =>
    cases h
    exact unlessReset_events (indexLost_events s)
  | stopTimerExpiry =>
    cases h
    exact unlessReset_events (stopExpires_events s)
  | brakeTimerExpiry =>
    cases h
    exact unlessReset_events (brakeExpires_events s)
  | markStrobe cylinder pe withIndex park sig =>
    cases h
    exact unlessReset_events (markStrobes_events cylinder pe withIndex park sig s)
  | missingSampleDeclaration =>
    cases h
    exact unlessReset_events (missDeclared_events s)
  | servoLoss =>
    cases h
    exact unlessReset_events (servoLost_events s)
  | seekTimeout =>
    cases h
    exact unlessReset_events (seekExpires_events s)
  | loadTimerExpiry park =>
    cases h
    exact unlessReset_events (loadExpires_events park s)
  | retractTimerExpiry =>
    cases h
    exact unlessReset_events (retractExpires_events s)
  | emergencyTimerExpiry =>
    cases h
    exact unlessReset_events (emergencyExpires_events s)
  | parkRises =>
    cases h
    exact unlessReset_events (parkSeen_events s)
  | writeFault =>
    cases h
    exact unlessReset_events (writeFaults_events s)
  | dataTimerExpiry =>
    cases h
    exact unlessReset_events (dataTimes_events s)
  | gateWaitTimerExpiry =>
    cases h
    exact unlessReset_events (gateWaitExpires_events s)
  | formatReadWaitExpiry =>
    cases h
    exact unlessReset_events (readWaitExpires_events s)
  | copyAttemptTimerExpiry =>
    cases h
    exact unlessReset_events (copyAttemptExpires_events s)
  | supwarnFalls =>
    cases h
    exact unlessReset_events (supplyWarns_events s)
  | supwarnRises =>
    cases h
    exact unlessReset_events (supplyRecovers_events s)
  | restTimerExpiry =>
    cases h
    exact unlessReset_events (restExpires_events s)
  | byteReceived data dp =>
    cases h
    exact unlessReset_events (byteReceived_events data dp (may rfl) bound)

/-- The expiries of a tick come one after another. -/
theorem expire_events {f : State → State} (t : State → Timer)
    (h : ∀ u, Events room empties u (f u)) (s : State) : Events room empties s (expire t f s) := by
  unfold expire
  split
  · exact h s
  · exact .refl

theorem expireDrive_events (s : State) : Events room empties s (expireDrive s) := by
  have spindle (u : State) : Events room empties u
      (if u.spin.state = .accel ∧ u.spin.gap = Config.gapMax then accelSaturates u else u) := by
    split
    · exact accelSaturates_events u
    · exact .refl
  have index (u : State) : Events room empties u (if Config.gapLimit < u.spin.gap then indexLost u else u) := by
    split
    · exact indexLost_events u
    · exact .refl
  exact ((((((((expire_events _ byteGapExpires_events s).trans (expire_events _ quietExpires_events _)).trans
    (expire_events _ windowExpires_events _)).trans (expire_events _ kickExpires_events _)).trans
    (expire_events _ spinUpExpires_events _)).trans (expire_events _ stopExpires_events _)).trans
    (expire_events _ brakeExpires_events _)).trans (spindle _)).trans (index _)

theorem expireHeads_events (s : State) : Events room empties s (expireHeads s) := by
  refine Relation.ReflTransGen.trans ?_ (expire_events (fun s => s.rest.timer) restExpires_events _)
  refine Relation.ReflTransGen.trans ?_ (Moves.events (settle_moves _))
  exact (((((((expire_events _ missDeclared_events s).trans
    (expire_events _ (fun u => loadExpires_events u.pins.park u) _)).trans
    (expire_events _ retractExpires_events _)).trans (expire_events _ emergencyExpires_events _)).trans
    (expire_events _ copyAttemptExpires_events _)).trans (expire_events _ dataTimes_events _)).trans
    (expire_events _ dataTimes_events _)).trans (expire_events _ gateWaitExpires_events _)

theorem tick_events (s : State) : Events room empties s (tick s) :=
  ((Event.down s).events.trans (expireDrive_events _)).trans (expireHeads_events _)

theorem ite_events {p : Prop} [Decidable p] {s a b : State} (h : Events room empties s a)
    (k : Events room empties s b) : Events room empties s (if p then a else b) := by
  split
  · exact h
  · exact k

theorem runAnyHead_events (e : Entry) (s : State) : Events room empties s (runAnyHead e s) := by
  unfold runAnyHead
  refine ite_events (runHead_events _ (fun e _ => beginSpinUp_moves e) s) ?_
  refine ite_events (runHead_events _ (fun e _ => takeSpinDown_moves e) s) ?_
  refine ite_events (runHead_events _ (fun e _ => takeSeek_moves e) s) ?_
  refine ite_events (runHead_events _ (fun e _ => takeDataCommand_moves _ e) s) ?_
  refine ite_events (runHead_events _ (fun e _ => takeDataCommand_moves _ e) s) ?_
  refine ite_events (runHead_events _ (fun e _ => takeDataCommand_moves _ e) s) ?_
  refine ite_events (runHead_events _ (fun e _ => takeReassign_moves e) s) ?_
  refine ite_events (runHead_events _ (fun e _ => takeFormat_moves e) s) ?_
  refine ite_events (runHead_events _ (fun e _ => takeRest_moves e) s) ?_
  refine ite_events (runHead_events _ (fun e _ => takeEject_moves e) s) ?_
  refine ite_events (runHead_events _ (fun e _ => takeReadTable_moves e) s) ?_
  refine ite_events (runHead_events _ (fun e _ => takeSetParameter_moves e) s) ?_
  refine ite_events (runHead_events _ (fun e _ => takeSaveSettings_moves e) s) ?_
  exact runHead_events _ (fun e _ => takeLoadDefaults_moves e) s

theorem internalStep_events {s t : State} (h : internalStep s = some t) : Events room empties s t := by
  unfold internalStep at h
  split at h
  · exact Option.some.inj h ▸ replyTakesPlace_events s
  · split at h
    · exact Option.some.inj h ▸ kindTakesPlace_events s
    · split at h
      · split at h
        · exact Option.some.inj h ▸ takeSoftReset_events s
        · split at h
          · exact Option.some.inj h ▸ takeButtonEject_events s
          · split at h
            · split at h
              · exact Option.some.inj h ▸ takeCancelled_events s
              · split at h
                · exact Option.some.inj h ▸ runAnyHead_events _ s
                · cases h
            · split at h
              · exact Option.some.inj h ▸ takeAutoStart_events s
              · split at h
                · exact Option.some.inj h ▸ takeTimedWake_events s
                · cases h
      · cases h

theorem idle_events (s : State) : Events room empties s (idle s) := by
  refine unlessReset_events ?_
  unfold proceed
  split
  · exact internalStep_events ‹_›
  · exact tick_events s

/-- The state with the command at the front of the queue taken. -/
def taken (s : State) : State := { s with pending := s.pending.tail }

/-- A step is a hard reset or a run of events. -/
theorem step_cases {s t : State} (bound : room → placesUsed s ≤ 8)
    (may : (∀ c rest, s.pending = c :: rest → mayEmptyFaultSlot c = false) ∨ empties)
    (h : step s = .next t) :
    (∃ l rest, s.pending = .hardReset l :: rest ∧ t = hardResets l (taken s))
    ∨ Events room empties (taken s) t := by
  unfold step at h
  split at h
  · rename_i none
    obtain rfl := Host.Outcome.next.inj h
    have same : taken s = s := by
      cases s
      simp only at none
      subst none
      rfl
    exact .inr (by rw [same]; exact idle_events s)
  · rename_i c rest front
    have eq : { s with pending := rest } = taken s := by simp [taken, front]
    rw [eq] at h
    by_cases hard : ∃ l, c = .hardReset l
    · obtain ⟨l, rfl⟩ := hard
      exact .inl ⟨l, rest, front, (Host.Outcome.next.inj h).symm⟩
    · refine .inr (exec_events c (fun l hl => hard ⟨l, hl⟩) bound (fun e => ?_) h)
      obtain none | yes := may
      · rw [none c rest front] at e
        cases e
      · exact yes


end Sys2Proof.Machine

/-! ## Proofs: the laws that every step keeps -/

namespace Sys2Proof.Machine

/-! ### The laws of the mechanism along a row -/

theorem SameMech.laws {s t : State} (h : SameMech s t) : MechLaws s t := h.kept.toMechLaws

theorem finishWith_same (o : OutcomeCode) (fields : List Byte) (s : State) :
    SameMech s (finishWith o fields s) := by
  unfold finishWith
  split
  · simp only
    split <;> simp [SameMech]
  · simp [SameMech]

theorem restore_same (s : State) : SameMech s (restore s) := by
  unfold restore
  split <;> simp [SameMech]

theorem Move.laws {live : Bool} {s t : State} (h : Move live s t) : MechLaws s t := by
  cases h with
  | aside h => exact h.1.laws
  | acts h _ => exact h.mech.toMechLaws
  | start _ => exact startRequest_laws s
  | request => exact SameMech.laws (by simp [joinLine, SameMech])
  | withdraw => exact SameMech.laws (by simp [SameMech])
  | work => exact SameMech.laws (by simp [SameMech])
  | finish => exact (finishWith_same _ _ s).laws
  | restore => exact (restore_same s).laws
  | cart => exact SameMech.laws (by simp [SameMech])
  | eject => exact SameMech.laws (by simp [setEject, SameMech])
  | latch => exact SameMech.laws (by simp [assertLatch, SameMech])
  | unlatch => exact SameMech.laws (by simp [Machine.unlatch, SameMech])
  | shell => exact SameMech.laws (by simp [setShell, SameMech])

/-- An acknowledged byte concerns the link alone, and the count of the free values that are used. -/
theorem ackByte_frame (s : State) :
    ackByte s = { s with link := (ackByte s).link, freeUsed := (ackByte s).freeUsed } := by
  unfold ackByte
  split <;> rfl

theorem countDown_laws (s : State) : MechLaws s (countDown s) := by
  unfold countDown
  rw [ackByte_frame]
  exact ⟨id, id, id, fun ⟨⟨d, _, p⟩, rest⟩ => ⟨⟨d, Nat.min_le_right _ _, p⟩, rest⟩, .rfl _⟩

theorem Event.laws {room empties : Prop} {s t : State} (h : Event room empties s t) :
    MechLaws s t ∨ empties ∧ t = { s with fault := { s.fault with slot := none } } := by
  cases h with
  | move h => exact .inl h.laws
  | clear _ may => exact .inr ⟨may, rfl⟩
  | down => exact .inl (countDown_laws s)
  | receive => exact .inl (SameMech.laws (by simp [SameMech]))
  | direct => exact .inl (SameMech.laws (by simp [SameMech]))
  | join => exact .inl (SameMech.laws (by simp [SameMech]))
  | accept => exact .inl (SameMech.laws (by simp [SameMech]))
  | grant => exact .inl (SameMech.laws (by simp [SameMech]))
  | silent => exact .inl (SameMech.laws (by simp [SameMech]))
  | sent => exact .inl (SameMech.laws (by simp [SameMech, replySent]))
  | asked => exact .inl (SameMech.laws (by simp [SameMech]))
  | head => exact .inl (SameMech.laws (by simp [SameMech]))
  | item => exact .inl (SameMech.laws (by simp [SameMech, takeItem]))
  | placed => exact .inl (SameMech.laws (by simp [SameMech]))

/-- What every event keeps, a row keeps. -/
theorem Events.keep {room empties : Prop} {P : State → Prop}
    (h : ∀ s t, Event room empties s t → P s → P t) {s t : State} (run : Events room empties s t)
    (ok : P s) : P t := by
  induction run with
  | refl => exact ok
  | tail _ e ih => exact h _ _ e ih

theorem hardResets_events {room empties : Prop} (l : Levels) (s : State) :
    Events room empties (resetState l s) (hardResets l s) := by
  unfold hardResets
  split
  · exact .refl
  · exact (raise_acts _ _).settled

/-- A law that a hard reset meets and every event keeps is kept by every step. -/
theorem kept_of_events {room empties : Prop} {P : State → Prop} (may : empties)
    (reset : ∀ l s, P (resetState l s)) (events : ∀ s t, Event room empties s t → P s → P t)
    (bound : ∀ s, P s → room → placesUsed s ≤ 8) (front : ∀ s, P s → P (taken s)) {s t : State} (ok : P s)
    (h : step s = .next t) : P t := by
  obtain ⟨l, -, -, rfl⟩ | run := step_cases (bound s ok) (.inr may) h
  · exact (hardResets_events l (taken s)).keep events (reset l _)
  · exact run.keep events (front s ok)

/-- A law of the mechanism that no operation breaks, and that does not look at the fault slot. -/
theorem mech_kept {P : State → Prop} (reset : ∀ l s, P (resetState l s))
    (laws : ∀ s t, MechLaws s t → P s → P t)
    (slot : ∀ s, P s → P { s with fault := { s.fault with slot := none } })
    (front : ∀ s, P s → P (taken s)) {s t : State} (ok : P s) (h : step s = .next t) : P t := by
  refine kept_of_events (room := False) (empties := True) trivial reset (fun u v e hu => ?_)
    (fun _ _ => False.elim) front ok h
  obtain l | ⟨-, rfl⟩ := e.laws
  · exact laws u v l hu
  · exact slot u hu

theorem resetState_range (l : Levels) (s : State) : MechRange (resetState l s) := by
  obtain ⟨seated, a, b, w, park, sup, rst⟩ := l
  cases seated <;> cases park <;>
    simp [MechRange, resetState, spinAtReset, posAtReset, State.reset, Spindle.enterCoasting,
      Spindle.enterBraking]

theorem resetState_spindle (l : Levels) (s : State) : SpindleLaw (resetState l s) := by
  obtain ⟨seated, a, b, w, park, sup, rst⟩ := l
  cases seated <;> cases park <;> rfl

end Sys2Proof.Machine

namespace Sys2Proof

open Machine

/-- Settles O4: every operation of the mechanism keeps the law (`MechLaws.spindle`), and a hard reset meets
it. -/
theorem spindleLawKept : Obligations.SpindleLawKept := fun _ _ ok h =>
  mech_kept resetState_spindle (fun _ _ l => l.spindle) (fun _ => id) (fun _ => id) ok h

/-- Settles O5: no operation of the mechanism leaves the gate open but over a sector write on track
(`MechLaws.gate`), and a hard reset closes it. -/
theorem writeGateLawKept : Obligations.WriteGateLawKept := fun _ _ ok h =>
  mech_kept (P := GateLaw) (fun _ _ => ⟨rfl, nofun, fun _ => rfl⟩) (fun _ _ l => l.gate) (fun _ => id)
    (fun _ => id) ok h

end Sys2Proof

/-! ## Proofs: the laws of the link, the queue, the record and the latch -/

namespace Sys2Proof.Machine

/-! ### What moves leave of the link and of the command unit -/

/-- The same outbound side of the link and the same command unit, as far as their laws can see. -/
def SameUnit (s t : State) : Prop :=
  (t.link.outbox = s.link.outbox ∧ t.link.heldFrame = s.link.heldFrame ∧ t.link.line = s.link.line
    ∧ t.link.send = s.link.send ∧ t.link.acked = s.link.acked)
  ∧ (t.cu.queue.length = s.cu.queue.length ∧ t.cu.slot.item = s.cu.slot.item
    ∧ t.cu.slot.work = s.cu.slot.work ∧ t.cu.resets = s.cu.resets ∧ t.cu.accepted = s.cu.accepted
    ∧ t.cu.repliesSent = s.cu.repliesSent)

theorem Aside.unit {s t : State} (h : Aside s t) : SameUnit s t := ⟨h.2.1, h.2.2.1⟩

theorem Apart.unit {s t : State} (h : Apart s t) : SameUnit s t := by
  obtain ⟨-, link, -, -, -, -, -, -, slot, resets, accepted, sent, queue⟩ := h
  simp [SameUnit, link, slot, resets, accepted, sent, queue]

/-- What a move does to the link and to the command unit. -/
theorem Move.unit {live : Bool} {s t : State} (h : Move live s t) :
    SameUnit s t
    ∨ (∃ l, t = joinLine l s) ∨ t = withdrawLine s
    ∨ (∃ w, t = setWork w s ∧ (∀ r, w ≠ .replying r) ∧ (s.cu.slot.work ≠ .idle ∨ s.cu.slot.item ≠ .free))
    ∨ (∃ o fields, t = finishWith o fields s) ∨ t = Machine.restore s := by
  cases h with
  | aside h => exact .inl h.unit
  | acts h _ => exact .inl h.apart.unit
  | start _ => exact .inl (startRequest_apart s).unit
  | request l => exact .inr (.inl ⟨l, rfl⟩)
  | withdraw => exact .inr (.inr (.inl rfl))
  | @work w _ _ other active => exact .inr (.inr (.inr (.inl ⟨w, rfl, other, active⟩)))
  | @finish o fields _ _ => exact .inr (.inr (.inr (.inr (.inl ⟨o, fields, rfl⟩))))
  | restore _ => exact .inr (.inr (.inr (.inr (.inr rfl))))
  | cart => exact .inl (by simp [SameUnit])
  | eject => exact .inl (by simp [SameUnit, setEject])
  | latch => exact .inl (by simp [SameUnit, assertLatch])
  | unlatch => exact .inl (by simp [SameUnit, Machine.unlatch])
  | shell => exact .inl (by simp [SameUnit, setShell])

/-- The end of an item: a queued command's reply enters the outbox, or waits in the slot; any other item
leaves the slot free (R177). -/
theorem finishWith_cases (o : OutcomeCode) (fields : List Byte) (s : State) :
    (∃ r, slotCommands s = 1 ∧ r.queued = true ∧
      (placeFree s = true ∧ finishWith o fields s = freeSlot (putReply r (clearWork s))
      ∨ finishWith o fields s = setWork (.replying r) (clearWork s)))
    ∨ slotCommands s = 0 ∧ finishWith o fields s = freeSlot (clearWork s) := by
  have place : placeFree (clearWork s) = placeFree s := rfl
  unfold finishWith
  split
  · rename_i e item
    refine .inl ⟨{ tag := e.tag, code := e.code, outcome := o, fields, queued := true },
      by simp [slotCommands, item], rfl, ?_⟩
    simp only
    rw [place]
    split
    · exact .inl ⟨‹_›, rfl⟩
    · exact .inr rfl
  · rename_i other
    refine .inr ⟨?_, rfl⟩
    unfold slotCommands
    split
    · exact absurd ‹_› (other _)
    · rfl

/-! ### The count of replies -/

theorem SameUnit.count {s t : State} (h : SameUnit s t) (ok : CountLaw s) : CountLaw t := by
  obtain ⟨⟨outbox, -, line, send, -⟩, queue, item, work, -, accepted, sent⟩ := h
  simpa only [CountLaw, countBalance, queuedReplies, slotCommands, outbox, line, send, queue, item, work,
    accepted, sent] using ok

/-- A withdrawn outbound line: no request of it is being sent any more (R126, R192). -/
theorem withdrawLine_count {s : State} (ok : CountLaw s) : CountLaw (withdrawLine s) := by
  obtain ⟨balance, reply, -, waits⟩ := ok
  refine ⟨balance, fun r h => ?_, fun t i h => ?_, waits⟩
  · obtain ⟨f, sending, eq⟩ := Option.map_eq_some_iff.mp h
    refine reply r (sending.trans ?_)
    cases f <;> simp_all [Outbound.withdraw]
  · obtain ⟨f, -, eq⟩ := Option.map_eq_some_iff.mp h
    cases f <;> simp [Outbound.withdraw] at eq

theorem clearWork_count {s : State} (ok : CountLaw s) : CountLaw (clearWork s) :=
  SameUnit.count (s := withdrawLine s) (by simp [SameUnit]) (withdrawLine_count ok)

/-- An item other than a queued command leaves the slot. -/
theorem freeSlot_count {s : State} (none : slotCommands s = 0) (ok : CountLaw s) : CountLaw (freeSlot s) := by
  obtain ⟨balance, reply, request, -⟩ := ok
  refine ⟨?_, reply, request, by simp [Slot.free]⟩
  rwa [countBalance, none] at balance

/-- A reply that answers no queued command enters the outbox. -/
theorem putReply_count {r : Reply} {s : State} (direct : r.queued = false) (ok : CountLaw s) :
    CountLaw (putReply r s) := by
  obtain ⟨balance, reply, request, waits⟩ := ok
  refine ⟨?_, fun r' h => ?_, request, waits⟩
  · simpa [countBalance, queuedReplies, direct, slotCommands] using balance
  · have head := reply r' h
    cases list : s.link.outbox with
    | nil => simp [list] at head
    | cons a as => simpa [list] using head

/-- The reply of the queued command in the slot enters the outbox. -/
theorem answer_count {r : Reply} {s : State} (queued : r.queued = true) (one : slotCommands s = 1)
    (ok : CountLaw s) : CountLaw (freeSlot (putReply r s)) := by
  obtain ⟨balance, reply, request, -⟩ := ok
  refine ⟨?_, fun r' h => ?_, request, by simp [Slot.free]⟩
  · simp only [countBalance, one, queuedReplies] at balance
    simp only [countBalance, queuedReplies, slotCommands, freeSlot, putReply, Slot.free,
      List.countP_append, List.countP_singleton, queued, if_true]
    omega
  · have head := reply r' h
    cases list : s.link.outbox with
    | nil => simp [list] at head
    | cons a as => simpa [list] using head

theorem finishWith_count (o : OutcomeCode) (fields : List Byte) {s : State} (ok : CountLaw s) :
    CountLaw (finishWith o fields s) := by
  have cleared := clearWork_count ok
  have same : slotCommands (clearWork s) = slotCommands s := by simp [slotCommands]
  obtain ⟨r, one, queued, ⟨-, eq⟩ | eq⟩ | ⟨none, eq⟩ := finishWith_cases o fields s
  · rw [eq]
    exact answer_count queued (same.trans one) cleared
  · rw [eq]
    obtain ⟨balance, reply, request, -⟩ := cleared
    refine ⟨balance, reply, request, fun r' h => ?_⟩
    obtain rfl := Work.replying.inj h
    exact ⟨queued, same.trans one⟩
  · rw [eq]
    exact freeSlot_count (same.trans none) cleared

theorem restore_count {s : State} (ok : CountLaw s) : CountLaw (restore s) := by
  unfold restore
  split
  · rename_i tag item
    simp only
    refine freeSlot_count (by simp [slotCommands, item]) (clearWork_count (putReply_count rfl ?_))
    exact ok
  · exact ok

theorem Move.count {live : Bool} {s t : State} (h : Move live s t) (ok : CountLaw s) : CountLaw t := by
  obtain same | ⟨l, rfl⟩ | rfl | ⟨w, rfl, other, -⟩ | ⟨o, fields, rfl⟩ | rfl := h.unit
  · exact same.count ok
  · obtain ⟨balance, reply, request, waits⟩ := ok
    refine ⟨balance, reply, fun tag i h => ?_, waits⟩
    have head := request tag i h
    cases list : s.link.line with
    | nil => simp [list] at head
    | cons a as => simpa [joinLine, list] using head
  · exact withdrawLine_count ok
  · obtain ⟨balance, reply, request, -⟩ := ok
    exact ⟨balance, reply, request, fun r h => absurd h (other r)⟩
  · exact finishWith_count o fields ok
  · exact restore_count ok

theorem Event.count {room empties : Prop} {s t : State} (h : Event room empties s t) (ok : CountLaw s) :
    CountLaw t := by
  cases h with
  | move h => exact h.count ok
  | receive outbox line send _ _ =>
    simpa only [CountLaw, countBalance, queuedReplies, slotCommands, outbox, line, send] using ok
  | direct direct _ => exact putReply_count direct ok
  | join => exact ok
  | accept e _ =>
    obtain ⟨balance, rest⟩ := ok
    refine ⟨?_, rest⟩
    rw [countBalance] at balance
    change s.cu.accepted + 1 = s.cu.repliesSent + queuedReplies s + (s.cu.queue ++ [e]).length + slotCommands s
    rw [List.length_append, List.length_singleton]
    omega
  | clear => exact ok
  | grant _ reply request =>
    obtain ⟨balance, -, -, waits⟩ := ok
    exact ⟨balance, fun r h => reply r (Option.some.inj h), fun t i h => request t i (Option.some.inj h), waits⟩
  | silent =>
    obtain ⟨balance, -, -, waits⟩ := ok
    exact ⟨balance, by simp, by simp, waits⟩
  | @sent r _ sending =>
    obtain ⟨balance, reply, -, waits⟩ := ok
    refine ⟨?_, by simp [replySent], by simp [replySent], waits⟩
    obtain ⟨rest, list⟩ : ∃ rest, s.link.outbox = r :: rest := by
      cases list : s.link.outbox with
      | nil => simpa [list] using reply r sending
      | cons a as => exact ⟨as, by simpa [list] using reply r sending⟩
    have queued : queuedReplies s = rest.countP (fun r => r.queued) + if r.queued then 1 else 0 := by
      rw [queuedReplies, list, List.countP_cons]
    simp only [countBalance, queued] at balance
    change s.cu.accepted = s.cu.repliesSent + (if r.queued then 1 else 0)
      + s.link.outbox.tail.countP (fun r => r.queued) + s.cu.queue.length + slotCommands s
    rw [list, List.tail_cons]
    omega
  | asked none =>
    obtain ⟨balance, reply, -, waits⟩ := ok
    exact ⟨balance, reply, fun t i h => by simp [none] at h, waits⟩
  | @head e rest _ free queue =>
    obtain ⟨balance, reply, request, -⟩ := ok
    refine ⟨?_, reply, request, by simp [takeHead, Slot.free]⟩
    have none : slotCommands s = 0 := by simp [slotCommands, free]
    simp only [countBalance, none, queue, List.length_cons] at balance
    change s.cu.accepted = s.cu.repliesSent + queuedReplies s + s.cu.queue.tail.length + 1
    rw [queue, List.tail_cons]
    omega
  | @item i _ free internal _ =>
    obtain ⟨balance, reply, request, -⟩ := ok
    refine ⟨?_, reply, request, by simp [takeItem, Slot.free]⟩
    have none : slotCommands s = 0 := by simp [slotCommands, free]
    have still : slotCommands (takeItem i s) = 0 := by
      unfold slotCommands
      split
      · rename_i e h
        exact absurd h (internal e)
      · rfl
    rw [countBalance, none] at balance
    rw [countBalance, still]
    exact balance
  | placed waiting _ =>
    obtain ⟨queued, one⟩ := ok.2.2.2 _ waiting
    exact answer_count queued one ok
  | down =>
    obtain ⟨balance, reply, request, waits⟩ := ok
    unfold countDown ackByte
    split
    · exact ⟨balance, reply, request, waits⟩
    · exact ⟨balance, reply, request, waits⟩

/-! ### The bounds of the queue and the outbox -/

theorem SameUnit.bounds {s t : State} (h : SameUnit s t) (ok : BoundsLaw s) : BoundsLaw t := by
  obtain ⟨⟨outbox, held, -, -, -⟩, queue, item, -, resets, -, -⟩ := h
  simpa only [BoundsLaw, placesUsed, outbox, held, queue, item, resets] using ok

theorem freeSlot_bounds {s : State} (queue : s.cu.queue.length ≤ 4) (places : placesUsed s ≤ 8) :
    BoundsLaw (freeSlot s) :=
  ⟨queue, places, by simp [Slot.free]⟩

theorem placesUsed_eq (s : State) :
    placesUsed s = s.link.outbox.length + s.link.heldFrame.toNat + s.cu.resets.length := by
  unfold placesUsed
  cases s.link.heldFrame <;> rfl

theorem placesUsed_putReply (r : Reply) (s : State) : placesUsed (putReply r s) = placesUsed s + 1 := by
  simp only [placesUsed_eq, putReply, List.length_append, List.length_singleton]
  omega

theorem finishWith_bounds (o : OutcomeCode) (fields : List Byte) {s : State} (ok : BoundsLaw s) :
    BoundsLaw (finishWith o fields s) := by
  obtain ⟨queue, places, reset⟩ := ok
  obtain ⟨r, one, -, ⟨free, eq⟩ | eq⟩ | ⟨-, eq⟩ := finishWith_cases o fields s
  · rw [eq]
    have room := placesUsed_lt_of_placeFree free
    refine freeSlot_bounds queue ?_
    rw [placesUsed_putReply]
    exact room
  · rw [eq]
    exact ⟨queue, places, reset⟩
  · rw [eq]
    exact freeSlot_bounds queue places

theorem restore_bounds {s : State} (ok : BoundsLaw s) : BoundsLaw (restore s) := by
  unfold restore
  split
  · rename_i tag item
    obtain ⟨queue, places, reset⟩ := ok
    refine freeSlot_bounds queue ?_
    obtain ⟨first, rest, list⟩ := List.exists_cons_of_ne_nil (reset tag item)
    rw [placesUsed_eq, list, List.length_cons] at places
    rw [placesUsed_eq]
    change (s.link.outbox ++ [_]).length + s.link.heldFrame.toNat + s.cu.resets.tail.length ≤ 8
    rw [list, List.tail_cons, List.length_append, List.length_singleton]
    omega
  · exact ok

theorem Move.bounds {live : Bool} {s t : State} (h : Move live s t) (ok : BoundsLaw s) : BoundsLaw t := by
  obtain same | ⟨l, rfl⟩ | rfl | ⟨w, rfl, -⟩ | ⟨o, fields, rfl⟩ | rfl := h.unit
  · exact same.bounds ok
  · exact ok
  · exact ok
  · exact ok
  · exact finishWith_bounds o fields ok
  · exact restore_bounds ok

theorem Event.bounds {empties : Prop} {s t : State} (h : Event True empties s t) (ok : BoundsLaw s) :
    BoundsLaw t := by
  obtain ⟨queue, places, reset⟩ := id ok
  cases h with
  | move h => exact h.bounds ok
  | @receive _ pins link outbox _ _ _ held =>
    refine ⟨queue, ?_, reset⟩
    rw [placesUsed_eq] at places ⊢
    change link.outbox.length + link.heldFrame.toNat + s.cu.resets.length ≤ 8
    rw [outbox]
    have one := Bool.toNat_le link.heldFrame
    cases now : link.heldFrame with
    | false => simp only [Bool.toNat_false]; omega
    | true =>
      obtain was | free := held now
      · rwa [was] at places
      · have room := placesUsed_lt_of_placeFree free
        rw [placesUsed_eq] at room
        simp only [Bool.toNat_true]
        omega
  | direct _ room =>
    refine ⟨queue, ?_, reset⟩
    rw [placesUsed_putReply]
    exact room trivial
  | join tag room =>
    refine ⟨queue, ?_, by simp⟩
    have room := room trivial
    simp only [placesUsed_eq, List.length_append, List.length_singleton] at room ⊢
    omega
  | accept e short => exact ⟨by simpa [accept] using short, places, reset⟩
  | clear => exact ok
  | grant => exact ok
  | silent => exact ok
  | sent =>
    refine ⟨queue, le_trans ?_ places, reset⟩
    simp only [placesUsed_eq, replySent, List.length_tail]
    omega
  | asked => exact ok
  | head => exact ⟨by simp only [takeHead, List.length_tail]; omega, places, by simp [takeHead]⟩
  | item _ _ soft => exact ⟨queue, places, soft⟩
  | placed _ free =>
    refine freeSlot_bounds queue ?_
    rw [placesUsed_putReply]
    exact placesUsed_lt_of_placeFree free
  | down =>
    unfold countDown ackByte
    split
    · exact ok
    · exact ok

end Sys2Proof.Machine

/-! ## Proofs: the obligations on the queue, the tables, the ranges and the latch -/

namespace Sys2Proof.Machine

/-! ### The frame being sent -/

/-- The clauses of `RangeLaw` on the frame being sent (R187). -/
def SendRange (s : State) : Prop :=
  (∀ f, s.link.send = some f → s.link.acked < f.bytes.length) ∧ (s.link.send = none → s.link.acked = 0)

theorem rangeLaw_iff (s : State) : RangeLaw s ↔ SendRange s ∧ MechRange s := by
  unfold RangeLaw SendRange MechRange
  tauto

theorem Outbound.bytes_pos (f : Outbound) : 0 < f.bytes.length := by
  cases f <;> simp [Outbound.bytes, frameBytes]

theorem Outbound.bytes_withdraw (f : Outbound) : f.withdraw.bytes = f.bytes := by
  cases f <;> rfl

theorem withdrawLine_send {s : State} (ok : SendRange s) : SendRange (withdrawLine s) := by
  obtain ⟨some, none⟩ := ok
  refine ⟨fun f h => ?_, fun h => none (by simpa using h)⟩
  obtain ⟨g, sending, rfl⟩ := Option.map_eq_some_iff.mp h
  rw [Outbound.bytes_withdraw]
  exact some g sending

theorem finishWith_send (o : OutcomeCode) (fields : List Byte) {s : State} (ok : SendRange s) :
    SendRange (finishWith o fields s) := by
  have cleared := withdrawLine_send ok
  obtain ⟨r, -, -, ⟨-, eq⟩ | eq⟩ | ⟨-, eq⟩ := finishWith_cases o fields s <;> rw [eq] <;> exact cleared

theorem restore_send {s : State} (ok : SendRange s) : SendRange (restore s) := by
  unfold restore
  split
  · exact withdrawLine_send ok
  · exact ok

theorem SameUnit.send {s t : State} (h : SameUnit s t) (ok : SendRange s) : SendRange t := by
  obtain ⟨⟨-, -, -, send, acked⟩, -⟩ := h
  simpa only [SendRange, send, acked] using ok

theorem Move.send {live : Bool} {s t : State} (h : Move live s t) (ok : SendRange s) : SendRange t := by
  obtain same | ⟨l, rfl⟩ | rfl | ⟨w, rfl, -⟩ | ⟨o, fields, rfl⟩ | rfl := h.unit
  · exact same.send ok
  · exact ok
  · exact withdrawLine_send ok
  · exact ok
  · exact finishWith_send o fields ok
  · exact restore_send ok

theorem ackByte_sendRange {s : State} (ok : SendRange s) : SendRange (ackByte s) := by
  obtain ⟨some, none⟩ := ok
  unfold ackByte
  split
  · exact ⟨some, none⟩
  · rename_i f sending
    have acked := some f sending
    refine ⟨fun g hg => ?_, fun h => by simp [sending] at h⟩
    obtain rfl : f = g := Option.some.inj (sending.symm.trans hg)
    simp only
    split <;> omega

theorem Event.send {room empties : Prop} {s t : State} (h : Event room empties s t) (ok : SendRange s) :
    SendRange t := by
  cases h with
  | move h => exact h.send ok
  | receive _ _ send acked _ => simpa only [SendRange, send, acked] using ok
  | @grant f _ _ _ _ =>
    refine ⟨fun g h => ?_, by simp⟩
    obtain rfl := Option.some.inj h
    exact f.bytes_pos
  | silent => exact ⟨by simp, by simp⟩
  | sent => exact ⟨by simp [replySent], by simp [replySent]⟩
  | down => exact ackByte_sendRange ok
  | direct => exact ok
  | join => exact ok
  | accept => exact ok
  | clear => exact ok
  | asked => exact ok
  | head => exact ok
  | item => exact ok
  | placed => exact ok

/-! ### The record and the tables -/

/-- The laws of the record: those of the session and of the tables. -/
def RecordOk (s : State) : Prop :=
  SessionOk s.record.session s.record.copyStatus s.record.unsaved

theorem finishWith_record (o : OutcomeCode) (fields : List Byte) (s : State) :
    (finishWith o fields s).record = s.record ∧ (finishWith o fields s).fmt = none
    ∧ (finishWith o fields s).mail.load = none := by
  obtain ⟨r, -, -, ⟨-, eq⟩ | eq⟩ | ⟨-, eq⟩ := finishWith_cases o fields s <;> rw [eq] <;> exact ⟨rfl, rfl, rfl⟩

/-- An item that ends leaves no FORMAT and no answer, and the record as it is. -/
theorem Tables.ended {session : SessionState} {fmt : Option Format} {load : Option Load}
    {answer : Option LoadResult} (ok : Tables session fmt load answer) : Tables session none load none :=
  ⟨ok.1, by simp, ok.2.2.1, by simp⟩

theorem Move.session {live : Bool} {s t : State} (h : Move live s t) (ok : RecordOk s) : RecordOk t := by
  cases h with
  | aside h => exact h.2.2.2.2.1 ok
  | acts h _ => simpa only [RecordOk, h.apart.record] using ok
  | start => simpa only [RecordOk, startRequest_record] using ok
  | finish => simpa only [RecordOk, (finishWith_record _ _ s).1] using ok
  | restore =>
    unfold Machine.restore
    split <;> exact ok
  | request => exact ok
  | withdraw => exact ok
  | work => exact ok
  | cart => exact ok
  | eject => exact ok
  | latch => exact ok
  | unlatch => exact ok
  | shell => exact ok

theorem Move.tables {live : Bool} {s t : State} (h : Move live s t) (ok : tables s) : Machine.tables t := by
  cases h with
  | aside h => exact h.2.2.2.2.2.1 ok
  | acts h _ => exact h.tabled.tables h.apart.record ok
  | start => exact (startRequest_tabled s).tables (startRequest_record s) ok
  | @finish o fields _ _ =>
    obtain ⟨record, fmt, answer⟩ := finishWith_record o fields s
    simpa only [Machine.tables, record, fmt, answer] using Tables.ended ok
  | restore =>
    unfold Machine.restore
    split
    · exact Tables.ended ok
    · exact ok
  | request => exact ok
  | withdraw => exact ok
  | work => exact ok
  | cart => exact ok
  | eject => exact ok
  | latch => exact ok
  | unlatch => exact ok
  | shell => exact ok

theorem Event.session {room empties : Prop} {s t : State} (h : Event room empties s t) (ok : RecordOk s) :
    RecordOk t := by
  cases h with
  | move h => exact h.session ok
  | down =>
    unfold countDown
    rw [ackByte_frame]
    exact ok
  | receive => exact ok
  | direct => exact ok
  | join => exact ok
  | accept => exact ok
  | clear => exact ok
  | grant => exact ok
  | silent => exact ok
  | sent => exact ok
  | asked => exact ok
  | head => exact ok
  | item => exact ok
  | placed => exact ok

theorem Event.tables {room empties : Prop} {s t : State} (h : Event room empties s t) (ok : tables s) :
    Machine.tables t := by
  cases h with
  | move h => exact h.tables ok
  | down =>
    obtain ⟨session, fmt, load, answer⟩ := ok
    unfold countDown
    rw [ackByte_frame]
    refine ⟨session, fun f hf => ?_, load, answer⟩
    obtain ⟨g, hg, rfl⟩ := Option.map_eq_some_iff.mp hf
    exact fmt g hg
  | receive => exact ok
  | direct => exact ok
  | join => exact ok
  | accept => exact ok
  | clear => exact ok
  | grant => exact ok
  | silent => exact ok
  | sent => exact ok
  | asked => exact ok
  | head => exact ok
  | item => exact ok
  | placed => exact ok

/-! ### The latch -/

/-- The law of the latch, and that a free slot works on nothing. -/
def LatchOk (s : State) : Prop := LatchLaw s ∧ (s.cu.slot.item = .free → s.cu.slot.work = .idle)

/-- Under the law an asserted latch means that the shell is leaving. -/
theorem LatchOk.unlatched {s : State} (ok : LatchOk s) (h : ¬ Leaving s) : s.cart.latch = false := by
  by_contra latched
  obtain ⟨state, -, -, -, work, e, eject, stage⟩ := ok.1 (by simpa using latched)
  exact h ⟨by simpa using latched, work, by simp [eject, stage], state⟩

/-- Work other than an eject finds the latch de-asserted. -/
theorem LatchOk.unlatched_of_work {s : State} (ok : LatchOk s) (h : s.cu.slot.work ≠ .eject) :
    s.cart.latch = false := ok.unlatched fun l => h l.2.1

theorem LatchOk.of_unlatched {s : State} (h : s.cart.latch = false)
    (free : s.cu.slot.item = .free → s.cu.slot.work = .idle) : LatchOk s :=
  ⟨fun l => by simp [h] at l, free⟩

/-- The law looks at the cartridge, the mechanism's two states, and the slot. -/
theorem LatchOk.of_same {s t : State} (ok : LatchOk s) (state : t.cart.state = s.cart.state)
    (latch : t.cart.latch = s.cart.latch)
    (stage : t.cart.eject.map Eject.stage = s.cart.eject.map Eject.stage)
    (item : t.cu.slot.item = s.cu.slot.item) (work : t.cu.slot.work = s.cu.slot.work)
    (still : s.spin.state = .stopped → s.pos.state = .parked →
      t.spin.state = .stopped ∧ t.pos.state = .parked) : LatchOk t := by
  obtain ⟨law, free⟩ := ok
  refine ⟨fun l => ?_, by simpa only [item, work] using free⟩
  obtain ⟨rel, stopped, parked, busy, ejects, e, he, hs⟩ := law (latch ▸ l)
  obtain ⟨stopped', parked'⟩ := still stopped parked
  have last : t.cart.eject.map Eject.stage = some .leaveOrJam := by rw [stage, he]; simp [hs]
  obtain ⟨e', he', hs'⟩ := Option.map_eq_some_iff.mp last
  exact ⟨state.trans rel, stopped', parked', item ▸ busy, work.trans ejects, e', he', hs'⟩

theorem finishWith_latch (o : OutcomeCode) (fields : List Byte) (s : State) :
    (finishWith o fields s).cart.latch = s.cart.latch
    ∧ ((finishWith o fields s).cu.slot.item = .free → (finishWith o fields s).cu.slot.work = .idle) := by
  obtain ⟨r, one, -, ⟨-, eq⟩ | eq⟩ | ⟨-, eq⟩ := finishWith_cases o fields s
  · rw [eq]
    exact ⟨rfl, fun _ => rfl⟩
  · rw [eq]
    refine ⟨rfl, fun free => ?_⟩
    have free' : s.cu.slot.item = .free := by simpa using free
    simp [slotCommands, free'] at one
  · rw [eq]
    exact ⟨rfl, fun _ => rfl⟩

theorem Move.latchOk {live : Bool} {s t : State} (h : Move live s t) (ok : LatchOk s) : LatchOk t := by
  cases h with
  | aside h =>
    obtain ⟨mech, -, ⟨-, item, work, -⟩, ⟨state, latch, -, stage⟩, -⟩ := h
    exact ok.of_same state latch stage item work mech.kept.still
  | acts h _ =>
    have cart := h.apart.cart
    have slot := h.apart.slot
    exact ok.of_same (by rw [cart]) (by rw [cart]) (by rw [cart]) (by rw [slot]) (by rw [slot]) h.mech.still
  | start h =>
    refine .of_unlatched ?_ (by simpa using ok.2)
    simpa using ok.unlatched h
  | request => exact ok
  | withdraw => exact ok
  | @work w _ h _ active =>
    refine .of_unlatched (ok.unlatched h) fun free => ?_
    have free : s.cu.slot.item = .free := free
    have idle := ok.2 free
    obtain busy | item := active
    · exact absurd idle busy
    · exact absurd free item
  | @finish o fields _ h =>
    obtain ⟨latch, free⟩ := finishWith_latch o fields s
    exact .of_unlatched (latch.trans (ok.unlatched h)) free
  | restore h =>
    have latch := ok.unlatched_of_work (by simp [h])
    unfold Machine.restore
    split
    · exact .of_unlatched latch fun _ => rfl
    · exact ok
  | cart h => exact .of_unlatched (ok.unlatched h) ok.2
  | eject h => exact .of_unlatched (ok.unlatched h) ok.2
  | latch rel work ejects stopped parked =>
    obtain ⟨e, he⟩ := Option.isSome_iff_exists.mp ejects
    refine ⟨fun _ => ⟨rel, stopped, parked, fun free => ?_, work,
      { e with stage := .leaveOrJam, window := some Config.releaseWindow }, by simp [assertLatch, he], rfl⟩, ok.2⟩
    have idle : s.cu.slot.work = .idle := ok.2 free
    simp [idle] at work
  | unlatch => exact .of_unlatched rfl ok.2
  | shell => exact ok

theorem Event.latchOk {room empties : Prop} {s t : State} (h : Event room empties s t) (ok : LatchOk s) :
    LatchOk t := by
  have open_of_free (free : s.cu.slot.item = .free) : s.cart.latch = false :=
    ok.unlatched_of_work (by simp [ok.2 free])
  cases h with
  | move h => exact h.latchOk ok
  | head free _ => exact .of_unlatched (open_of_free free) fun _ => rfl
  | item free _ _ => exact .of_unlatched (open_of_free free) fun _ => rfl
  | placed waits _ => exact .of_unlatched (ok.unlatched_of_work (by simp [waits])) fun _ => rfl
  | down =>
    unfold countDown
    rw [ackByte_frame]
    refine ok.of_same rfl rfl ?_ rfl rfl fun a b => ⟨a, b⟩
    simp [Function.comp_def]
  | receive => exact ok
  | direct => exact ok
  | join => exact ok
  | accept => exact ok
  | clear => exact ok
  | grant => exact ok
  | silent => exact ok
  | sent => exact ok
  | asked => exact ok

/-! ### What waits outside the part, and RST -/

/-- The commands that wait outside the part, and the level of RST, stay as they are. -/
def SameOutside (s t : State) : Prop := t.pending = s.pending ∧ t.pins.rst = s.pins.rst

theorem Apart.sameOutside {s t : State} (h : Apart s t) : SameOutside s t := by
  obtain ⟨pins, -, -, -, -, -, -, pending, -⟩ := h
  exact ⟨pending, by rw [pins]⟩

theorem Move.sameOutside {live : Bool} {s t : State} (h : Move live s t) : SameOutside s t := by
  cases h with
  | aside h =>
    obtain ⟨-, -, -, -, -, -, pending, rst, -⟩ := h
    exact ⟨pending, rst⟩
  | acts h _ => exact h.apart.sameOutside
  | start => exact (startRequest_apart s).sameOutside
  | @finish o fields _ _ =>
    obtain ⟨r, -, -, ⟨-, eq⟩ | eq⟩ | ⟨-, eq⟩ := finishWith_cases o fields s <;> rw [eq] <;> exact ⟨rfl, rfl⟩
  | restore =>
    unfold Machine.restore
    split <;> exact ⟨rfl, rfl⟩
  | request => exact ⟨rfl, rfl⟩
  | withdraw => exact ⟨rfl, rfl⟩
  | work => exact ⟨rfl, rfl⟩
  | cart => exact ⟨rfl, rfl⟩
  | eject => exact ⟨rfl, rfl⟩
  | latch => exact ⟨rfl, rfl⟩
  | unlatch => exact ⟨rfl, rfl⟩
  | shell => exact ⟨rfl, rfl⟩

theorem Event.sameOutside {room empties : Prop} {s t : State} (h : Event room empties s t) :
    SameOutside s t := by
  cases h with
  | move h => exact h.sameOutside
  | receive _ _ _ _ _ rst => exact ⟨rfl, rst⟩
  | down =>
    unfold countDown
    rw [ackByte_frame]
    exact ⟨rfl, rfl⟩
  | direct => exact ⟨rfl, rfl⟩
  | join => exact ⟨rfl, rfl⟩
  | accept => exact ⟨rfl, rfl⟩
  | clear => exact ⟨rfl, rfl⟩
  | grant => exact ⟨rfl, rfl⟩
  | silent => exact ⟨rfl, rfl⟩
  | sent => exact ⟨rfl, rfl⟩
  | asked => exact ⟨rfl, rfl⟩
  | head => exact ⟨rfl, rfl⟩
  | item => exact ⟨rfl, rfl⟩
  | placed => exact ⟨rfl, rfl⟩

theorem Events.sameOutside {room empties : Prop} {s t : State} (run : Events room empties s t) :
    SameOutside s t := by
  induction run with
  | refl => exact ⟨rfl, rfl⟩
  | tail _ e ih => exact ⟨e.sameOutside.1.trans ih.1, e.sameOutside.2.trans ih.2⟩

theorem Events.pending {room empties : Prop} {s t : State} (run : Events room empties s t) :
    t.pending = s.pending := run.sameOutside.1

theorem Events.rst {room empties : Prop} {s t : State} (run : Events room empties s t) :
    t.pins.rst = s.pins.rst := run.sameOutside.2

/-! ### The fault slot along a row that does not empty it -/

theorem Events.slotKept {s t : State} (run : Events False False s t) : SlotKept s.fault.slot t.fault.slot := by
  induction run with
  | refl => exact .rfl _
  | tail _ e ih =>
    obtain laws | ⟨never, -⟩ := e.laws
    · exact ih.trans laws.slot
    · exact never.elim

end Sys2Proof.Machine

/-! ## Proofs: no answer is left under way -/

namespace Sys2Proof.Machine

/-- The row leaves no answer under way where none was. -/
def Clean (f : State → State) : Prop := ∀ s, NoMail s → NoMail (f s)

theorem clean_settle (f : State → State) : Clean fun s => settle (f s) := fun _ _ => rfl

theorem unlessReset_clean {f : State → State} (h : Clean f) : Clean (unlessReset f) := by
  intro s ok
  unfold unlessReset
  split
  · exact ok
  · exact h s ok

theorem receiveErrs_clean : Clean receiveErrs := by
  intro s ok
  unfold receiveErrs
  simp only
  split <;> exact ok

theorem receiveCommand_clean {f : State → State} (h : Clean f) : Clean (receiveCommand f) := by
  intro s ok
  unfold receiveCommand
  split
  · exact ok
  · split
    · exact receiveErrs_clean s ok
    · split
      · exact h _ ok
      · exact ok

theorem doSense_clean (tag : Byte) : Clean (doSense tag) := fun _ ok => ok

theorem doClearAttention_clean (tag : Byte) (causes : BitVec 16) : Clean (doClearAttention tag causes) := by
  intro s ok
  unfold doClearAttention
  split
  · exact ok
  · rfl

theorem doAbort_clean (tag : Byte) : Clean (doAbort tag) := clean_settle _

theorem doHold_clean (tag : Byte) : Clean (doHold tag) := by
  intro s ok
  unfold doHold
  split <;> exact ok

theorem doRelease_clean (tag : Byte) : Clean (doRelease tag) := fun _ ok => ok

theorem doReset_clean (tag : Byte) : Clean (doReset tag) := clean_settle _

theorem takeCommand_clean (body : List Byte) : Clean (takeCommand body) := by
  intro s ok
  unfold takeCommand
  simp only
  split
  · exact ok
  · split
    · exact ok
    · split
      · unfold doImmediate
        split
        · exact ok
        · split
          · exact doClearAttention_clean _ _ s ok
          · split
            · exact doAbort_clean _ s ok
            · split
              · exact doHold_clean _ s ok
              · split
                · exact ok
                · exact doReset_clean _ s ok
      · split <;> exact ok

theorem receiveBody_clean (body : List Byte) : Clean (receiveBody body) := by
  refine receiveCommand_clean ?_
  split
  · exact takeCommand_clean body
  · exact receiveErrs_clean

theorem receiveData_clean (d : List Byte) : Clean (receiveData d) := by
  intro s ok
  unfold receiveData
  split
  · exact ok
  · split
    · exact receiveErrs_clean s ok
    · split
      · exact receiveErrs_clean s ok
      · rfl

theorem receiveError_clean : Clean receiveError := by
  intro s ok
  unfold receiveError
  split
  · exact ok
  · exact receiveErrs_clean s ok

theorem takeByte_clean (data : Byte) : Clean (takeByte data) := by
  intro s ok
  unfold takeByte
  split
  · unfold takeKind
    split
    · exact receiveErrs_clean _ ok
    · exact ok
    · split <;> exact ok
  · exact ok
  · unfold takeLength
    split
    · exact ok
    · exact receiveErrs_clean s ok
  · unfold takeBody
    split
    · exact ok
    · split
      · exact receiveCommand_clean (takeCommand_clean _) s ok
      · exact receiveData_clean _ s ok
  · exact receiveErrs_clean s ok

theorem byteReceived_clean (data : Byte) (dp : Bool) : Clean (byteReceived data dp) := by
  intro s ok
  unfold byteReceived
  split
  · exact ok
  · split
    · exact receiveErrs_clean s ok
    · exact takeByte_clean data _ ok

theorem byteGapExpires_clean : Clean byteGapExpires := by
  intro s ok
  unfold byteGapExpires
  split <;> exact ok

theorem quietExpires_clean : Clean quietExpires := by
  intro s ok
  unfold quietExpires
  split <;> exact ok

theorem grantFrame_clean : Clean grantFrame := by
  intro s ok
  unfold grantFrame
  split <;> exact ok

theorem busGrant_clean : Clean busGrant := by
  intro s ok
  unfold busGrant
  split
  · exact ok
  · simp only
    refine grantFrame_clean _ ?_
    split <;> exact ok

theorem frameSent_clean : Clean frameSent := by
  intro s ok
  unfold frameSent
  split
  · exact ok
  · rfl

theorem kindTakesPlace_clean : Clean kindTakesPlace := by
  intro s ok
  unfold kindTakesPlace
  split <;> exact ok

theorem replyTakesPlace_clean : Clean replyTakesPlace := by
  intro s ok
  unfold replyTakesPlace
  split
  · split <;> exact ok
  · exact ok

theorem runHead_clean (code : Byte) (f : Entry → State → State) : Clean (runHead code f) := by
  intro s ok
  unfold runHead
  split
  · rfl
  · exact ok

theorem takeCancelled_clean : Clean takeCancelled := by
  intro s ok
  unfold takeCancelled
  split
  · split
    · obtain ⟨r, -, -, ⟨-, eq⟩ | eq⟩ | ⟨-, eq⟩ := finishWith_cases .cancelled [] (takeHead _ s) <;>
        rw [eq] <;> rfl
    · exact ok
  · exact ok

theorem takeAutoStart_clean : Clean takeAutoStart := by
  intro s ok
  unfold takeAutoStart
  split
  · rfl
  · exact ok

theorem takeButtonEject_clean : Clean takeButtonEject := by
  intro s ok
  unfold takeButtonEject
  split
  · rfl
  · exact ok

theorem takeTimedWake_clean : Clean takeTimedWake := by
  intro s ok
  unfold takeTimedWake
  split
  · rfl
  · exact ok

theorem takeSoftReset_clean : Clean takeSoftReset := by
  intro s ok
  unfold takeSoftReset
  split
  · exact ok
  · split
    · rfl
    · exact ok

theorem insertShell_clean (a b w : Bool) : Clean (insertShell a b w) := by
  intro s ok
  unfold insertShell
  simp only
  split
  · exact ok
  · split
    · exact ok
    · split <;> exact ok

theorem discardSession_noMail {s : State} (ok : NoMail s) : NoMail (discardSession s) := by
  unfold discardSession
  simp only
  split <;> exact ok

theorem seatedFalls_clean : Clean seatedFalls := by
  intro s ok
  unfold seatedFalls
  simp only
  split
  · rfl
  · split
    · exact discardSession_noMail (s := setCart .empty { s with pins := { s.pins with seated := false } }) ok
    · exact ok

theorem pressButton_clean : Clean pressButton := by
  intro s ok
  unfold pressButton
  split
  · exact ok
  · split
    · exact ok
    · rfl

theorem windowExpires_clean : Clean windowExpires := by
  intro s ok
  unfold windowExpires
  split
  · rfl
  · exact ok

theorem rotate_clean (p : Nat) (sig : ReadSignal) : Clean (rotate p sig) := by
  intro s _
  unfold rotate
  simp only
  split <;> rfl

theorem rotateNext_clean (sig : ReadSignal) : Clean (rotateNext sig) := by
  intro s ok
  unfold rotateNext
  split
  · exact rotate_clean _ sig s ok
  · rfl

theorem indexArrives_clean (sig : ReadSignal) : Clean (indexArrives sig) := by
  intro s _
  unfold indexArrives rotate
  simp only
  split <;> rfl

theorem kickExpires_clean : Clean kickExpires := by
  intro s ok
  unfold kickExpires
  split
  · rfl
  · exact ok

theorem accelSaturates_clean : Clean accelSaturates := by
  intro s ok
  unfold accelSaturates
  split
  · rfl
  · exact ok

theorem spinUpExpires_clean : Clean spinUpExpires := by
  intro s ok
  unfold spinUpExpires
  split
  · rfl
  · rfl
  · rfl
  · exact ok

theorem indexLost_clean : Clean indexLost := by
  intro s ok
  unfold indexLost
  split
  · rfl
  · exact ok

theorem stopExpires_clean : Clean stopExpires := by
  intro s ok
  unfold stopExpires
  split
  · rfl
  · exact ok

theorem brakeExpires_clean : Clean brakeExpires := by
  intro s ok
  unfold brakeExpires
  split
  · rfl
  · exact ok

theorem markStrobes_clean (cyl : Nat) (pe : Int) (withIndex park : Bool) (sig : ReadSignal) :
    Clean (markStrobes cyl pe withIndex park sig) := by
  intro s ok
  unfold markStrobes
  simp only
  split
  · split
    · rfl
    · exact rotateNext_clean sig _ rfl
  · exact ok

theorem missDeclared_clean : Clean missDeclared := by
  intro s ok
  unfold missDeclared
  split
  · exact rotateNext_clean _ _ rfl
  · exact ok

theorem servoLost_clean : Clean servoLost := by
  intro s ok
  unfold servoLost
  split
  · exact rotateNext_clean _ _ rfl
  · exact ok

theorem seekExpires_clean : Clean seekExpires := by
  intro s ok
  unfold seekExpires
  split
  · rfl
  · rfl
  · split
    · exact ok
    · rfl
  · exact ok

theorem loadExpires_clean (park : Bool) : Clean (loadExpires park) := by
  intro s ok
  unfold loadExpires
  split
  · rfl
  · exact ok

theorem retractExpires_clean : Clean retractExpires := by
  intro s ok
  unfold retractExpires
  split
  · rfl
  · exact ok

theorem emergencyExpires_clean : Clean emergencyExpires := by
  intro s ok
  unfold emergencyExpires
  split
  · rfl
  · exact ok

theorem parkSeen_clean : Clean parkSeen := by
  intro s ok
  unfold parkSeen
  simp only
  split
  · rfl
  · exact ok

theorem writeFaults_clean : Clean writeFaults := by
  intro s ok
  unfold writeFaults
  split
  · rfl
  · exact ok

theorem readWaitExpires_clean : Clean readWaitExpires := by
  intro s ok
  unfold readWaitExpires
  split
  · split
    · rfl
    · exact ok
  · exact ok

theorem supplyWarns_clean : Clean supplyWarns := by
  intro s ok
  unfold supplyWarns
  simp only
  split
  · exact ok
  · rfl

theorem restExpires_clean : Clean restExpires := by
  intro s ok
  unfold restExpires
  split <;> exact ok

theorem hardResets_noMail (l : Levels) (s : State) : NoMail (hardResets l s) := by
  unfold hardResets
  split <;> rfl

theorem exec_noMail (c : Instr) {s t : State} (ok : NoMail s) (h : exec c s = .next t) : NoMail t := by
  cases c with
  | commandFrame body =>
    cases h
    exact unlessReset_clean (receiveBody_clean body) s ok
  | dataFrame body =>
    cases h
    exact unlessReset_clean (receiveData_clean body) s ok
  | receiveError e =>
    cases h
    exact unlessReset_clean receiveError_clean s ok
  | byteGapExpiry =>
    cases h
    exact unlessReset_clean byteGapExpires_clean s ok
  | discardQuietExpiry =>
    cases h
    exact unlessReset_clean quietExpires_clean s ok
  | busGrant =>
    cases h
    exact unlessReset_clean busGrant_clean s ok
  | dirLowDuringSend =>
    cases h
    exact unlessReset_clean (f := dirFalls) (fun _ ok => ok) s ok
  | frameSent =>
    cases h
    exact unlessReset_clean frameSent_clean s ok
  | kindByteTakesPlace =>
    cases h
    exact unlessReset_clean kindTakesPlace_clean s ok
  | replyTakesPlace =>
    cases h
    exact unlessReset_clean replyTakesPlace_clean s ok
  | hardReset levels =>
    cases h
    exact hardResets_noMail _ s
  | spinUp =>
    cases h
    exact unlessReset_clean (runHead_clean _ _) s ok
  | spinDown =>
    cases h
    exact unlessReset_clean (runHead_clean _ _) s ok
  | seek =>
    cases h
    exact unlessReset_clean (runHead_clean _ _) s ok
  | read =>
    cases h
    exact unlessReset_clean (runHead_clean _ _) s ok
  | write =>
    cases h
    exact unlessReset_clean (runHead_clean _ _) s ok
  | verify =>
    cases h
    exact unlessReset_clean (runHead_clean _ _) s ok
  | reassign =>
    cases h
    exact unlessReset_clean (runHead_clean _ _) s ok
  | format =>
    cases h
    exact unlessReset_clean (runHead_clean _ _) s ok
  | rest =>
    cases h
    exact unlessReset_clean (runHead_clean _ _) s ok
  | eject =>
    cases h
    exact unlessReset_clean (runHead_clean _ _) s ok
  | readTable =>
    cases h
    exact unlessReset_clean (runHead_clean _ _) s ok
  | setParameter =>
    cases h
    exact unlessReset_clean (runHead_clean _ _) s ok
  | saveSettings =>
    cases h
    exact unlessReset_clean (runHead_clean _ _) s ok
  | saveSettingsReadBack area =>
    cases h
    exact unlessReset_clean (clean_settle _) s ok
  | loadDefaults =>
    cases h
    exact unlessReset_clean (runHead_clean _ _) s ok
  | sense tag =>
    cases h
    exact unlessReset_clean (receiveCommand_clean (doSense_clean tag)) s ok
  | clearAttention tag causes =>
    cases h
    exact unlessReset_clean (receiveCommand_clean (doClearAttention_clean tag causes)) s ok
  | abort tag =>
    cases h
    exact unlessReset_clean (receiveCommand_clean (doAbort_clean tag)) s ok
  | hold tag =>
    cases h
    exact unlessReset_clean (receiveCommand_clean (doHold_clean tag)) s ok
  | release tag =>
    cases h
    exact unlessReset_clean (receiveCommand_clean (doRelease_clean tag)) s ok
  | reset tag =>
    cases h
    exact unlessReset_clean (receiveCommand_clean (doReset_clean tag)) s ok
  | cancelledCommandTakesSlot =>
    cases h
    exact unlessReset_clean takeCancelled_clean s ok
  | autoStart =>
    cases h
    exact unlessReset_clean takeAutoStart_clean s ok
  | buttonEject =>
    cases h
    exact unlessReset_clean takeButtonEject_clean s ok
  | timedWake =>
    cases h
    exact unlessReset_clean takeTimedWake_clean s ok
  | softResetPark =>
    cases h
    exact unlessReset_clean takeSoftReset_clean s ok
  | insertion notchA notchB wprot =>
    cases h
    exact unlessReset_clean (insertShell_clean notchA notchB wprot) s ok
  | seatedFalling =>
    cases h
    exact unlessReset_clean seatedFalls_clean s ok
  | ejectButtonPress =>
    cases h
    exact unlessReset_clean pressButton_clean s ok
  | releaseWindowExpiry =>
    cases h
    exact unlessReset_clean windowExpires_clean s ok
  | indexArrival sig =>
    cases h
    exact unlessReset_clean (indexArrives_clean sig) s ok
  | kickTimerExpiry =>
    cases h
    exact unlessReset_clean kickExpires_clean s ok
  | accelGapSaturation =>
    cases h
    exact unlessReset_clean accelSaturates_clean s ok
  | spinUpTimerExpiry =>
    cases h
    exact unlessReset_clean spinUpExpires_clean s ok
  | indexLoss =>
    cases h
    exact unlessReset_clean indexLost_clean s ok
  | stopTimerExpiry =>
    cases h
    exact unlessReset_clean stopExpires_clean s ok
  | brakeTimerExpiry =>
    cases h
    exact unlessReset_clean brakeExpires_clean s ok
  | markStrobe cylinder pe withIndex park sig =>
    cases h
    exact unlessReset_clean (markStrobes_clean cylinder pe withIndex park sig) s ok
  | missingSampleDeclaration =>
    cases h
    exact unlessReset_clean missDeclared_clean s ok
  | servoLoss =>
    cases h
    exact unlessReset_clean servoLost_clean s ok
  | seekTimeout =>
    cases h
    exact unlessReset_clean seekExpires_clean s ok
  | loadTimerExpiry park =>
    cases h
    exact unlessReset_clean (loadExpires_clean park) s ok
  | retractTimerExpiry =>
    cases h
    exact unlessReset_clean retractExpires_clean s ok
  | emergencyTimerExpiry =>
    cases h
    exact unlessReset_clean emergencyExpires_clean s ok
  | parkRises =>
    cases h
    exact unlessReset_clean parkSeen_clean s ok
  | writeFault =>
    cases h
    exact unlessReset_clean writeFaults_clean s ok
  | dataTimerExpiry =>
    cases h
    exact unlessReset_clean (clean_settle _) s ok
  | gateWaitTimerExpiry =>
    cases h
    exact unlessReset_clean (clean_settle _) s ok
  | formatReadWaitExpiry =>
    cases h
    exact unlessReset_clean readWaitExpires_clean s ok
  | copyAttemptTimerExpiry =>
    cases h
    exact unlessReset_clean (clean_settle _) s ok
  | supwarnFalls =>
    cases h
    exact unlessReset_clean supplyWarns_clean s ok
  | supwarnRises =>
    cases h
    exact unlessReset_clean (f := supplyRecovers) (fun _ ok => ok) s ok
  | restTimerExpiry =>
    cases h
    exact unlessReset_clean restExpires_clean s ok
  | byteReceived data dp =>
    cases h
    exact unlessReset_clean (byteReceived_clean data dp) s ok

/-- A command at the queue head works itself out, whatever its code. -/
theorem runAnyHead_noMail (e : Entry) {s : State} (ok : NoMail s) : NoMail (runAnyHead e s) := by
  have one (f : Entry → State → State) : NoMail (runHead e.code f s) := runHead_clean _ f s ok
  have choose {p : Prop} [Decidable p] {a b : State} (ha : NoMail a) (hb : NoMail b) :
      NoMail (if p then a else b) := by
    split
    · exact ha
    · exact hb
  unfold runAnyHead
  refine choose (one _) ?_
  refine choose (one _) ?_
  refine choose (one _) ?_
  refine choose (one _) ?_
  refine choose (one _) ?_
  refine choose (one _) ?_
  refine choose (one _) ?_
  refine choose (one _) ?_
  refine choose (one _) ?_
  refine choose (one _) ?_
  refine choose (one _) ?_
  refine choose (one _) ?_
  refine choose (one _) ?_
  exact one _

theorem internalStep_noMail {s t : State} (ok : NoMail s) (h : internalStep s = some t) : NoMail t := by
  unfold internalStep at h
  split at h
  · exact Option.some.inj h ▸ replyTakesPlace_clean s ok
  · split at h
    · exact Option.some.inj h ▸ kindTakesPlace_clean s ok
    · split at h
      · split at h
        · exact Option.some.inj h ▸ takeSoftReset_clean s ok
        · split at h
          · exact Option.some.inj h ▸ takeButtonEject_clean s ok
          · split at h
            · split at h
              · exact Option.some.inj h ▸ takeCancelled_clean s ok
              · split at h
                · exact Option.some.inj h ▸ runAnyHead_noMail _ ok
                · cases h
            · split at h
              · exact Option.some.inj h ▸ takeAutoStart_clean s ok
              · split at h
                · exact Option.some.inj h ▸ takeTimedWake_clean s ok
                · cases h
      · cases h

/-- A tick ends with its answers worked out, and with the rest timer. -/
theorem tick_noMail (s : State) : NoMail (tick s) := by
  have last (u : State) : NoMail (expire (fun s => s.rest.timer) restExpires (settle u)) := by
    unfold expire
    split
    · exact restExpires_clean _ rfl
    · rfl
  exact last _

theorem step_noMail {s t : State} (ok : NoMail s) (h : step s = .next t) : NoMail t := by
  unfold step at h
  split at h
  · obtain rfl := Host.Outcome.next.inj h
    refine unlessReset_clean (f := proceed) (fun u hu => ?_) s ok
    unfold proceed
    split
    · exact internalStep_noMail hu ‹_›
    · exact tick_noMail u
  · rename_i c rest _
    exact exec_noMail c (s := { s with pending := rest }) ok h

theorem resetState_bounds (l : Levels) (s : State) : BoundsLaw (resetState l s) := by
  simp [BoundsLaw, placesUsed, resetState, State.reset, Slot.free]

theorem resetState_count (l : Levels) (s : State) : CountLaw (resetState l s) := by
  simp [CountLaw, countBalance, queuedReplies, slotCommands, resetState, State.reset, Slot.free]

theorem bounds_kept {s t : State} (ok : BoundsLaw s) (h : step s = .next t) : BoundsLaw t :=
  kept_of_events (room := True) (empties := True) (P := BoundsLaw) trivial resetState_bounds
    (fun _ _ e => e.bounds) (fun _ ok _ => ok.2.1) (fun _ => id) ok h

theorem count_kept {s t : State} (ok : CountLaw s) (h : step s = .next t) : CountLaw t :=
  kept_of_events (room := False) (empties := True) (P := CountLaw) trivial resetState_count
    (fun _ _ e => e.count) (fun _ _ => False.elim) (fun _ => id) ok h

theorem resetState_tables (l : Levels) (s : State) : tables (resetState l s) := by
  simp [tables, Tables, SessionState.Sound, resetState, State.reset, Mail.none]

theorem resetState_send (l : Levels) (s : State) : SendRange (resetState l s) := by
  simp [SendRange, resetState, State.reset]

theorem resetState_clock (l : Levels) (s : State) : ClockLaw (resetState l s) := by
  simp [ClockLaw, resetState, State.reset]

theorem resetState_session (l : Levels) (s : State) : RecordOk (resetState l s) := by
  simp [RecordOk, SessionOk, resetState, State.reset]

theorem resetState_fault (l : Levels) (s : State) : FaultLaw (resetState l s) := by
  simp [FaultLaw, resetState]

theorem resetState_latch (l : Levels) (s : State) : LatchOk (resetState l s) := by
  refine .of_unlatched ?_ ?_ <;> simp [resetState, State.reset, Slot.free]

theorem tables_kept {s t : State} (ok : tables s) (h : step s = .next t) : tables t :=
  kept_of_events (room := False) (empties := True) (P := tables) trivial resetState_tables
    (fun _ _ e => e.tables) (fun _ _ => False.elim) (fun _ => id) ok h

theorem range_kept {s t : State} (ok : RangeLaw s) (h : step s = .next t) : RangeLaw t := by
  obtain ⟨send, mech⟩ := (rangeLaw_iff s).mp ok
  refine (rangeLaw_iff t).mpr ⟨?_, ?_⟩
  · exact kept_of_events (room := False) (empties := True) (P := SendRange) trivial resetState_send
      (fun _ _ e => e.send) (fun _ _ => False.elim) (fun _ => id) send h
  · exact mech_kept (P := MechRange) resetState_range (fun _ _ l => l.range) (fun _ => id) (fun _ => id) mech h

theorem clock_kept {s t : State} (ok : ClockLaw s) (h : step s = .next t) : ClockLaw t :=
  mech_kept (P := ClockLaw) resetState_clock (fun _ _ l => l.clock) (fun _ => id) (fun _ => id) ok h

theorem session_kept {s t : State} (ok : SessionLaw s) (h : step s = .next t) : SessionLaw t :=
  (sessionLaw_iff t).mpr <|
    kept_of_events (room := False) (empties := True) (P := RecordOk) trivial resetState_session
      (fun _ _ e => e.session) (fun _ _ => False.elim) (fun _ => id) ((sessionLaw_iff s).mp ok) h

theorem fault_kept {s t : State} (ok : FaultLaw s) (h : step s = .next t) : FaultLaw t :=
  mech_kept (P := FaultLaw) resetState_fault (fun _ _ l => l.slot.2) (fun _ _ => nofun) (fun _ => id) ok h

theorem latch_kept {s t : State} (ok : LatchOk s) (h : step s = .next t) : LatchOk t :=
  kept_of_events (room := False) (empties := True) (P := LatchOk) trivial resetState_latch
    (fun _ _ e => e.latchOk) (fun _ _ => False.elim) (fun _ => id) ok h

end Sys2Proof.Machine

namespace Sys2Proof

open Machine

/-- Settles O6: each event of a row keeps the bounds and the count. -/
theorem queueOutboxAndCountKept : Obligations.QueueOutboxAndCountKept :=
  ⟨fun _ _ => bounds_kept, fun _ _ => count_kept⟩

/-- Settles O7: each event of a row keeps the tables consistent, and no answer of a load is left under
way. -/
theorem zoneTableLawKept : Obligations.ZoneTableLawKept := by
  intro s t quiet ok h
  have before : tables s := (zonesLaw_iff s (by rw [quiet]; rfl)).mp ok
  exact (zonesLaw_iff t (by rw [step_noMail quiet h]; rfl)).mpr (tables_kept before h)

/-- Settles O8: the ranges and the clock law by the operations of the mechanism, the session law and the frame
being sent by the events, the fault law by the slot's rule, and no answer is left under way. -/
theorem rangesClockSessionAndFaultLawsKept : Obligations.RangesClockSessionAndFaultLawsKept :=
  ⟨fun _ _ => range_kept, fun _ _ => clock_kept, fun _ _ => session_kept, fun _ _ => fault_kept,
    fun _ _ => step_noMail⟩

/-- Settles O10: no event moves a mechanism at rest under an asserted latch, and the latch falls before its
eject ends. -/
theorem latchLawKept : Obligations.LatchLawKept := by
  intro s t context ok h
  obtain ⟨free, -⟩ := context
  exact (latch_kept ⟨ok, free⟩ h).1

/-- Settles O2: every row answers a next state, and no event touches the commands that wait outside. -/
theorem everyCommandCompletes : Obligations.EveryCommandCompletes := by
  have row (c : Instr) (s : State) : ∃ t, exec c s = .next t ∧ t.pending = s.pending := by
    obtain ⟨t, h⟩ : ∃ t, exec c s = .next t := by cases c <;> exact ⟨_, rfl⟩
    refine ⟨t, h, ?_⟩
    by_cases hard : ∃ l, c = .hardReset l
    · obtain ⟨l, rfl⟩ := hard
      obtain rfl := Host.Outcome.next.inj h
      exact (hardResets_events (room := False) (empties := True) l s).pending
    · exact (exec_events (room := False) (empties := True) c (fun l hl => hard ⟨l, hl⟩) False.elim
        (fun _ => trivial) h).pending
  refine ⟨row, fun s => ?_⟩
  unfold step
  split
  · rename_i none
    refine ⟨_, rfl, ?_⟩
    rw [none]
    exact (idle_events (room := False) (empties := True) s).pending.trans none
  · rename_i c rest front
    obtain ⟨t, h, pending⟩ := row c { s with pending := rest }
    exact ⟨t, h, by rw [pending, front]; rfl⟩

/-- Settles O12: no event of such a row empties the slot, and every offer keeps its record or replaces it by
one of higher priority. -/
theorem faultRecordKept : Obligations.FaultRecordKept := by
  intro s t r ok held rows h
  obtain ⟨l, rest, front, -⟩ | run :=
    step_cases (room := False) (empties := False) False.elim (.inl rows) h
  · cases rows _ _ front
  · obtain ⟨r', slot, out, count⟩ := run.slotKept.1 r held
    exact ⟨r', slot, (count (ok r held).2).1, out⟩

end Sys2Proof

/-! ## Proofs: the drive link -/

namespace Sys2Proof.Machine

/-! ### Rows with RST released -/

/-- A row's meaning with RST released. -/
theorem next_of_released {f : State → State} {s t : State} (rst : s.pins.rst = false) (h : f s = t) :
    (.next (unlessReset f s) : Host.Outcome State Fault Refusal) = .next t := by
  rw [unlessReset_released f s rst, h]

theorem placeFree_iff (s : State) : placeFree s = true ↔ placesUsed s < 8 :=
  decide_eq_true_iff

theorem not_placeFree_iff (s : State) : placeFree s = false ↔ 8 ≤ placesUsed s :=
  decide_eq_false_iff_not.trans Nat.not_lt

/-! ### Receiving -/

/-- A frame that can be received whole has the effects of its command. -/
theorem receiveCommand_of_receives {s : State} (f : State → State) (h : Receives s) :
    receiveCommand f s = f (received s) := by
  obtain ⟨-, send, assembly, place⟩ := h
  have room : (s.link.heldFrame || placeFree s) = true := by
    simpa only [Bool.or_eq_true, placeFree_iff] using place
  simp only [receiveCommand, send, Option.isSome_none, Bool.false_eq_true, if_false, assembly, room, if_true]
  rfl

/-- Outside DISCARD a receive error leads there. -/
theorem receiveErrs_of_live {s : State} (h : s.link.assembly ≠ .discard) : receiveErrs s = discarded s := by
  simp only [receiveErrs, h, if_false]
  rfl

/-- In DISCARD a receive error starts the quiet time again. -/
theorem receiveErrs_of_discard {s : State} (h : s.link.assembly = .discard) :
    receiveErrs s = { s with pins := { s.pins with dir := false }
                             link := { s.link with quiet := some 100000 } } := by
  simp only [receiveErrs, h, if_true]
  rfl

/-- What a body of a legal length does once its place is found. -/
theorem receiveBody_of_receives {body : List Byte} {s : State} (h : Receives s)
    (fits : 2 ≤ body.length ∧ body.length ≤ 14) : receiveBody body s = takeCommand body (received s) := by
  have ok : lengthFits .command body.length = true := by simp [lengthFits, fits]
  simp only [receiveBody, ok, if_true, receiveCommand_of_receives _ h]

theorem isImmediate_of_lt {code : Byte} (h : code.toNat < 0x30) : isImmediate code = false := by
  simp only [isImmediate, decide_eq_false_iff_not, Nat.not_le]
  exact h

/-- The parameters of a known command are at most six bytes. -/
theorem paramLength_le {code : Byte} {n : Nat} (h : paramLength code = some n) : n ≤ 6 := by
  unfold paramLength at h
  split at h <;> simp only [Option.some.injEq, reduceCtorEq] at h <;> omega

theorem takeCommand_unknown {code tag : Byte} {params : List Byte} (s : State) (h : paramLength code = none) :
    takeCommand (code :: tag :: params) s
      = replied { tag, code, outcome := .unknownCommand, fields := [], queued := false } s := by
  simp only [takeCommand, List.getD_cons_zero, h]
  rfl

theorem takeCommand_misfit {code tag : Byte} {params : List Byte} (s : State) {n : Nat}
    (h : paramLength code = some n) (misfit : n ≠ params.length) :
    takeCommand (code :: tag :: params) s
      = replied { tag, code, outcome := .badParameter, fields := [], queued := false } s := by
  have : (List.drop 2 (code :: tag :: params)).length ≠ n := misfit.symm
  simp only [takeCommand, List.getD_cons_zero, h, this, ne_eq, not_false_eq_true, if_true]
  rfl

/-- A queued command with its parameters joins the queue, or finds it full. -/
theorem takeCommand_queued {code tag : Byte} {params : List Byte} (s : State)
    (h : paramLength code = some params.length) (low : code.toNat < 0x30) :
    takeCommand (code :: tag :: params) s
      = if 4 ≤ s.cu.queue.length then
          replied { tag, code, outcome := .queueFull, fields := [], queued := false } s
        else accept { code, tag, params, cancelled := false } s := by
  simp only [takeCommand, List.getD_cons_zero, List.getD_cons_succ, h, List.drop_succ_cons, List.drop_zero,
    ne_eq, not_true_eq_false, if_false, isImmediate_of_lt low, Bool.false_eq_true]
  rfl

/-- DATA_FRAME with the bus free and outside DISCARD. -/
theorem receiveData_of_live {d : List Byte} {s : State} (send : s.link.send = none)
    (live : s.link.assembly ≠ .discard) :
    receiveData d s = if d.length = 512 then settle (takeData d (received s)) else discarded s := by
  simp only [receiveData, send, Option.isSome_none, Bool.false_eq_true, if_false, live]
  by_cases h : d.length = 512
  · have : ¬ d.length ≠ Config.sectorBytes := fun no => no h
    rw [if_neg this, if_pos h]
    rfl
  · have : d.length ≠ Config.sectorBytes := h
    rw [if_pos this, if_neg h, receiveErrs_of_live live]

/-- A data frame answers the oldest request of a WRITE at work. -/
theorem takeData_of_going {d : List Byte} {s : State} {o : Outstanding} {rest : List Outstanding} {t : Transfer}
    (out : s.chan.outstanding = o :: rest) (work : s.chan.transfer = some t) (going : t.hasEnded = false) :
    takeData d s = requestData (setSlotOf o.idx (.holding o.idx d)
      { s with chan := { s.chan with outstanding := rest } }) := by
  simp only [takeData, out, work, going, Bool.false_eq_true, if_false]

theorem receiveData_of_discard {s : State} (d : List Byte) (send : s.link.send = none)
    (h : s.link.assembly = .discard) : receiveData d s = receiveErrs s := by
  simp only [receiveData, send, Option.isSome_none, Bool.false_eq_true, if_false, h, if_true]

theorem receiveError_of_free {s : State} (send : s.link.send = none) : receiveError s = receiveErrs s := by
  simp only [receiveError, send, Option.isSome_none, Bool.false_eq_true, if_false]

/-- While the part sends no frame is received. -/
theorem receiveCommand_of_sending {s : State} (f : State → State) (h : s.link.send.isSome = true) :
    receiveCommand f s = s := by
  simp only [receiveCommand, h, if_true]

/-- In DISCARD a frame is thrown away. -/
theorem receiveCommand_of_discard {s : State} (f : State → State) (send : s.link.send = none)
    (h : s.link.assembly = .discard) : receiveCommand f s = receiveErrs s := by
  simp only [receiveCommand, send, Option.isSome_none, Bool.false_eq_true, if_false, h, if_true]

/-- A frame that finds no place waits at its kind byte. -/
theorem receiveCommand_of_full {s : State} (f : State → State) (send : s.link.send = none)
    (live : s.link.assembly ≠ .discard) (held : s.link.heldFrame = false) (full : 8 ≤ placesUsed s) :
    receiveCommand f s = { s with link := { s.link with kindWaiting := true } } := by
  simp only [receiveCommand, send, Option.isSome_none, Bool.false_eq_true, if_false, live, held,
    (not_placeFree_iff s).mpr full, Bool.or_false]

end Sys2Proof.Machine

namespace Sys2Proof

open Machine

/-- Settles O24: the five steps on a frame's body, each by its own equation. -/
theorem commandFrameTaken : Obligations.CommandFrameTaken := by
  refine ⟨?_, ⟨?_, ?_⟩, ?_⟩
  · intro code tag params s ok known low room
    refine next_of_released ok.1 ?_
    have short := paramLength_le known
    have fits : 2 ≤ (code :: tag :: params).length ∧ (code :: tag :: params).length ≤ 14 := by
      simp only [List.length_cons]; omega
    rw [receiveBody_of_receives ok fits, takeCommand_queued _ known low]
    exact if_neg (Nat.not_le.mpr room)
  · intro code tag params s ok short
    have fits : 2 ≤ (code :: tag :: params).length ∧ (code :: tag :: params).length ≤ 14 := by
      simp only [List.length_cons]; omega
    refine ⟨fun unknown => next_of_released ok.1 ?_, fun n known misfit => next_of_released ok.1 ?_,
      fun known low full => next_of_released ok.1 ?_⟩
    · rw [receiveBody_of_receives ok fits, takeCommand_unknown _ unknown]
    · rw [receiveBody_of_receives ok fits, takeCommand_misfit _ known misfit]
    · rw [receiveBody_of_receives ok fits, takeCommand_queued _ known low]
      exact if_pos full
  · intro body s misfit ok
    refine next_of_released ok.1 ?_
    have bad : lengthFits .command body.length = false := by
      simp only [lengthFits, Bool.and_eq_false_iff, decide_eq_false_iff_not]; omega
    have live : (received s).link.assembly ≠ .discard := nofun
    simp only [receiveBody, bad, Bool.false_eq_true, if_false, receiveCommand_of_receives _ ok]
    rw [receiveErrs_of_live live]
    rfl
  · intro tag a b s
    exact ⟨rfl, rfl, rfl, rfl, rfl, rfl⟩

/-- Settles O25: a data frame by the oldest request, and each other row by the state of the assembly. -/
theorem dataFramesAndErrorsTaken : Obligations.DataFramesAndErrorsTaken := by
  refine ⟨fun d s rst send live => ⟨?_, ?_, ?_, ?_⟩, fun e body s rst => ⟨?_, ?_, ?_, ?_, ?_, ?_, ?_⟩⟩
  · intro o rest t size out work save drain
    refine next_of_released rst ?_
    have going : t.hasEnded = false := by simp [Transfer.hasEnded, save, drain]
    have out' : (received s).chan.outstanding = o :: rest := out
    have work' : (received s).chan.transfer = some t := work
    rw [receiveData_of_live send live, if_pos size]
    rw [takeData_of_going out' work' going]
    rfl
  · intro o rest size out over_
    refine next_of_released rst ?_
    have out' : (received s).chan.outstanding = o :: rest := out
    rw [receiveData_of_live send live, if_pos size]
    simp only [takeData, out']
    cases work : s.chan.transfer with
    | none =>
      have work' : (received s).chan.transfer = none := work
      simp only [work']
      rfl
    | some t =>
      have work' : (received s).chan.transfer = some t := work
      have gone : t.hasEnded = true := by
        rcases over_ t work with h | h <;> simp [Transfer.hasEnded, h]
      simp only [work', gone, if_true]
      rfl
  · intro size out
    refine next_of_released rst ?_
    have out' : (received s).chan.outstanding = [] := out
    rw [receiveData_of_live send live, if_pos size]
    simp only [takeData, out']
    rfl
  · intro size
    refine next_of_released rst ?_
    rw [receiveData_of_live send live, if_neg size]
  · intro send live
    refine next_of_released rst ?_
    exact (receiveError_of_free send).trans (receiveErrs_of_live live)
  · intro send discard
    refine ⟨next_of_released rst ?_, next_of_released rst ?_, next_of_released rst ?_⟩
    · exact (receiveError_of_free send).trans (receiveErrs_of_discard discard)
    · exact (receiveCommand_of_discard _ send discard).trans (receiveErrs_of_discard discard)
    · exact (receiveData_of_discard _ send discard).trans (receiveErrs_of_discard discard)
  · intro send
    refine ⟨next_of_released rst ?_, next_of_released rst ?_, next_of_released rst ?_⟩
    · simp only [receiveError, send, if_true]
    · exact receiveCommand_of_sending _ send
    · simp only [receiveData, send, if_true]
  · intro mid
    refine next_of_released rst ?_
    simp only [byteGapExpires, mid, if_true]
    rfl
  · intro out
    refine next_of_released rst ?_
    simp only [byteGapExpires, out, Bool.false_eq_true, if_false]
  · intro discard
    refine next_of_released rst ?_
    simp only [quietExpires, discard, if_true]
    rfl
  · intro live
    refine next_of_released rst ?_
    simp only [quietExpires, live, if_false]

end Sys2Proof

namespace Sys2Proof.Machine

/-! ### Bus turns -/

/-- DIR has turned high with no frame being sent: the frame in reception is gone, with PROTOCOL if it was
under way (R192, R190). -/
def granted (s : State) : State :=
  { s with
    pins := { s.pins with dir := true }
    link := { s.link with assembly := .idle, gap := none, quiet := none, heldFrame := false,
                          kindWaiting := false }
    cu := { s.cu with
      attention := if midFrame s then s.cu.attention ||| 0x0200#16 else s.cu.attention } }

theorem busGrant_of_free {s : State} (send : s.link.send = none) : busGrant s = grantFrame (granted s) := by
  have free : ¬ s.link.send.isSome = true := by rw [send]; nofun
  unfold busGrant granted
  rw [if_neg free]
  cases mid : midFrame s <;> simp only [Bool.false_eq_true, if_false, if_true] <;> rfl

theorem grantFrame_reply {s : State} {r : Reply} {rest : List Reply} (h : s.link.outbox = r :: rest) :
    grantFrame s = { s with link := { s.link with send := some (.reply r), acked := 0 } } := by
  unfold grantFrame
  rw [h]

theorem grantFrame_request {s : State} {tag : Byte} {i : Nat} {rest : List (Byte × Nat)}
    (out : s.link.outbox = []) (h : s.link.line = (tag, i) :: rest) :
    grantFrame s = { s with link := { s.link with send := some (.request tag i), acked := 0 } } := by
  unfold grantFrame
  rw [out, h]

theorem grantFrame_data {s : State} {i : Nat} {d : List Byte} (out : s.link.outbox = [])
    (line : s.link.line = []) (h : readyFrame s = some (i, d)) :
    grantFrame s = { s with link := { s.link with send := some (.data i d), acked := 0 }
                            chan := { s.chan with readyTimer := none } } := by
  unfold grantFrame
  rw [out, line, h]

theorem grantFrame_none {s : State} (out : s.link.outbox = []) (line : s.link.line = [])
    (h : readyFrame s = none) : grantFrame s = s := by
  unfold grantFrame
  rw [out, line, h]

/-- With RST released, REQ is low with no frame waiting. -/
theorem req_false_iff {s : State} (rst : s.pins.rst = false) :
    req s = false ↔ s.link.outbox = [] ∧ s.link.line = [] ∧ readyFrame s = none := by
  simp [req, rst, Bool.or_eq_false_iff, and_assoc]

theorem req_true_iff (s : State) :
    req s = true ↔ s.pins.rst = false ∧ (s.link.outbox ≠ [] ∨ s.link.line ≠ [] ∨ readyFrame s ≠ none) := by
  simp [req, Option.isSome_iff_ne_none, or_assoc]

/-! ### Frames sent -/

/-- The part has stopped sending (R192). -/
def silent (s : State) : State := { s with link := { s.link with send := none, acked := 0 } }

theorem frameSent_reply {s : State} {r : Reply} (h : s.link.send = some (.reply r)) :
    frameSent s = settle (replySent r (silent s)) := by
  simp only [frameSent, h]; rfl

theorem frameSent_request {s : State} {tag : Byte} {i : Nat} (h : s.link.send = some (.request tag i)) :
    frameSent s = settle (requestSent tag i (silent s)) := by
  simp only [frameSent, h]; rfl

theorem frameSent_withdrawn {s : State} {tag : Byte} {i : Nat} (h : s.link.send = some (.withdrawn tag i)) :
    frameSent s = settle (silent s) := by
  simp only [frameSent, h]; rfl

theorem frameSent_data {s : State} {i : Nat} {d : List Byte} (h : s.link.send = some (.data i d)) :
    frameSent s = settle (dataSent i (silent s)) := by
  simp only [frameSent, h]; rfl

theorem requestSent_front {s : State} {tag : Byte} {i : Nat} {rest : List (Byte × Nat)}
    (h : s.link.line = (tag, i) :: rest) :
    requestSent tag i s = { s with
      link := { s.link with line := rest }
      chan := { s.chan with outstanding := s.chan.outstanding
        ++ [{ idx := i, timer := some (s.set.active.timeout * 1000000) }] } } := by
  have front : s.link.line.head? = some (tag, i) := by rw [h]; rfl
  have tail : s.link.line.tail = rest := by rw [h]; rfl
  rw [← tail]
  exact if_pos front

theorem requestSent_gone {s : State} {tag : Byte} {i : Nat} (h : s.link.line.head? ≠ some (tag, i)) :
    requestSent tag i s = s := if_neg h

@[simp] theorem setSlotOf_transfer (i : Nat) (b : BufSlot) (s : State) :
    (setSlotOf i b s).chan.transfer = s.chan.transfer := by
  unfold setSlotOf
  split
  · rfl
  · split <;> rfl

@[simp] theorem setSlotOf_set (i : Nat) (b : BufSlot) (s : State) : (setSlotOf i b s).set = s.set := by
  unfold setSlotOf
  split
  · rfl
  · split <;> rfl

/-! ### Places -/

theorem kindTakesPlace_of_place {s : State} (waits : s.link.kindWaiting = true) (place : placesUsed s < 8) :
    kindTakesPlace s = { s with link := { s.link with
      assembly := .kind .command, gap := some 100000, heldFrame := true, kindWaiting := false } } := by
  simp only [kindTakesPlace, waits, (placeFree_iff s).mpr place, Bool.and_self, if_true]
  rfl

theorem replyTakesPlace_of_place {s : State} {r : Reply} (waits : s.cu.slot.work = .replying r)
    (place : placesUsed s < 8) :
    replyTakesPlace s = replied r { s with cu := { s.cu with slot := Slot.free } } := by
  simp only [replyTakesPlace, waits, (placeFree_iff s).mpr place, if_true]
  rfl

theorem replyTakesPlace_of_full {s : State} {r : Reply} (waits : s.cu.slot.work = .replying r)
    (full : 8 ≤ placesUsed s) : replyTakesPlace s = s := by
  simp only [replyTakesPlace, waits, (not_placeFree_iff s).mpr full, Bool.false_eq_true, if_false]

theorem replyTakesPlace_of_none {s : State} (h : ∀ r, s.cu.slot.work ≠ .replying r) :
    replyTakesPlace s = s := by
  unfold replyTakesPlace
  split
  · exact absurd ‹_› (h _)
  · rfl

/-! ### Bytes received -/

theorem byteReceived_of_sending {b : Byte} {dp : Bool} {s : State} (h : s.link.send.isSome = true) :
    byteReceived b dp s = s := by
  simp only [byteReceived, h, if_true]

theorem byteReceived_of_even {b : Byte} {s : State} (send : s.link.send = none) :
    byteReceived b (!oddParity b) s = receiveErrs s := by
  simp [byteReceived, send]

theorem byteReceived_of_odd {b : Byte} {s : State} (send : s.link.send = none) :
    byteReceived b (oddParity b) s = takeByte b { s with pins := { s.pins with dir := false } } := by
  simp [byteReceived, send]

theorem byteReceived_of_discard {b : Byte} {dp : Bool} {s : State} (send : s.link.send = none)
    (h : s.link.assembly = .discard) : byteReceived b dp s = receiveErrs s := by
  simp only [byteReceived, send, Option.isSome_none, Bool.false_eq_true, if_false, takeByte, h]
  split
  · rfl
  · simp only [receiveErrs, h, if_true]

theorem takeKind_of_command {s : State} (place : placesUsed s < 8) :
    takeKind 0xA1#8 s = { s with link := { s.link with
      assembly := .kind .command, gap := some 100000, heldFrame := true } } := by
  simp only [takeKind, kindOf, if_true, (placeFree_iff s).mpr place]
  rfl

theorem takeKind_of_full {s : State} (full : 8 ≤ placesUsed s) :
    takeKind 0xA1#8 s = { s with link := { s.link with kindWaiting := true } } := by
  simp only [takeKind, kindOf, if_true, (not_placeFree_iff s).mpr full, Bool.false_eq_true, if_false]

theorem takeKind_of_other {b : Byte} (s : State) (command : b ≠ 0xA1#8) (data : b ≠ 0xA4#8) :
    takeKind b s = receiveErrs s := by
  simp only [takeKind, kindOf, command, data, if_false]

theorem takeByte_idle {b : Byte} {s : State} (h : s.link.assembly = .idle) :
    takeByte b s = takeKind b { s with link := { s.link with kindWaiting := false } } := by
  unfold takeByte
  rw [h]

theorem takeByte_kind {b : Byte} {s : State} {k : FrameKind} (h : s.link.assembly = .kind k) :
    takeByte b s = assemble (.length k b) s := by
  unfold takeByte
  rw [h]

theorem takeByte_length {b hi : Byte} {s : State} {k : FrameKind} (h : s.link.assembly = .length k hi) :
    takeByte b s = if lengthFits k (hi.toNat * 256 + b.toNat) then
      assemble (.body k (hi.toNat * 256 + b.toNat) []) s else receiveErrs s := by
  unfold takeByte
  rw [h]
  rfl

theorem takeByte_body {b : Byte} {s : State} {k : FrameKind} {n : Nat} {bs : List Byte}
    (h : s.link.assembly = .body k n bs) : takeByte b s = takeBody k n (bs ++ [b]) s := by
  unfold takeByte
  rw [h]

theorem takeBody_short {k : FrameKind} {n : Nat} {bs : List Byte} (s : State) (h : bs.length < n) :
    takeBody k n bs s = assemble (.body k n bs) s := by
  simp only [takeBody, h, if_true]

/-! ### Parity -/

/-- DP makes the number of ones odd (R188). -/
theorem oddParity_odd (b : Byte) :
    ((List.range 8).countP (fun i => b.getLsbD i) + (if oddParity b then 1 else 0)) % 2 = 1 := by
  unfold oddParity
  generalize (List.range 8).countP (fun i => b.getLsbD i) = n
  by_cases even : n % 2 = 0
  · simp only [even, beq_self_eq_true, if_true]; omega
  · simp only [beq_iff_eq, even, if_false]; omega

/-! ### The tick of the handshake -/

theorem countDown_send (s : State) : (countDown s).link.send = s.link.send := by
  cases h : s.link.send <;> simp only [countDown, ackByte, h]

theorem countDown_acked {s : State} {f : Outbound} (h : s.link.send = some f)
    (range : s.link.acked < f.bytes.length) :
    (countDown s).link.acked
      = if Config.hostAcknowledges s.freeUsed = true ∧ s.link.acked + 1 < f.bytes.length then
          s.link.acked + 1 else s.link.acked := by
  have acked : (countDown s).link.acked
      = if Config.hostAcknowledges s.freeUsed then min (s.link.acked + 1) (f.bytes.length - 1)
        else s.link.acked := by
    simp only [countDown, ackByte, h]
  rw [acked]
  by_cases host : Config.hostAcknowledges s.freeUsed = true
  · simp only [host, if_true, true_and]
    split <;> omega
  · simp only [host, Bool.false_eq_true, if_false, false_and]

theorem countDown_freeUsed {s : State} {f : Outbound} (h : s.link.send = some f) :
    (countDown s).freeUsed = s.freeUsed + 1 := by
  simp only [countDown, ackByte, h]

theorem countDown_of_free {s : State} (h : s.link.send = none) :
    (countDown s).link.acked = s.link.acked ∧ (countDown s).freeUsed = s.freeUsed := by
  simp only [countDown, ackByte, h, and_self]

/-- While RST stays asserted no row but HARD_RESET acts (R193). -/
theorem exec_of_asserted {c : Instr} {s : State} (rst : s.pins.rst = true) (soft : ∀ l, c ≠ .hardReset l) :
    exec c s = .next s := by
  have still (f : State → State) : (.next (unlessReset f s) : Host.Outcome State Fault Refusal) = .next s := by
    rw [unlessReset_asserted f s rst]
  cases c
  case hardReset l => exact absurd rfl (soft l)
  all_goals exact still _

end Sys2Proof.Machine

namespace Sys2Proof

open Machine

/-- Settles O26: the grant ends the frame in reception, and then sends the frame that goes first. -/
theorem busGrantSends : Obligations.BusGrantSends := by
  intro s rst l a u
  refine ⟨fun send => next_of_released rst ?_, fun r rest send out => next_of_released rst ?_,
    fun tag i rest send out line => next_of_released rst ?_,
    fun i d send out line ready => next_of_released rst ?_, fun send low => next_of_released rst ?_⟩
  · simp only [busGrant, send, if_true]
  · exact (busGrant_of_free send).trans (grantFrame_reply (s := granted s) out)
  · exact (busGrant_of_free send).trans (grantFrame_request (s := granted s) out line)
  · exact (busGrant_of_free send).trans (grantFrame_data (s := granted s) out line ready)
  · obtain ⟨out, line, ready⟩ := (req_false_iff rst).mp low
    exact (busGrant_of_free send).trans (grantFrame_none (s := granted s) out line ready)

/-- Settles O27: each kind of frame by its own row of `frameSent_of_some`. -/
theorem framesLeave : Obligations.FramesLeave := by
  intro s rst l
  refine ⟨next_of_released rst rfl, fun send => next_of_released rst ?_,
    fun r send => next_of_released rst ?_, fun tag i rest send line => next_of_released rst ?_,
    fun tag i send => ?_, fun i d send idle => next_of_released rst ?_,
    fun i d t send work => next_of_released rst ?_⟩
  · simp only [frameSent, send]
  · exact frameSent_reply send
  · exact (frameSent_request send).trans (congrArg settle (requestSent_front (s := silent s) line))
  · obtain send | ⟨send, front⟩ := send
    · exact next_of_released rst (frameSent_withdrawn send)
    · exact next_of_released rst
        ((frameSent_request send).trans (congrArg settle (requestSent_gone (s := silent s) front)))
  · rw [frameSent_data send]
    simp only [dataSent, setSlotOf_transfer]
    have none' : (silent s).chan.transfer = none := idle
    rw [none']
    rfl
  · have work' : (silent s).chan.transfer = some t := work
    rw [frameSent_data send]
    simp only [dataSent, setSlotOf_transfer, work', dataTimeout, setTransfer, setSlotOf_set]
    rfl

/-- Settles O28: each output by its definition, the acknowledged bytes by the tick of the handshake, and the
state under RST by `exec_of_asserted`. -/
theorem outputsFollow : Obligations.OutputsFollow := by
  intro s
  refine ⟨by simp [atn], req_true_iff s, ?_, ?_, ?_, countDown_of_free, ?_, ?_, ?_, ?_, ?_, ?_⟩
  · rintro (send | rst)
    · simp only [driven, send]
    · cases send : s.link.send <;> simp only [driven, send, rst, if_true]
  · intro f b send rst front
    refine ⟨oddParity b, ?_, oddParity_odd b⟩
    simp only [driven, send, rst, Bool.false_eq_true, if_false, front, Option.map_some]
  · intro f send range
    exact ⟨countDown_acked send (range.1 f send), (countDown_send s).trans send, countDown_freeUsed send⟩
  · intro r
    have length : r.body.length = 3 + r.fields.length := by simp only [Reply.body, List.length_cons]; omega
    simp only [Outbound.bytes, frameBytes, length, List.cons_append]
    rfl
  · intro tag i
    simp only [Outbound.bytes, frameBytes, be16, byte, List.length_cons, List.length_nil]
    exact ⟨rfl, rfl⟩
  · intro i d size
    simp only [Outbound.bytes, frameBytes, size]
    rfl
  · cases s.spin.state <;> simp [SpindleState.phase]
  · cases s.spin.state <;> simp [SpindleState.phase]
  · refine fun rst => ⟨fun c soft => exec_of_asserted rst soft, fun front => ?_⟩
    simp only [step, front, idle, unlessReset_asserted _ s rst]

/-- Settles O29: the places by whether one of the eight is free. -/
theorem placesTaken : Obligations.PlacesTaken := by
  intro s rst
  refine ⟨fun waits place => next_of_released rst (kindTakesPlace_of_place waits place),
    fun void => next_of_released rst ?_, fun r waits place => next_of_released rst (replyTakesPlace_of_place waits place),
    fun r waits full => next_of_released rst (replyTakesPlace_of_full waits full),
    fun none => next_of_released rst (replyTakesPlace_of_none none),
    fun body send live held full => next_of_released rst (receiveCommand_of_full _ send live held full)⟩
  have idle : (s.link.kindWaiting && placeFree s) = false := by
    obtain h | h := void
    · rw [h, Bool.false_and]
    · rw [(not_placeFree_iff s).mpr h, Bool.and_false]
  simp only [kindTakesPlace, idle, Bool.false_eq_true, if_false]

/-- Settles O30: a byte by the state of the assembly. -/
theorem byteTaken : Obligations.ByteTaken := by
  intro b s rst u on
  refine ⟨fun dp send => next_of_released rst (byteReceived_of_sending send),
    fun send live => next_of_released rst ?_, fun dp send h => next_of_released rst ?_,
    fun send h => ⟨?_, ?_, ?_, ?_⟩, fun k send h => next_of_released rst ?_,
    fun k hi send h => ⟨fun fits => next_of_released rst ?_, fun misfit => next_of_released rst ?_⟩,
    fun k n bs send h short => next_of_released rst ?_⟩
  · exact (byteReceived_of_even send).trans (receiveErrs_of_live live)
  · exact (byteReceived_of_discard send h).trans (receiveErrs_of_discard h)
  · rintro rfl place
    refine next_of_released rst ?_
    rw [byteReceived_of_odd send, takeByte_idle (by exact h)]
    exact takeKind_of_command place
  · rintro rfl full
    refine next_of_released rst ?_
    rw [byteReceived_of_odd send, takeByte_idle (by exact h)]
    exact takeKind_of_full full
  · rintro rfl
    refine next_of_released rst ?_
    rw [byteReceived_of_odd send, takeByte_idle (by exact h)]
    rfl
  · intro command data
    refine next_of_released rst ?_
    rw [byteReceived_of_odd send, takeByte_idle (by exact h), takeKind_of_other _ command data,
      receiveErrs_of_live (by rw [h]; nofun)]
    rfl
  · rw [byteReceived_of_odd send, takeByte_kind (by exact h)]
    rfl
  · rw [byteReceived_of_odd send, takeByte_length (by exact h), if_pos fits]
    rfl
  · rw [byteReceived_of_odd send, takeByte_length (by exact h), misfit]
    exact receiveErrs_of_live (by rw [h]; nofun)
  · have short' : (bs ++ [b]).length < n := by
      simp only [List.length_append, List.length_singleton]; omega
    rw [byteReceived_of_odd send, takeByte_body (by exact h), takeBody_short _ short']
    rfl

end Sys2Proof

/-! ## Proofs: the immediate commands -/

namespace Sys2Proof.Machine

/-! ### What a fault's response leaves of the fault unit

With the holder empty, an operation of the heads or the spindle does not touch the fault unit, and no cause
ever leaves the attention set by one. -/

structure Steady (s t : State) : Prop where
  fault : s.fault.holder = none → t.fault = s.fault
  attention : ∃ m, t.cu.attention = s.cu.attention ||| m

theorem Steady.of_eq {s t : State} (h : t.fault = s.fault) (k : t.cu.attention = s.cu.attention) : Steady s t :=
  ⟨fun _ => h, 0#16, by simp [k]⟩

theorem Steady.rfl {s : State} : Steady s s := .of_eq (by simp) (by simp)

theorem Steady.trans {s t u : State} (h : Steady s t) (k : Steady t u) : Steady s u where
  fault empty := (k.fault (by rw [h.fault empty, empty])).trans (h.fault empty)
  attention := by
    obtain ⟨m, hm⟩ := h.attention
    obtain ⟨n, hn⟩ := k.attention
    exact ⟨m ||| n, by rw [hn, hm, BitVec.or_assoc]⟩

/-- A cause that is set stays set. -/
theorem Steady.getLsbD {s t : State} (h : Steady s t) {i : Nat} (on : s.cu.attention.getLsbD i = true) :
    t.cu.attention.getLsbD i = true := by
  obtain ⟨m, hm⟩ := h.attention
  simp [hm, on]

theorem noteEnd_steady (cls : FaultClass) (s : State) : Steady s (noteEnd cls s) := by
  unfold noteEnd
  split <;> exact .of_eq (by simp) (by simp)

theorem releaseHolder_steady (s : State) : Steady s (releaseHolder s) := by
  unfold releaseHolder
  split
  · exact .rfl
  · rename_i r held
    refine Steady.trans (t := offer r { s with fault := { s.fault with holder := none } })
      ⟨fun empty => ?_, _, offer_attention _ _⟩ (noteEnd_steady _ _)
    rw [held] at empty
    cases empty

theorem cutWrite_steady (s : State) : Steady s (cutWrite s) := by
  unfold cutWrite
  split
  · refine Steady.trans (.of_eq ?_ ?_) (releaseHolder_steady _)
    · unfold markTorn
      split <;> rfl
    · unfold markTorn
      split <;> rfl
  · exact .rfl

theorem depart_steady (s : State) : Steady s (depart s) := by
  unfold depart
  split
  · exact .of_eq (by simp) (by simp)
  · exact cutWrite_steady s
  · exact .rfl

theorem tellRequester_steady (o : TargetOutcome) (s : State) : Steady s (tellRequester o s) := by
  rw [tellRequester_eq]
  split <;> exact .of_eq (by simp) (by simp)

theorem tellHeldEnded_steady (s : State) : Steady s (tellHeldEnded s) := by
  unfold tellHeldEnded
  split <;> exact .of_eq (by simp) (by simp)

theorem enterParked_steady (s : State) : Steady s (enterParked s) := by
  rw [enterParked_eq]
  exact .of_eq (by simp) (by simp)

theorem enterRetracting_steady (s : State) : Steady s (enterRetracting s) := by
  have began : Steady s (beganRetract s) :=
    ((depart_steady s).trans (tellRequester_steady .ended _)).trans (.of_eq rfl rfl)
  rw [enterRetracting_eq]
  split
  · exact began.trans (enterParked_steady _)
  · exact began

theorem enterEmergency_steady (s : State) : Steady s (enterEmergency s) := by
  have began : Steady s (beganEmergency s) :=
    (((depart_steady s).trans (tellRequester_steady .ended _)).trans (tellHeldEnded_steady _)).trans
      (.of_eq rfl rfl)
  rw [enterEmergency_eq]
  split
  · exact began.trans (enterParked_steady _)
  · exact began

theorem discardHeld_steady (s : State) : Steady s (discardHeld s) :=
  (tellHeldEnded_steady s).trans (.of_eq rfl rfl)

theorem requestRetract_steady (s : State) : Steady s (requestRetract s) := by
  unfold requestRetract
  split
  case h_4 => exact (discardHeld_steady s).trans (enterRetracting_steady _)
  all_goals exact discardHeld_steady s

theorem requestEmergency_steady (s : State) : Steady s (requestEmergency s) := by
  unfold requestEmergency
  split
  · exact .rfl
  · exact .rfl
  · exact enterEmergency_steady s

theorem stopRequest_steady (s : State) : Steady s (stopRequest s) := by
  unfold stopRequest
  simp only
  split
  case h_4 =>
    split
    case h_4 => refine Steady.trans ?_ (requestRetract_steady _); exact .of_eq rfl rfl
    all_goals exact .of_eq rfl rfl
  all_goals exact .of_eq rfl rfl

theorem cancelQueue_steady (s : State) : Steady s (cancelQueue s) := .of_eq rfl rfl

/-- SUPPLY LOSS with the holder empty leaves the fault unit but for the slot, and sets FAULT (R147). -/
theorem respond_supplyLoss_steady (s : State) : Steady s (respond .supplyLoss s) :=
  ((((noteEnd_steady _ s).trans (cutWrite_steady _)).trans (requestEmergency_steady _)).trans
    (stopRequest_steady _)).trans (cancelQueue_steady _)

/-! ### CLEAR ATTENTION -/

theorem clearAttention_unknown {tag : Byte} {causes : BitVec 16} (s : State)
    (h : causes &&& 0xFC00#16 ≠ 0#16) :
    doClearAttention tag causes s = replied
      { tag, code := 0x31#8, outcome := .badParameter, fields := be16 s.cu.attention.toNat, queued := false } s :=
  if_pos h

theorem clearFault_of_calm {s : State} (h : s.fault.warning = false) :
    clearFault s = { s with fault := { s.fault with slot := none } } :=
  if_neg (by rw [h]; nofun)

theorem clearFault_of_warning {s : State} (h : s.fault.warning = true) :
    clearFault s = raise .supplyLoss { s with fault := { s.fault with slot := none } } := if_pos h

/-- The causes that CLEAR ATTENTION names have left the set (R182). -/
theorem clearAttention_known {tag : Byte} {causes : BitVec 16} (s : State)
    (h : causes &&& 0xFC00#16 = 0#16) :
    doClearAttention tag causes s =
      let t := if causes.getLsbD 5 = true then clearFault (clearCauses causes s) else clearCauses causes s
      settle (replied { tag, code := 0x31#8, outcome := .done, fields := be16 t.cu.attention.toNat,
                        queued := false } t) :=
  if_neg (not_not_intro h)

/-! ### Being told to end -/

/-- The answer byte of ABORT (R179). -/
theorem byte_bit_zero (b : Bool) : byte (bit b 0) = if b = true then 1#8 else 0#8 := by
  cases b <;> rfl

/-- The first RESET of the list withdraws a pending AUTO START (R183). -/
theorem pendAuto_of_first (l : List Byte) (a : Bool) :
    (if l.isEmpty = true then false else a) = if l = [] then false else a := by
  cases l <;> rfl

/-- The executing item and its contexts have the abort mark (R179). -/
def toldAbort (s : State) : State :=
  { s with
    cu := { s.cu with slot := { s.cu.slot with abortPending := true } }
    chan := { s.chan with
      transfer := s.chan.transfer.map fun t => { t with abortPending := true }
      reassign := s.chan.reassign.map fun r => { r with abortPending := true } }
    fmt := s.fmt.map fun f => { f with abortPending := true } }

theorem tellAbort_of_reaches {s : State} (h : abortReaches s = true) : tellAbort s = toldAbort s := if_pos h

theorem tellAbort_of_not {s : State} (h : abortReaches s = false) : tellAbort s = s :=
  if_neg (by rw [h]; nofun)

end Sys2Proof.Machine

namespace Sys2Proof

open Machine

/-- Settles O31: each command past its frame; the record of the SUPPLY LOSS that CLEAR ATTENTION raises again
meets an emptied slot and an operation that leaves the fault unit. -/
theorem immediateCommandsAnswered : Obligations.ImmediateCommandsAnswered := by
  constructor
  · intro tag s ok
    refine ⟨?_, fun empty => ?_, fun present => ?_, ?_⟩
    · exact next_of_released ok.1 (receiveCommand_of_receives _ ok)
    · refine next_of_released ok.1 ((receiveCommand_of_receives _ ok).trans ?_)
      exact if_pos empty
    · refine next_of_released ok.1 ((receiveCommand_of_receives _ ok).trans ?_)
      exact if_neg present
    · exact next_of_released ok.1 (receiveCommand_of_receives _ ok)
  · intro tag causes s ok kept reply u e
    have acts {t : State} (h : doClearAttention tag causes (received s) = t) :
        exec (.clearAttention tag causes) s = .next t :=
      next_of_released ok.1 ((receiveCommand_of_receives _ ok).trans h)
    refine ⟨fun bad => acts (clearAttention_unknown _ bad), fun known out => acts ?_,
      fun known named calm => acts ?_, ?_⟩
    · rw [clearAttention_known _ known]
      simp only [out, Bool.false_eq_true, if_false]
      rfl
    · have cleared : clearFault (clearCauses causes (received s)) = e := clearFault_of_calm calm
      rw [clearAttention_known _ known]
      simp only [named, if_true, cleared]
      rfl
    · intro known named warned w
      have cleared : clearFault (clearCauses causes (received s)) = w := clearFault_of_warning warned
      refine ⟨acts ?_, ?_, fun empty => ?_⟩
      · rw [clearAttention_known _ known]
        simp only [named, if_true, cleared]
        rfl
      · refine (respond_supplyLoss_steady _).getLsbD ?_
        rw [offer_attention, BitVec.getLsbD_or]
        simp
      · have same := (respond_supplyLoss_steady (offer (formRecord .supplyLoss e) e)).fault empty
        exact congrArg FaultUnit.slot same

/-- Settles O32: ABORT and RESET past their frames, by whether an executing item is reached. -/
theorem abortAndResetTell : Obligations.AbortAndResetTell := by
  constructor
  · intro tag s ok u reply
    have acts {t : State} (h : tellAbort (replied reply u) = t) : exec (.abort tag) s = .next (settle t) := by
      refine next_of_released ok.1 ((receiveCommand_of_receives _ ok).trans (congrArg settle (.trans ?_ h)))
      rw [byte_bit_zero]
      rfl
    exact ⟨fun out => acts (tellAbort_of_not out), fun reached => acts (tellAbort_of_reaches reached)⟩
  · intro tag s ok u
    have acts {t : State} (h : tellAbort u = t) : exec (.reset tag) s = .next (settle t) := by
      refine next_of_released ok.1 ((receiveCommand_of_receives _ ok).trans (congrArg settle (.trans ?_ h)))
      rw [pendAuto_of_first]
      rfl
    exact ⟨fun out => acts (tellAbort_of_not out), fun reached => acts (tellAbort_of_reaches reached)⟩

end Sys2Proof

/-! ## Proofs: the step -/

namespace Sys2Proof.Machine

/-! ### Rows within a tick -/

/-- On a state with RST released `f` is `g`, and RST stays released. -/
def RowAs (f g : State → State) : Prop :=
  ∀ u : State, u.pins.rst = false → f u = g u ∧ (g u).pins.rst = false

theorem RowAs.comp {f g f' g' : State → State} (h : RowAs f g) (k : RowAs f' g') :
    RowAs (fun u => f' (f u)) (fun u => g' (g u)) := by
  intro u rst
  obtain ⟨same, rst'⟩ := h u rst
  change f' (f u) = _ ∧ _
  rw [same]
  exact k (g u) rst'

theorem exec_rst {c : Instr} {s t : State} (soft : ∀ l, c ≠ .hardReset l) (h : exec c s = .next t) :
    t.pins.rst = s.pins.rst :=
  (exec_events (room := False) (empties := True) c soft False.elim (fun _ => trivial) h).rst

/-- A function of the tick that is a row's meaning is that row, taken when its moment has come. -/
theorem rowAs_due {now now' : State → Prop} [DecidablePred now] [DecidablePred now'] {f : State → State}
    {c : State → Instr} (row : ∀ u, exec (c u) u = .next (unlessReset f u)) (soft : ∀ u l, c u ≠ .hardReset l)
    (same : ∀ u, now u ↔ now' u) :
    RowAs (fun u => if now u then f u else u) (fun u => due (now' u) (c u) u) := by
  intro u rst
  have acts : exec (c u) u = .next (f u) := (row u).trans (next_of_released rst rfl)
  by_cases h : now u
  · have come : due (now' u) (c u) u = f u := by
      rw [due, if_pos ((same u).mp h), acts]
    simp only [if_pos h, come, true_and]
    exact (exec_rst (soft u) acts).trans rst
  · have idle : due (now' u) (c u) u = u := if_neg (mt (same u).mpr h)
    simp only [if_neg h, idle, true_and]
    exact rst

theorem rowAs_settle : RowAs settle settle :=
  fun u rst => ⟨rfl, ((settle_moves u).events (room := False) (empties := True)).rst.trans rst⟩

theorem windowTimer_iff (s : State) : windowTimer s = some 0 ↔ ∃ e ∈ s.cart.eject, e.window = some 0 := by
  unfold windowTimer
  cases s.cart.eject <;> simp

theorem attemptTimer_iff (s : State) :
    attemptTimer s = some 0 ↔ ∃ c ∈ s.record.copyWrite, c.timer = some 0 := by
  unfold attemptTimer
  cases s.record.copyWrite <;> simp

theorem requestTimer_iff (s : State) :
    requestTimer s = some 0 ↔ ∃ o ∈ s.chan.outstanding.head?, o.timer = some 0 := by
  unfold requestTimer
  cases s.chan.outstanding <;> simp

/-- The rows of the link and of the spindle within a tick. -/
def dueDrive (s : State) : State :=
  let s := due (s.link.gap = some 0) .byteGapExpiry s
  let s := due (s.link.quiet = some 0) .discardQuietExpiry s
  let s := due (∃ e ∈ s.cart.eject, e.window = some 0) .releaseWindowExpiry s
  let s := due (s.spin.kick = some 0) .kickTimerExpiry s
  let s := due (s.spin.spinUp = some 0) .spinUpTimerExpiry s
  let s := due (s.spin.stop = some 0) .stopTimerExpiry s
  let s := due (s.spin.brake = some 0) .brakeTimerExpiry s
  let s := due (s.spin.state = .accel ∧ s.spin.gap = 1000000) .accelGapSaturation s
  due (50000 < s.spin.gap) .indexLoss s

/-- The rows of the heads, the transfers and the rest within a tick. -/
def dueHeads (s : State) : State :=
  let s := due (s.clk.miss = some 0) .missingSampleDeclaration s
  let s := due (s.pos.load = some 0) (.loadTimerExpiry s.pins.park) s
  let s := due (s.pos.retract = some 0) .retractTimerExpiry s
  let s := due (s.pos.emergency = some 0) .emergencyTimerExpiry s
  let s := due (∃ c ∈ s.record.copyWrite, c.timer = some 0) .copyAttemptTimerExpiry s
  let s := due (∃ o ∈ s.chan.outstanding.head?, o.timer = some 0) .dataTimerExpiry s
  let s := due (s.chan.readyTimer = some 0) .dataTimerExpiry s
  let s := due (s.chan.gateWait = some 0) .gateWaitTimerExpiry s
  due ((settle s).rest.timer = some 0) .restTimerExpiry (settle s)

theorem expireDrive_rows : RowAs expireDrive dueDrive := by
  have gap := rowAs_due (now := fun s => s.link.gap = some 0) (c := fun _ => .byteGapExpiry)
    (fun _ => rfl) (fun _ _ => nofun) (fun _ => Iff.rfl)
  have quiet := rowAs_due (now := fun s => s.link.quiet = some 0) (c := fun _ => .discardQuietExpiry)
    (fun _ => rfl) (fun _ _ => nofun) (fun _ => Iff.rfl)
  have window := rowAs_due (now := fun s => windowTimer s = some 0) (c := fun _ => .releaseWindowExpiry)
    (fun _ => rfl) (fun _ _ => nofun) windowTimer_iff
  have kick := rowAs_due (now := fun s => s.spin.kick = some 0) (c := fun _ => .kickTimerExpiry)
    (fun _ => rfl) (fun _ _ => nofun) (fun _ => Iff.rfl)
  have spinUp := rowAs_due (now := fun s => s.spin.spinUp = some 0) (c := fun _ => .spinUpTimerExpiry)
    (fun _ => rfl) (fun _ _ => nofun) (fun _ => Iff.rfl)
  have stop := rowAs_due (now := fun s => s.spin.stop = some 0) (c := fun _ => .stopTimerExpiry)
    (fun _ => rfl) (fun _ _ => nofun) (fun _ => Iff.rfl)
  have brake := rowAs_due (now := fun s => s.spin.brake = some 0) (c := fun _ => .brakeTimerExpiry)
    (fun _ => rfl) (fun _ _ => nofun) (fun _ => Iff.rfl)
  have accel := rowAs_due (now := fun s => s.spin.state = .accel ∧ s.spin.gap = Config.gapMax)
    (now' := fun s => s.spin.state = .accel ∧ s.spin.gap = 1000000) (c := fun _ => .accelGapSaturation)
    (fun _ => rfl) (fun _ _ => nofun) (fun _ => Iff.rfl)
  have index := rowAs_due (now := fun s => Config.gapLimit < s.spin.gap)
    (now' := fun s => 50000 < s.spin.gap) (c := fun _ => .indexLoss)
    (fun _ => rfl) (fun _ _ => nofun) (fun _ => Iff.rfl)
  exact (((((((gap.comp quiet).comp window).comp kick).comp spinUp).comp stop).comp brake).comp accel).comp index

theorem expireHeads_rows : RowAs expireHeads dueHeads := by
  have miss := rowAs_due (now := fun s => s.clk.miss = some 0) (c := fun _ => .missingSampleDeclaration)
    (fun _ => rfl) (fun _ _ => nofun) (fun _ => Iff.rfl)
  have load := rowAs_due (now := fun s => s.pos.load = some 0) (f := fun s => loadExpires s.pins.park s)
    (c := fun s => .loadTimerExpiry s.pins.park) (fun _ => rfl) (fun _ _ => nofun) (fun _ => Iff.rfl)
  have retract := rowAs_due (now := fun s => s.pos.retract = some 0) (c := fun _ => .retractTimerExpiry)
    (fun _ => rfl) (fun _ _ => nofun) (fun _ => Iff.rfl)
  have emergency := rowAs_due (now := fun s => s.pos.emergency = some 0) (c := fun _ => .emergencyTimerExpiry)
    (fun _ => rfl) (fun _ _ => nofun) (fun _ => Iff.rfl)
  have attempt := rowAs_due (now := fun s => attemptTimer s = some 0) (c := fun _ => .copyAttemptTimerExpiry)
    (fun _ => rfl) (fun _ _ => nofun) attemptTimer_iff
  have request := rowAs_due (now := fun s => requestTimer s = some 0) (c := fun _ => .dataTimerExpiry)
    (fun _ => rfl) (fun _ _ => nofun) requestTimer_iff
  have ready := rowAs_due (now := fun s => s.chan.readyTimer = some 0) (c := fun _ => .dataTimerExpiry)
    (fun _ => rfl) (fun _ _ => nofun) (fun _ => Iff.rfl)
  have gate := rowAs_due (now := fun s => s.chan.gateWait = some 0) (c := fun _ => .gateWaitTimerExpiry)
    (fun _ => rfl) (fun _ _ => nofun) (fun _ => Iff.rfl)
  have rest := rowAs_due (now := fun s => s.rest.timer = some 0) (c := fun _ => .restTimerExpiry)
    (fun _ => rfl) (fun _ _ => nofun) (fun _ => Iff.rfl)
  exact ((((((((miss.comp load).comp retract).comp emergency).comp attempt).comp request).comp ready).comp
    gate).comp rowAs_settle).comp rest

theorem countDown_rst (s : State) : (countDown s).pins.rst = s.pins.rst :=
  (Event.down (room := False) (empties := False) s).sameOutside.2

theorem tick_rows {s : State} (rst : s.pins.rst = false) : tick s = dueHeads (dueDrive (countDown s)) :=
  ((expireDrive_rows.comp expireHeads_rows) (countDown s) ((countDown_rst s).trans rst)).1

/-! ### The internal step -/

theorem replyEnabled_iff (s : State) :
    replyEnabled s = true ↔ placesUsed s < 8 ∧ ∃ r, s.cu.slot.work = .replying r := by
  rw [← placeFree_iff]
  unfold replyEnabled
  cases s.cu.slot.work <;> simp

theorem kindEnabled_iff (s : State) :
    (s.link.kindWaiting && placeFree s) = true ↔ placesUsed s < 8 ∧ s.link.kindWaiting = true := by
  rw [Bool.and_eq_true, placeFree_iff, and_comm]

theorem internalStep_reply {s : State} (h : replyEnabled s = true) : internalStep s = some (replyTakesPlace s) :=
  if_pos h

theorem internalStep_kind {s : State} (reply : replyEnabled s = false)
    (h : (s.link.kindWaiting && placeFree s) = true) : internalStep s = some (kindTakesPlace s) := by
  simp only [internalStep, reply, h, Bool.false_eq_true, if_false, if_true]

/-- No reply and no kind byte can take a place. -/
def Placed (s : State) : Prop := replyEnabled s = false ∧ (s.link.kindWaiting && placeFree s) = false

theorem internalStep_busy {s : State} (placed : Placed s) (busy : s.cu.slot.item ≠ .free) :
    internalStep s = none := by
  obtain ⟨reply, kind⟩ := placed
  simp only [internalStep, reply, kind, slotFree, beq_iff_eq, busy, Bool.false_eq_true, if_false]

section
variable {s : State} (placed : Placed s) (free : s.cu.slot.item = .free)
include placed free

theorem internalStep_softReset (waits : s.cu.resets ≠ [])
    (clear : ¬ ∃ e, s.cu.queue.head? = some e ∧ e.cancelled = true) :
    internalStep s = some (takeSoftReset s) := by
  obtain ⟨reply, kind⟩ := placed
  have ready : drained s = true := by
    unfold drained
    cases queue : s.cu.queue with
    | nil => simp [slotFree, free]
    | cons e rest =>
      have unmarked : e.cancelled = false :=
        Bool.eq_false_iff.mpr fun m => clear ⟨e, by rw [queue, List.head?_cons], m⟩
      simp [slotFree, free, unmarked]
  simp [internalStep, reply, kind, slotFree, free, waits, ready]

theorem internalStep_buttonEject (none : s.cu.resets = []) (asked : s.cu.pendEject = true) :
    internalStep s = some (takeButtonEject s) := by
  obtain ⟨reply, kind⟩ := placed
  simp [internalStep, reply, kind, slotFree, free, none, asked]

theorem internalStep_cancelled {e : Entry} (head : s.cu.queue.head? = some e) (marked : e.cancelled = true)
    (first : s.cu.resets ≠ [] ∨ s.cu.pendEject = false) : internalStep s = some (takeCancelled s) := by
  obtain ⟨reply, kind⟩ := placed
  obtain ⟨rest, queue⟩ := List.head?_eq_some_iff.mp head
  have waits : drained s = false := by simp [drained, queue, marked]
  have later : (s.cu.resets.isEmpty && s.cu.pendEject) = false := by
    obtain h | h := first
    · simp [h]
    · simp [h]
  simp [internalStep, reply, kind, slotFree, free, waits, later, queue, marked]

section
variable (none : s.cu.resets = []) (quiet : s.cu.pendEject = false)
include none quiet

theorem internalStep_head {e : Entry} (head : s.cu.queue.head? = some e) (unmarked : e.cancelled = false) :
    internalStep s = some (runAnyHead e s) := by
  obtain ⟨reply, kind⟩ := placed
  obtain ⟨rest, queue⟩ := List.head?_eq_some_iff.mp head
  simp [internalStep, reply, kind, slotFree, headMayRun, free, none, quiet, queue, unmarked]

theorem internalStep_empty (queue : s.cu.queue = []) :
    internalStep s = if s.cu.pendAuto then some (takeAutoStart s)
      else if s.cu.pendWake then some (takeTimedWake s) else Option.none := by
  obtain ⟨reply, kind⟩ := placed
  simp [internalStep, reply, kind, slotFree, headMayRun, free, none, quiet, queue]

end

end

/-- An unmarked head of the queue runs by the row of its code (R194). -/
theorem exec_runAnyHead {e : Entry} {s : State} {code : Byte} {c : Instr} (rst : s.pins.rst = false)
    (known : (code, c) ∈ queuedRows) (is : e.code = code) : exec c s = .next (runAnyHead e s) := by
  simp only [queuedRows, List.mem_cons, Prod.mk.injEq, List.not_mem_nil, or_false] at known
  unfold runAnyHead
  rw [is]
  rcases known with ⟨rfl, rfl⟩ | ⟨rfl, rfl⟩ | ⟨rfl, rfl⟩ | ⟨rfl, rfl⟩ | ⟨rfl, rfl⟩ | ⟨rfl, rfl⟩ | ⟨rfl, rfl⟩
    | ⟨rfl, rfl⟩ | ⟨rfl, rfl⟩ | ⟨rfl, rfl⟩ | ⟨rfl, rfl⟩ | ⟨rfl, rfl⟩ | ⟨rfl, rfl⟩ | ⟨rfl, rfl⟩ <;>
    exact next_of_released rst rfl

end Sys2Proof.Machine

namespace Sys2Proof

open Machine

/-- Settles O1: the step by its definition, the internal step by which place and which item waits, and the
tick row by row. -/
theorem stepTakesTheFrontCommand : Obligations.StepTakesTheFrontCommand := by
  refine ⟨fun c rest s => rfl, fun s front => ⟨fun rst t enabled => ?_, fun rst none => ?_, fun rst => ?_⟩,
    ?_, ?_⟩
  · simp only [step, front, idle, unlessReset_released _ s rst, proceed, enabled]
  · simp only [step, front, idle, unlessReset_released _ s rst, proceed, none]
  · simp only [step, front, idle, unlessReset_asserted _ s rst]
  · intro s rst runs reply kind free ready marked
    have quiet (h : ¬ reply) : replyEnabled s = false := Bool.eq_false_iff.mpr (mt (replyEnabled_iff s).mp h)
    have silent (h : ¬ kind) : (s.link.kindWaiting && placeFree s) = false :=
      Bool.eq_false_iff.mpr (mt (kindEnabled_iff s).mp h)
    have placed (h : free) : Placed s := ⟨quiet h.1, silent h.2.1⟩
    refine ⟨fun h => ⟨_, internalStep_reply ((replyEnabled_iff s).mpr h), next_of_released rst rfl⟩,
      fun r h => ⟨_, internalStep_kind (quiet r) ((kindEnabled_iff s).mpr h), next_of_released rst rfl⟩,
      fun r k h => internalStep_busy ⟨quiet r, silent k⟩ h,
      fun f waits clear => ⟨_, internalStep_softReset (placed f) f.2.2 waits clear, next_of_released rst rfl⟩,
      fun f none asked => ⟨_, internalStep_buttonEject (placed f) f.2.2 none asked, next_of_released rst rfl⟩,
      ?_, ?_, ?_, ?_, ?_⟩
    · rintro f ⟨e, head, is⟩ first
      exact ⟨_, internalStep_cancelled (placed f) f.2.2 head is first, next_of_released rst rfl⟩
    · rintro e code c ⟨f, none, button⟩ head unmarked is known
      exact ⟨_, internalStep_head (placed f) f.2.2 none button head unmarked, exec_runAnyHead rst known is⟩
    · rintro ⟨f, none, button⟩ queue auto
      refine ⟨takeAutoStart s, ?_, next_of_released rst rfl⟩
      rw [internalStep_empty (placed f) f.2.2 none button queue, if_pos auto]
    · rintro ⟨f, none, button⟩ queue auto wake
      refine ⟨takeTimedWake s, ?_, next_of_released rst rfl⟩
      rw [internalStep_empty (placed f) f.2.2 none button queue, auto, if_neg nofun, if_pos wake]
    · rintro ⟨f, none, button⟩ queue auto wake
      rw [internalStep_empty (placed f) f.2.2 none button queue, auto, wake, if_neg nofun, if_neg nofun]
  · intro s rst less
    refine ⟨?_, tick_rows rst⟩
    cases send : s.link.send <;>
      simp only [countDown, ackByte, send, Timer.down_eq, Config.gapMax, reduceCtorEq, if_false, if_true,
        Nat.add_zero] <;> rfl

/-- Settles O3: each law on the one state. -/
theorem resetMeetsTheLaws : Obligations.ResetMeetsTheLaws := by
  refine ⟨?_, ?_, ?_, ?_, ?_, ?_, ?_, ?_, ?_, ?_, ?_, ?_, ?_, ?_, ?_⟩
  case refine_1 => exact rfl
  case refine_2 => simp [GateLaw, writing, State.reset]
  case refine_3 => simp [BoundsLaw, placesUsed, State.reset, Slot.free]
  case refine_4 => simp [CountLaw, countBalance, queuedReplies, slotCommands, State.reset, Slot.free]
  case refine_5 => simp [RangeLaw, State.reset]
  case refine_6 => simp [ClockLaw, State.reset]
  case refine_7 => simp [SessionLaw, State.reset]
  case refine_8 => simp [FaultLaw, State.reset]
  case refine_9 => simp [ZonesLaw, fullSession, State.reset]
  case refine_10 => exact rfl
  case refine_11 => simp [Quiet, NoWork, sendsRequest, State.reset]
  case refine_12 => simp [ContextLaw, State.reset, Slot.free]
  case refine_13 => simp [RestLaw, Work.rests, State.reset, Slot.free]
  case refine_14 => simp [LatchLaw, State.reset]
  case refine_15 =>
    rintro ⟨seated, a, b, w, park, supwarn, rst⟩ rfl rfl rfl rfl rfl rfl rfl
    rfl

end Sys2Proof

/-! ## Proofs: an index arrival -/

namespace Sys2Proof.Machine

/-! ### Rotation with no work in hand -/

theorem sectorEnds_quiet {p : Nat} {sig : ReadSignal} {s : State} (h : s.chan.op = none) :
    sectorEnds p sig s = s := by
  unfold sectorEnds
  rw [h]

theorem sectorStart_quiet {n : Nat} {s : State} (h : Quiet s) : sectorStart n s = s := by
  obtain ⟨-, load, copy, transfer, reassign, fmt, -⟩ := h
  unfold sectorStart
  rw [load, copy, transfer, reassign, fmt]
  exact ite_self s

/-- The rotation position is p. -/
def turnedTo (p : Nat) (s : State) : State := { s with chan := { s.chan with rotation := p } }

theorem rotate_eq (p : Nat) (sig : ReadSignal) (s : State) :
    rotate p sig s = if p % 2 = 0 then
      settle (sectorStart (p / 2) (settle (sectorEnds p sig (turnedTo p s)))) else settle (turnedTo p s) := rfl

/-- On a part with no work in hand a new position is all that the rotation changes. -/
theorem rotate_quiet {p : Nat} {sig : ReadSignal} {s : State} (h : Quiet s) :
    rotate p sig s = turnedTo p s := by
  have turned : Quiet (turnedTo p s) := h
  rw [rotate_eq]
  split
  · rw [sectorEnds_quiet turned.2.2.2.2.2.2.1, settle_quiet turned, sectorStart_quiet turned,
      settle_quiet turned]
  · exact settle_quiet turned

/-! ### The checks of the spindle -/

theorem inWindow_deviation_iff (p : Nat) :
    inWindow Config.deviationHalf p = false ↔ p < 24750 ∨ 25250 < p := by
  rw [Bool.eq_false_iff, Ne, inWindow_iff Config.deviationHalf p]
  change ¬ (25000 - 250 ≤ p ∧ p ≤ 25000 + 250) ↔ _
  omega

theorem lockCheck_of_outside {p : Spindle} (out : ¬ (24875 ≤ p.period ∧ p.period ≤ 25125)) :
    p.lockCheck = { p with inCount := 0 } := by
  rw [Spindle.lockCheck, if_neg (mt (inWindow_lockHalf_iff _).mp out)]

theorem lockCheck_of_inside_lt {p : Spindle} (inside : 24875 ≤ p.period ∧ p.period ≤ 25125)
    (few : p.inCount + 1 < 4) : p.lockCheck = { p with inCount := p.inCount + 1 } := by
  rw [Spindle.lockCheck, if_pos ((inWindow_lockHalf_iff _).mpr inside), if_neg (Nat.not_le.mpr few)]

theorem lockCheck_of_inside_ge {p : Spindle} (inside : 24875 ≤ p.period ∧ p.period ≤ 25125)
    (fourth : 4 ≤ p.inCount + 1) :
    p.lockCheck = { p with state := .atSpeed, deviating := false, inCount := 0, outCount := 0,
                           spinUp := none } := by
  rw [Spindle.lockCheck, if_pos ((inWindow_lockHalf_iff _).mpr inside), if_pos fourth]

theorem deviationCheck_of_inside {p : Spindle} (inside : ¬ (p.period < 24750 ∨ 25250 < p.period)) :
    p.deviationCheck = ({ p with outCount := 0 }, false) := by
  have h : inWindow Config.deviationHalf p.period = true := by
    rw [← Bool.not_eq_false, inWindow_deviation_iff]; exact inside
  rw [Spindle.deviationCheck, if_pos h]

theorem deviationCheck_of_outside_lt {p : Spindle} (out : p.period < 24750 ∨ 25250 < p.period)
    (few : p.outCount + 1 < 2) : p.deviationCheck = ({ p with outCount := p.outCount + 1 }, false) := by
  have h := (inWindow_deviation_iff _).mpr out
  simp only [Spindle.deviationCheck, h, Bool.false_eq_true, if_false, Nat.not_le.mpr few]

theorem deviationCheck_of_outside_ge {p : Spindle} (out : p.period < 24750 ∨ 25250 < p.period)
    (second : 2 ≤ p.outCount + 1) :
    p.deviationCheck = ({ p with outCount := 0, inCount := 0, deviating := true }, true) := by
  have h := (inWindow_deviation_iff _).mpr out
  simp only [Spindle.deviationCheck, h, Bool.false_eq_true, if_false, second, if_true]

theorem deviationCheck_raises_iff (p : Spindle) :
    p.deviationCheck.2 = true ↔ (p.period < 24750 ∨ 25250 < p.period) ∧ 2 ≤ p.outCount + 1 := by
  by_cases out : p.period < 24750 ∨ 25250 < p.period
  · by_cases second : 2 ≤ p.outCount + 1
    · rw [deviationCheck_of_outside_ge out second]
      exact iff_of_true rfl ⟨out, second⟩
    · rw [deviationCheck_of_outside_lt out (Nat.not_le.mp second)]
      exact iff_of_false nofun fun h => second h.2
  · rw [deviationCheck_of_inside out]
    exact iff_of_false nofun fun h => out h.1

/-! ### The spindle in each of its states -/

/-- The spindle after the deviation of R35 is raised or not. -/
theorem indexSpindle_spin (s : State) :
    (indexSpindle s).spin = (Spindle.index s.set.trims.gs s.spin.measure).1 := by
  unfold indexSpindle raiseDeviation raise respond
  simp only
  split
  · split <;> rfl
  · rfl

theorem index_stopped {gs : Nat} {p : Spindle} (h : p.state = .stopped) : p.index gs = (p, false) := by
  unfold Spindle.index
  rw [h]

theorem index_coasting {gs : Nat} {p : Spindle} (h : p.state = .coasting) : p.index gs = (p, false) := by
  unfold Spindle.index
  rw [h]

theorem index_braking {gs : Nat} {p : Spindle} (h : p.state = .braking) :
    p.index gs = ({ p with stop := some 1000000 }, false) := by
  unfold Spindle.index
  rw [h]
  rfl

theorem index_kick {gs : Nat} {p : Spindle} (h : p.state = .kick) :
    p.index gs = ({ p with state := .accel, kick := none }, false) := by
  unfold Spindle.index
  rw [h]

theorem index_accel {gs : Nat} {p : Spindle} (h : p.state = .accel) :
    p.index gs = if p.period ≤ 25500 then ({ p with state := .regulate, drive := 200, inCount := 0 }, false)
      else (p, false) := by
  unfold Spindle.index
  rw [h]
  rfl

theorem index_regulate {gs : Nat} {p : Spindle} (h : p.state = .regulate) :
    p.index gs = (Spindle.lockCheck { p with drive := regulate p.drive p.period gs }, false) := by
  unfold Spindle.index
  rw [h]

theorem index_deviating {gs : Nat} {p : Spindle} (h : p.state = .atSpeed) (dev : p.deviating = true) :
    p.index gs = (Spindle.recoveryCheck { p with drive := regulate p.drive p.period gs }, false) := by
  unfold Spindle.index
  rw [h]
  exact if_pos dev

theorem index_atSpeed {gs : Nat} {p : Spindle} (h : p.state = .atSpeed) (dev : p.deviating = false) :
    p.index gs = Spindle.deviationCheck { p with drive := regulate p.drive p.period gs } := by
  unfold Spindle.index
  rw [h]
  exact if_neg (by rw [dev]; nofun)

/-- Only the deviation check raises the fault of R35, at the second arrival out of the window. -/
theorem index_raises_iff (gs : Nat) (p : Spindle) :
    (p.index gs).2 = true ↔ p.state = .atSpeed ∧ p.deviating = false
      ∧ (p.period < 24750 ∨ 25250 < p.period) ∧ 2 ≤ p.outCount + 1 := by
  cases state : p.state
  case atSpeed =>
    cases dev : p.deviating
    case true => simp [index_deviating state dev]
    case false =>
      rw [index_atSpeed state dev]
      simp [deviationCheck_raises_iff]
  case stopped => simp [index_stopped state]
  case coasting => simp [index_coasting state]
  case braking => simp [index_braking state]
  case kick => simp [index_kick state]
  case accel => rw [index_accel state]; split <;> simp
  case regulate => simp [index_regulate state]

/-- An arrival that raises no fault changes the spindle alone. -/
theorem indexSpindle_of_calm {s : State} (h : (Spindle.index s.set.trims.gs s.spin.measure).2 = false) :
    indexSpindle s = { s with spin := (Spindle.index s.set.trims.gs s.spin.measure).1 } := by
  simp only [indexSpindle, h, Bool.false_eq_true, if_false]

theorem indexSpindle_of_raise {s : State} (h : (Spindle.index s.set.trims.gs s.spin.measure).2 = true) :
    indexSpindle s = raiseDeviation { s with spin := (Spindle.index s.set.trims.gs s.spin.measure).1 } := by
  simp only [indexSpindle, h, if_true]

/-- SPEED DEVIATION goes into the holder while a sector is written (R154). -/
theorem raiseDeviation_of_writing {s : State} (h : s.chan.wgate = true) :
    raiseDeviation s = { s with fault := { s.fault with holder := some (formRecord .speedDeviation s) } } :=
  if_pos h

theorem raiseDeviation_of_idle {s : State} (h : s.chan.wgate = false) :
    raiseDeviation s = recorded .speedDeviation s := by
  rw [raiseDeviation, if_neg (by rw [h]; nofun)]
  simp only [raise, respond, offer, setCause, fault_mask, recorded]

/-- An index arrival leaves a part with no work in hand so. -/
theorem indexSpindle_noWork {s : State} (h : Quiet s) : Quiet (indexSpindle s) := by
  cases calm : (Spindle.index s.set.trims.gs s.spin.measure).2
  case false => rw [indexSpindle_of_calm calm]; exact h
  case true =>
    rw [indexSpindle_of_raise calm]
    cases gate : s.chan.wgate
    case true => rw [raiseDeviation_of_writing (by exact gate)]; exact h
    case false => rw [raiseDeviation_of_idle (by exact gate)]; exact h

end Sys2Proof.Machine

namespace Sys2Proof

open Machine

/-- Settles O15: the spindle by `Spindle.index` in each of its states, and the fault by `index_raises_iff`. -/
theorem indexArrivalActs : Obligations.IndexArrivalActs := by
  constructor
  · intro sig s rst u
    exact ⟨next_of_released rst rfl,
      fun quiet => next_of_released rst (rotate_quiet (indexSpindle_noWork quiet))⟩
  · intro s p e q d m lock dev u raises
    have spin : u = (Spindle.index s.set.trims.gs m).1 := indexSpindle_spin s
    have drive : d = regulate m.drive m.period s.set.trims.gs :=
      (regulate_eq s.spin.drive p s.set.trims.gs).symm
    have fires : (Spindle.index s.set.trims.gs m).2 = true ↔ raises := index_raises_iff s.set.trims.gs m
    refine ⟨fun h => ?_, fun h => ?_, fun h => ?_, fun h => ?_, fun h near => ?_, fun h far => ?_,
      fun h out => ?_, fun h inside few => ?_, fun h inside fourth => ?_, fun h ok inside => ?_,
      fun h ok out few => ?_, fun h ok out second => ?_, fun h bad out => ?_, fun h bad inside few => ?_,
      fun h bad inside fourth => ?_, fun calm => ?_, fun fire gate => ?_, fun fire gate => ?_⟩
    · rw [spin, index_stopped (p := m) h]
    · rw [spin, index_coasting (p := m) h]
    · rw [spin, index_braking (p := m) h]
    · rw [spin, index_kick (p := m) h]
    · rw [spin, index_accel (p := m) h, if_pos near]
    · rw [spin, index_accel (p := m) h, if_neg (Nat.not_le.mpr far)]
    · rw [spin, index_regulate (p := m) h, ← drive]
      exact lockCheck_of_outside (p := { m with drive := d }) out
    · rw [spin, index_regulate (p := m) h, ← drive]
      exact lockCheck_of_inside_lt (p := { m with drive := d }) inside few
    · rw [spin, index_regulate (p := m) h, ← drive]
      exact lockCheck_of_inside_ge (p := { m with drive := d }) inside fourth
    · rw [spin, index_atSpeed (p := m) h ok, ← drive]
      exact congrArg Prod.fst (deviationCheck_of_inside (p := { m with drive := d }) inside)
    · rw [spin, index_atSpeed (p := m) h ok, ← drive]
      exact congrArg Prod.fst (deviationCheck_of_outside_lt (p := { m with drive := d }) out few)
    · rw [spin, index_atSpeed (p := m) h ok, ← drive]
      exact congrArg Prod.fst (deviationCheck_of_outside_ge (p := { m with drive := d }) out second)
    · rw [spin, index_deviating (p := m) h bad, ← drive]
      refine recoveryCheck_of_outside (p := { m with drive := d }) ?_
      exact Bool.eq_false_iff.mpr (mt (inWindow_lockHalf_iff p).mp out)
    · rw [spin, index_deviating (p := m) h bad, ← drive]
      exact recoveryCheck_of_inside_lt (p := { m with drive := d }) ((inWindow_lockHalf_iff p).mpr inside) few
    · rw [spin, index_deviating (p := m) h bad, ← drive]
      exact recoveryCheck_of_inside_ge (p := { m with drive := d }) ((inWindow_lockHalf_iff p).mpr inside) fourth
    · rw [spin]
      exact indexSpindle_of_calm (Bool.eq_false_iff.mpr (mt fires.mp calm))
    · rw [spin]
      exact (indexSpindle_of_raise (fires.mpr fire)).trans (raiseDeviation_of_writing gate)
    · rw [spin]
      exact (indexSpindle_of_raise (fires.mpr fire)).trans (raiseDeviation_of_idle gate)

end Sys2Proof

/-! ## Proofs: the choice of copy -/

namespace Sys2Proof.Machine

theorem toNat_sub_generation (g1 g2 : BitVec 16) :
    (g1 - g2).toNat = (g1.toNat + 65536 - g2.toNat) % 65536 := by
  rw [BitVec.toNat_sub]
  have := g2.isLt
  congr 1
  omega

theorem newer_iff (g1 g2 : BitVec 16) :
    newer g1 g2 = true ↔ 1 ≤ (g1.toNat + 65536 - g2.toNat) % 65536
      ∧ (g1.toNat + 65536 - g2.toNat) % 65536 ≤ 32767 := by
  rw [newer, toNat_sub_generation, Bool.and_eq_true, decide_eq_true_iff, decide_eq_true_iff]

theorem newer_false_iff (g1 g2 : BitVec 16) :
    newer g1 g2 = false ↔ (g1.toNat + 65536 - g2.toNat) % 65536 = 0
      ∨ 32768 ≤ (g1.toNat + 65536 - g2.toNat) % 65536 := by
  rw [Bool.eq_false_iff, Ne, newer_iff]
  omega

theorem toNat_next_generation (g : BitVec 16) : (g + 1).toNat = (g.toNat + 1) % 65536 :=
  BitVec.toNat_add g 1

theorem choiceFinding_of_chosen {n : CartType} {r0 r1 : CopyReport} {c0 c1 : Option RecordCopy} {i : Nat}
    {c : RecordCopy} {st : CopyStatus} (h : chooseCopy c0 c1 = some (i, c, st)) :
    choiceFinding n r0 r1 c0 c1
      = if c.inProgress = true then (.blank, .typeOnly n, .none)
        else if c.session.type = n then (.ready, .full c.session, st)
        else (.refused .typeConflict, .absent, .none) := by
  rw [choiceFinding, h]
  by_cases type : c.session.type = n <;> simp [type]

end Sys2Proof.Machine

namespace Sys2Proof

open Machine

/-- Settles O19: the generations by their difference modulo 65,536, and the choice by the two copies. -/
theorem choiceOfCopy : Obligations.ChoiceOfCopy := by
  refine ⟨newer_iff, fun g => ?_, fun g1 g2 far => ?_, fun s r full => ?_, fun c0 c1 h => ?_,
    fun c0 c1 h differ => ?_, fun c0 c1 same => ?_, fun c => ⟨rfl, rfl⟩, rfl,
    fun n r0 r1 c0 c1 i c st h => choiceFinding_of_chosen h, fun n r0 r1 => rfl⟩
  · rw [newer_false_iff]; omega
  · rw [newer_false_iff, newer_false_iff]
    have := g1.isLt
    have := g2.isLt
    omega
  · refine ⟨{ r with generation := r.generation + 1 }, { r with generation := r.generation + 1 }, ?_, ?_,
      toNat_next_generation _, toNat_next_generation _⟩
    · simp only [applyWriteBack, full]
    · simp only [applyWriteBack, full]
  · have differ : c0.session.generation ≠ c1.session.generation := by
      intro same
      rw [same, newer_iff] at h
      omega
    simp only [chooseCopy, h, if_true, differ, if_false]
  · simp only [chooseCopy, h, Bool.false_eq_true, differ, if_false]
  · have old : newer c1.session.generation c1.session.generation = false := by
      rw [newer_false_iff]; omega
    simp only [chooseCopy, same, old, Bool.false_eq_true, if_false, if_true]

end Sys2Proof

/-! ## Proofs: the bytes of a frame -/

namespace Sys2Proof.Machine

/-! ### A frame byte by byte -/

/-- A frame of this kind is in reception, with this state of the assembly. -/
def assembling (a : Assembly) (held : Bool) (s : State) : State :=
  { s with
    pins := { s.pins with dir := false }
    link := { s.link with assembly := a, gap := some 100000, heldFrame := held, kindWaiting := false } }

section
variable {s : State} (send : s.link.send = none)
include send

theorem byteReceived_assembling {a : Assembly} {held : Bool} (b : Byte) :
    byteReceived b (oddParity b) (assembling a held s) = takeByte b (assembling a held s) :=
  byteReceived_of_odd send

/-- The body bytes but the last one only join the assembly. -/
theorem receiveBytes_body (k : FrameKind) (n : Nat) (held : Bool) (b : Byte) (bs pre : List Byte)
    (length : pre.length + (b :: bs).length = n) :
    ∃ a, receiveBytes (b :: bs) (assembling (.body k n pre) held s)
      = takeBody k n (pre ++ b :: bs) (assembling a held s) ∧ a ≠ .discard := by
  induction bs generalizing b pre with
  | nil =>
    refine ⟨.body k n pre, ?_, nofun⟩
    rw [receiveBytes, byteReceived_assembling send, takeByte_body rfl, receiveBytes]
  | cons c cs ih =>
    have short : (pre ++ [b]).length < n := by
      simp only [List.length_append, List.length_cons, List.length_nil] at length ⊢
      omega
    obtain ⟨a, eq, live⟩ := ih c (pre ++ [b]) (by
      simp only [List.length_append, List.length_cons, List.length_nil] at length ⊢
      omega)
    refine ⟨a, ?_, live⟩
    rw [receiveBytes, byteReceived_assembling send, takeByte_body rfl, takeBody_short _ short]
    rw [List.append_assoc, List.singleton_append] at eq
    exact eq

/-- The two length bytes open the body. -/
theorem receiveBytes_length (k : FrameKind) (held : Bool) (body : List Byte) (size : body.length < 65536)
    (fits : lengthFits k body.length = true) :
    receiveBytes (be16 body.length ++ body) (assembling (.kind k) held s)
      = receiveBytes body (assembling (.body k body.length []) held s) := by
  have value : (byte (body.length / 256)).toNat * 256 + (byte body.length).toNat = body.length := by
    simp only [byte, BitVec.toNat_ofNat]
    omega
  simp only [be16, List.cons_append, List.nil_append, receiveBytes]
  rw [byteReceived_assembling send, takeByte_kind rfl]
  change receiveBytes body (byteReceived _ _ (assembling (.length k _) held s)) = _
  rw [byteReceived_assembling send, takeByte_length rfl, value, if_pos fits]
  rfl

end

end Sys2Proof.Machine

namespace Sys2Proof

open Machine

/-- Settles O22: the bytes before the last bring the assembly to the whole body, and the frame's effects see
nothing of the assembly. -/
theorem bytesMakeFrames : Obligations.BytesMakeFrames := by
  constructor
  · intro body s rst lo hi idle send place
    refine next_of_released rst ?_
    have ok : Receives s := ⟨rst, send, by rw [idle]; nofun, .inr place⟩
    rw [receiveBody_of_receives ok ⟨lo, hi⟩]
    have fits : lengthFits .command body.length = true := by simp [lengthFits, lo, hi]
    have first : byteReceived 0xA1#8 (oddParity 0xA1#8) s = assembling (.kind .command) true s := by
      rw [byteReceived_of_odd send, takeByte_idle (by exact idle)]
      exact takeKind_of_command place
    rw [frameBytes, List.cons_append, receiveBytes, first,
      receiveBytes_length send _ _ _ (by omega) fits]
    obtain ⟨b, bs, rfl⟩ : ∃ b bs, body = b :: bs := List.exists_cons_of_length_pos (by omega)
    obtain ⟨a, eq, live⟩ := receiveBytes_body send .command (b :: bs).length true b bs [] (Nat.zero_add _)
    have last : takeBody .command (b :: bs).length (b :: bs) (assembling a true s)
        = receiveCommand (takeCommand (b :: bs)) (assembling a true s) := if_neg (lt_irrefl _)
    rw [eq, List.nil_append, last]
    exact (receiveCommand_of_receives (s := assembling a true s) _ ⟨rst, send, live, .inl rfl⟩).symm
  · intro body s rst size idle send
    refine next_of_released rst ?_
    have live : s.link.assembly ≠ .discard := by rw [idle]; nofun
    rw [receiveData_of_live send live, if_pos size]
    have fits : lengthFits .data body.length = true := by simp [lengthFits, size]
    have first : byteReceived 0xA4#8 (oddParity 0xA4#8) s = assembling (.kind .data) s.link.heldFrame s := by
      rw [byteReceived_of_odd send, takeByte_idle (by exact idle)]
      rfl
    rw [frameBytes, List.cons_append, receiveBytes, first,
      receiveBytes_length send _ _ _ (by omega) fits]
    obtain ⟨b, bs, rfl⟩ : ∃ b bs, body = b :: bs := List.exists_cons_of_length_pos (by omega)
    obtain ⟨a, eq, live⟩ :=
      receiveBytes_body send .data (b :: bs).length s.link.heldFrame b bs [] (Nat.zero_add _)
    have last : takeBody .data (b :: bs).length (b :: bs) (assembling a s.link.heldFrame s)
        = receiveData (b :: bs) (assembling a s.link.heldFrame s) := if_neg (lt_irrefl _)
    rw [eq, List.nil_append, last,
      receiveData_of_live (s := assembling a s.link.heldFrame s) send live, if_pos size]
    rfl

end Sys2Proof

/-! ## Proofs: the fields of SENSE -/

namespace Sys2Proof.Machine

/-! ### The six parts of the layout -/

/-- Bytes 0 to 3: the cartridge. -/
def senseCart (s : State) : List Byte :=
  [byte s.cart.state.code, byte s.cart.state.reason]
  ++ opt8 (if s.cart.state = .unloading ∨ s.cart.state = .released then
      s.cart.origin.map CartState.code else none)
  ++ [byte (typeCode s.cart.type + bit s.cart.wp 2 + bit s.cart.hold 3)]

/-- Bytes 4 to 10: the drive, the rest and the attention set. -/
def senseDrive (s : State) : List Byte :=
  [byte s.spin.state.code, byte s.pos.state.code,
      byte (bit s.spin.deviating 0 + bit s.clk.locked 1 + bit (!s.cu.resets.isEmpty) 2
        + bit s.cu.pendAuto 3 + bit s.cu.pendEject 4 + bit s.cu.pendWake 5),
      byte s.rest.state.code, byte (minutesLeft s)]
  ++ be16 s.cu.attention.toNat

/-- Bytes 23 to 27: the queue and the slot. -/
def senseQueue (s : State) : List Byte :=
  [byte s.cu.queue.length, byte (s.cu.queue.countP fun e => e.cancelled),
      byte s.cu.slot.item.code, s.cu.slot.item.commandCode, s.cu.slot.item.tag.getD 0#8]

/-- Bytes 28 to 30: the format in progress. -/
def senseFormat (s : State) : List Byte :=
  match s.fmt with
  | some f => byte f.phase.code :: be16 f.cylinder
  | none => byte 0 :: be16 0

/-- Bytes 31 to 38: the session and its copies. -/
def senseRecord (s : State) : List Byte :=
  [byte s.record.copyStatus.code, byte (bit s.record.unsaved 0 + bit (fullSession s).isSome 1)]
  ++ (match fullSession s with
      | some r => be32 r.serial.toNat ++ be16 r.generation.toNat
      | none => be32 0 ++ be16 0)

theorem senseFields_eq (s : State) :
    senseFields s = senseCart s ++ (senseDrive s ++ (senseFault s ++ (senseQueue s
      ++ (senseFormat s ++ senseRecord s)))) := by
  unfold senseFields senseCart senseDrive senseQueue senseFormat senseRecord
  simp only [List.append_assoc, List.cons_append, List.nil_append] <;> rfl

theorem senseCart_length (s : State) : (senseCart s).length = 4 := by
  unfold senseCart opt8
  split <;> rfl

theorem senseDrive_length (s : State) : (senseDrive s).length = 7 := rfl

theorem senseFault_length (s : State) : (senseFault s).length = 12 := by
  unfold senseFault
  split <;> rfl

theorem senseQueue_length (s : State) : (senseQueue s).length = 5 := rfl

theorem senseFormat_length (s : State) : (senseFormat s).length = 3 := by
  unfold senseFormat
  split <;> rfl

theorem senseRecord_length (s : State) : (senseRecord s).length = 8 := by
  unfold senseRecord
  split <;> rfl

/-- The bytes of a part of a list. -/
theorem take_drop_part {p q r : List Byte} {m n : Nat} (hp : p.length = m) (hq : q.length = n) :
    ((p ++ (q ++ r)).drop m).take n = q := by
  rw [List.drop_left' hp, List.take_left' hq]

/-- The session byte: bit 0 for an unsaved session, bit 1 for a full one. -/
theorem byte_session (unsaved full : Bool) :
    byte (bit unsaved 0 + bit full 1)
      = (if full then 2#8 else 0#8) ||| byte (if unsaved then 1 else 0) := by
  revert unsaved full
  decide

/-- The session bytes: the full flag, the serial and the generation. -/
def sessionBytes : SessionState → Byte × List Byte
  | .full r => (2#8, be32 r.serial.toNat ++ be16 r.generation.toNat)
  | _ => (0#8, List.replicate 6 0#8)

theorem sessionBytes_eq (s : State) :
    sessionBytes s.record.session = (if (fullSession s).isSome then 2#8 else 0#8,
      match fullSession s with
      | some r => be32 r.serial.toNat ++ be16 r.generation.toNat
      | none => be32 0 ++ be16 0) := by
  unfold sessionBytes fullSession
  rcases s.record.session with _ | t | r <;> rfl

theorem senseFields_parts (s : State) :
    (senseFields s).length = 39
    ∧ (senseFields s).take 4 = senseCart s
    ∧ ((senseFields s).drop 4).take 7 = senseDrive s
    ∧ ((senseFields s).drop 11).take 12 = senseFault s
    ∧ ((senseFields s).drop 23).take 5 = senseQueue s
    ∧ ((senseFields s).drop 28).take 3 = senseFormat s
    ∧ (senseFields s).drop 31 = senseRecord s := by
  have c := senseCart_length s
  have d := senseDrive_length s
  have f := senseFault_length s
  have q := senseQueue_length s
  have m := senseFormat_length s
  have r := senseRecord_length s
  rw [senseFields_eq]
  refine ⟨by simp only [List.length_append]; omega, List.take_left' c, take_drop_part c d, ?_, ?_, ?_, ?_⟩
  · rw [← List.append_assoc]
    exact take_drop_part (by simp only [List.length_append]; omega) f
  · rw [← List.append_assoc, ← List.append_assoc]
    exact take_drop_part (by simp only [List.length_append]; omega) q
  · rw [← List.append_assoc, ← List.append_assoc, ← List.append_assoc]
    exact take_drop_part (by simp only [List.length_append]; omega) m
  · rw [← List.append_assoc, ← List.append_assoc, ← List.append_assoc, ← List.append_assoc]
    exact List.drop_left' (by simp only [List.length_append]; omega)

end Sys2Proof.Machine

namespace Sys2Proof

open Machine

/-- Settles O23: each part of the layout by the values of the fields that it shows. -/
theorem senseLayout : Obligations.SenseLayout := by
  intro s f flag cartByte reason origin type spindle heads rest minutes fault slot format status session
  have code (c : CartState) : byte c.code = cartByte c := by cases c <;> rfl
  obtain ⟨length, cart, drive, record, queue, phase, last⟩ := senseFields_parts s
  refine ⟨length, cart.trans ?_, drive.trans ?_, record.trans ?_, queue.trans ?_, phase.trans ?_, last.trans ?_⟩
  · have reason_eq : byte s.cart.state.reason = reason := by
      simp only [reason]
      cases s.cart.state with
      | refused r => cases r <;> rfl
      | _ => rfl
    have origin_eq : opt8 (if s.cart.state = .unloading ∨ s.cart.state = .released then
        s.cart.origin.map CartState.code else none) = [origin] := by
      simp only [origin]
      cases s.cart.state <;> cases s.cart.origin <;> simp [opt8, code]
    have type_eq : typeCode s.cart.type = type := by
      simp only [type]
      cases s.cart.type with
      | none => rfl
      | some t => cases t <;> rfl
    unfold senseCart
    rw [code, reason_eq, origin_eq, type_eq]
    rfl
  · have spindle_eq : byte s.spin.state.code = spindle := by
      simp only [spindle]
      cases s.spin.state <;> rfl
    have heads_eq : byte s.pos.state.code = heads := by
      simp only [heads]
      cases s.pos.state <;> rfl
    have rest_eq : byte s.rest.state.code = rest := by
      simp only [rest]
      cases s.rest.state <;> rfl
    have minutes_eq : minutesLeft s = minutes := by
      simp only [minutesLeft, minutes]
      cases s.rest.timer <;> rfl
    unfold senseDrive
    rw [spindle_eq, heads_eq, rest_eq, minutes_eq]
    rfl
  · simp only [senseFault, fault]
    cases s.fault.slot with
    | none => rfl
    | some r =>
      obtain ⟨cls, cyl, head, tag, lba, count⟩ := r
      cases cls <;> rfl
  · simp only [senseQueue, slot]
    cases s.cu.slot.item <;> rfl
  · simp only [senseFormat, format]
    cases s.fmt with
    | none => rfl
    | some g =>
      simp only
      cases g.phase <;> rfl
  · have status_eq : byte s.record.copyStatus.code = status := by
      simp only [status]
      cases s.record.copyStatus <;> rfl
    unfold senseRecord
    rw [status_eq, byte_session]
    have session_eq : session = sessionBytes s.record.session := rfl
    rw [session_eq, sessionBytes_eq]
    rfl

end Sys2Proof

/-! ## Proofs: the record image reads back -/

namespace Sys2Proof.Machine

/-! ### Numbers as bytes -/

@[simp] theorem toNat_byte (n : Nat) : (byte n).toNat = n % 256 := BitVec.toNat_ofNat n 8

theorem word16_bytes {n : Nat} (h : n < 65536) : n / 256 % 256 * 256 + n % 256 = n := by omega

theorem word32_bytes {n : Nat} (h : n < 4294967296) :
    (n / 16777216 % 256 * 256 + n / 65536 % 256) * 65536 + (n / 256 % 256 * 256 + n % 256) = n := by omega

/-! ### One zone entry -/

/-- Its list holds at most one entry for each spare (R94). -/
theorem list_length_le_of_consistent {t : CartType} {z : Zone} (h : z.consistent t = true) :
    z.list.length ≤ t.spareWidth := by
  have le : z.list.length ≤ z.setCount t := by
    simp only [Zone.consistent, Bool.and_eq_true, decide_eq_true_eq] at h
    exact h.1.1.1
  refine le.trans ?_
  have := List.countP_le_length (p := fun k => z.isSet k) (l := List.range t.spareWidth)
  rwa [List.length_range] at this

theorem userSlots_lt (t : CartType) : t.userSlots < 65536 := by cases t <;> decide

theorem readEntries_entryBytes (l : List ListEntry) (tail : List Byte)
    (small : ∀ e ∈ l, e.offset < 65536 ∧ e.spare < 256) :
    readEntries l.length (l.flatMap entryBytes ++ tail) = l := by
  induction l with
  | nil => cases tail <;> rfl
  | cons e es ih =>
    obtain ⟨offset, spare⟩ := small e (List.mem_cons_self ..)
    have rest := ih fun x hx => small x (List.mem_cons_of_mem _ hx)
    change readEntries (es.length + 1)
      (byte (e.offset / 256) :: byte e.offset :: byte e.spare :: (es.flatMap entryBytes ++ tail)) = e :: es
    rw [readEntries, rest]
    simp only [toNat_byte, word16_bytes offset, Nat.mod_eq_of_lt spare]

theorem entryBytes_length (l : List ListEntry) : (l.flatMap entryBytes).length = 3 * l.length := by
  induction l with
  | nil => rfl
  | cons e es ih =>
    rw [List.flatMap_cons, List.length_append, ih]
    simp only [entryBytes, be16, List.length_append, List.length_cons, List.length_nil]
    omega

/-- The bitmap bytes of a zone entry. -/
def bitmapOf (t : CartType) (z : Zone) : List Byte :=
  match t with
  | .a => [byte z.spares.toNat]
  | .b => be32 z.spares.toNat

theorem bitmapOf_length (t : CartType) (z : Zone) : (bitmapOf t z).length = t.bitmapBytes := by
  cases t <;> rfl

theorem zoneBytes_eq (t : CartType) (z : Zone) :
    zoneBytes t z = bitmapOf t z ++ byte z.list.length :: z.list.flatMap entryBytes := by
  cases t <;> rfl

theorem readBitmap_bitmapOf {t : CartType} {z : Zone} (width : z.spares.toNat < 2 ^ t.spareWidth)
    (tail : List Byte) : readBitmap t (bitmapOf t z ++ tail) = z.spares := by
  cases t with
  | a =>
    change BitVec.ofNat 32 (byte z.spares.toNat).toNat = z.spares
    have narrow : z.spares.toNat < 256 := width
    rw [toNat_byte, Nat.mod_eq_of_lt narrow, BitVec.ofNat_toNat, BitVec.setWidth_eq]
  | b =>
    change BitVec.ofNat 32 (((byte (z.spares.toNat / 16777216)).toNat * 256
      + (byte (z.spares.toNat / 65536)).toNat) * 65536
      + ((byte (z.spares.toNat / 256)).toNat * 256 + (byte z.spares.toNat).toNat)) = z.spares
    simp only [toNat_byte]
    rw [word32_bytes width, BitVec.ofNat_toNat, BitVec.setWidth_eq]

/-- A stored list passes the checks that its entry met (R81, R94). -/
theorem listConsistent_of_consistent {t : CartType} {z : Zone} (h : z.consistent t = true) :
    listConsistent t z.spares z.list = true := by
  simp only [Zone.consistent, Bool.and_eq_true, decide_eq_true_eq] at h
  obtain ⟨⟨⟨-, all⟩, up⟩, nodup⟩ := h
  simp only [listConsistent, Bool.and_eq_true, decide_eq_true_eq]
  exact ⟨⟨up, all⟩, nodup⟩

/-- The walk reads one zone entry and goes on behind it. -/
theorem walkZones_zoneBytes {t : CartType} {z : Zone} (n : Nat) (tail : List Byte)
    (ok : z.consistent t = true) (width : z.spares.toNat < 2 ^ t.spareWidth) :
    walkZones t (n + 1) (zoneBytes t z ++ tail)
      = match walkZones t n tail with
        | .ok zs => .ok (z :: zs)
        | .error e => .error e := by
  have few : z.list.length ≤ 32 := (list_length_le_of_consistent ok).trans (spareWidth_le t)
  have eq : zoneBytes t z ++ tail
      = bitmapOf t z ++ byte z.list.length :: (z.list.flatMap entryBytes ++ tail) := by
    rw [zoneBytes_eq, List.append_assoc, List.cons_append]
  have count : byteAt (zoneBytes t z ++ tail) t.bitmapBytes = z.list.length := by
    rw [eq, byteAt, List.getD_append_right _ _ _ _ (bitmapOf_length t z).le, bitmapOf_length, Nat.sub_self,
      List.getD_cons_zero, toNat_byte]
    omega
  have length : (zoneBytes t z ++ tail).length = t.bitmapBytes + 1 + 3 * z.list.length + tail.length := by
    rw [eq, List.length_append, List.length_cons, List.length_append, entryBytes_length, bitmapOf_length]
    omega
  have behind : (zoneBytes t z ++ tail).drop (t.bitmapBytes + 1) = z.list.flatMap entryBytes ++ tail := by
    rw [eq, ← List.drop_drop, List.drop_left' (bitmapOf_length t z), List.drop_succ_cons, List.drop_zero]
  have after : (zoneBytes t z ++ tail).drop (t.bitmapBytes + 1 + 3 * z.list.length) = tail := by
    rw [← List.drop_drop, behind, List.drop_left' (entryBytes_length _)]
  have bitmap : readBitmap t (zoneBytes t z ++ tail) = z.spares := by
    rw [eq]; exact readBitmap_bitmapOf width _
  have small : ∀ e ∈ z.list, e.offset < 65536 ∧ e.spare < 256 := by
    intro e he
    obtain ⟨all, -⟩ := (consistent_iff t z).mp ok
    obtain ⟨offset, spare, -⟩ := all e he
    exact ⟨offset.trans (userSlots_lt t), (spare.trans_le (spareWidth_le t)).trans (by decide)⟩
  have entries : readEntries z.list.length (z.list.flatMap entryBytes ++ tail) = z.list :=
    readEntries_entryBytes _ _ small
  have wide : ¬ t.spareWidth < z.list.length := Nat.not_lt.mpr (list_length_le_of_consistent ok)
  have long : ¬ (zoneBytes t z ++ tail).length < t.bitmapBytes + 1 := by rw [length]; omega
  have longer : ¬ (zoneBytes t z ++ tail).length < t.bitmapBytes + 1 + 3 * z.list.length := by rw [length]; omega
  rw [walkZones, if_neg long, count, if_neg wide, if_neg longer, behind, bitmap, entries,
    listConsistent_of_consistent ok, after]
  rfl

/-- The walk over the bytes of a zone table gives the table back. -/
theorem walkZones_zones {t : CartType} (zones : List Zone)
    (ok : ∀ z ∈ zones, z.consistent t = true ∧ z.spares.toNat < 2 ^ t.spareWidth) :
    walkZones t zones.length (zones.flatMap (zoneBytes t)) = .ok zones := by
  induction zones with
  | nil => rfl
  | cons z zs ih =>
    obtain ⟨fit, width⟩ := ok z (List.mem_cons_self ..)
    rw [List.flatMap_cons, List.length_cons, walkZones_zoneBytes _ _ fit width,
      ih fun x hx => ok x (List.mem_cons_of_mem _ hx)]

/-! ### The header -/

theorem zoneBytes_length (t : CartType) (z : Zone) :
    (zoneBytes t z).length = t.bitmapBytes + 1 + 3 * z.list.length := by
  rw [zoneBytes_eq, List.length_append, List.length_cons, entryBytes_length, bitmapOf_length]
  omega

theorem recordLength_eq (t : CartType) (zones : List Zone) :
    recordLength t zones = 16 + (zones.flatMap (zoneBytes t)).length := by
  rw [recordLength, List.length_flatMap]
  simp only [zoneBytes_length]

/-- The length of a record lies within the bounds of its type (R80). -/
theorem recordLength_bounds {t : CartType} {zones : List Zone} (ok : ∀ z ∈ zones, z.consistent t = true) :
    16 + zones.length * (t.bitmapBytes + 1) ≤ recordLength t zones
    ∧ recordLength t zones ≤ 16 + zones.length * (t.bitmapBytes + 1 + 3 * t.spareWidth) := by
  unfold recordLength
  induction zones with
  | nil => simp
  | cons z zs ih =>
    obtain ⟨lo, hi⟩ := ih fun x hx => ok x (List.mem_cons_of_mem _ hx)
    have few := list_length_le_of_consistent (ok z (List.mem_cons_self ..))
    have wider := Nat.mul_le_mul_left 3 few
    simp only [List.map_cons, List.sum_cons, List.length_cons, Nat.add_one_mul zs.length]
    omega

theorem lengthInRange_recordLength {t : CartType} {zones : List Zone} (count : zones.length = t.zoneCount)
    (ok : ∀ z ∈ zones, z.consistent t = true) :
    lengthInRange t (recordLength t zones) = true ∧ recordLength t zones < 65536 := by
  obtain ⟨lo, hi⟩ := recordLength_bounds ok
  rw [count] at lo hi
  cases t <;>
    simp only [CartType.zoneCount, CartType.bitmapBytes, CartType.spareWidth, lengthInRange, Bool.and_eq_true,
      decide_eq_true_eq] at lo hi ⊢ <;> omega

theorem byteSum_lt (l : List Byte) : byteSum l < 65536 := Nat.mod_lt _ (by decide)

/-- The first 14 bytes of a record (R77). -/
def recordHead (t : CartType) (lock inProgress : Bool) (generation : BitVec 16) (serial : BitVec 32)
    (zones : List Zone) : List Byte :=
  [0xC3#8, 0x5A#8, 1#8, byte t.code, byte (bit lock 0 + bit inProgress 1), byte zones.length]
    ++ be16 generation.toNat ++ be32 serial.toNat ++ be16 (recordLength t zones)

theorem recordImage_eq (t : CartType) (lock inProgress : Bool) (generation : BitVec 16) (serial : BitVec 32)
    (zones : List Zone) :
    recordImage t lock inProgress generation serial zones
      = recordHead t lock inProgress generation serial zones
        ++ (be16 (byteSum (recordHead t lock inProgress generation serial zones ++ zones.flatMap (zoneBytes t)))
        ++ zones.flatMap (zoneBytes t)) := by
  rw [← List.append_assoc]
  rfl

section
variable (t : CartType) (lock inProgress : Bool) (generation : BitVec 16) (serial : BitVec 32)
  (zones : List Zone) (tail : List Byte)

theorem statedType_image :
    statedType (recordHead t lock inProgress generation serial zones ++ tail) = some t := by
  cases t <;> rfl

theorem mark_image :
    word16At (recordHead t lock inProgress generation serial zones ++ tail) 0 = 0xC35A := by
  change (0xC3#8).toNat * 256 + (0x5A#8).toNat = 0xC35A
  decide

theorem version_image :
    byteAt (recordHead t lock inProgress generation serial zones ++ tail) 2 = 1 := rfl

theorem flags_image :
    byteAt (recordHead t lock inProgress generation serial zones ++ tail) 4
      = lock.toNat + 2 * inProgress.toNat := by
  cases lock <;> cases inProgress <;> rfl

theorem zoneCount_image :
    byteAt (recordHead t lock inProgress generation serial zones ++ tail) 5 = zones.length % 256 :=
  toNat_byte zones.length

theorem generation_image :
    BitVec.ofNat 16 (word16At (recordHead t lock inProgress generation serial zones ++ tail) 6)
      = generation := by
  change BitVec.ofNat 16 ((byte (generation.toNat / 256)).toNat * 256 + (byte generation.toNat).toNat) = _
  rw [toNat_byte, toNat_byte, word16_bytes generation.isLt, BitVec.ofNat_toNat, BitVec.setWidth_eq]

theorem serial_image :
    BitVec.ofNat 32 (word32At (recordHead t lock inProgress generation serial zones ++ tail) 8)
      = serial := by
  change BitVec.ofNat 32 (((byte (serial.toNat / 16777216)).toNat * 256
      + (byte (serial.toNat / 65536)).toNat) * 65536
      + ((byte (serial.toNat / 256)).toNat * 256 + (byte serial.toNat).toNat)) = serial
  simp only [toNat_byte]
  rw [word32_bytes serial.isLt, BitVec.ofNat_toNat, BitVec.setWidth_eq]

theorem length_image (h : recordLength t zones < 65536) :
    word16At (recordHead t lock inProgress generation serial zones ++ tail) 12 = recordLength t zones := by
  change (byte (recordLength t zones / 256)).toNat * 256 + (byte (recordLength t zones)).toNat = _
  rw [toNat_byte, toNat_byte, word16_bytes h]

theorem sum_image {n : Nat} (h : n < 65536) :
    word16At (recordHead t lock inProgress generation serial zones ++ (be16 n ++ tail)) 14 = n := by
  change (byte (n / 256)).toNat * 256 + (byte n).toNat = _
  rw [toNat_byte, toNat_byte, word16_bytes h]

/-- Of a record with anything behind it, what stands behind the header is its zone entries. -/
theorem body_image {n m : Nat} (body : List Byte) (h : m = 16 + body.length) :
    ((recordHead t lock inProgress generation serial zones ++ (be16 n ++ (body ++ tail))).take m).drop 16
      = body := by
  rw [List.drop_take]
  change ((body ++ tail).take (m - 16)) = body
  rw [h, Nat.add_sub_cancel_left, List.take_left]

theorem head_image :
    (recordHead t lock inProgress generation serial zones ++ tail).take 14
      = recordHead t lock inProgress generation serial zones := List.take_left' rfl

end

end Sys2Proof.Machine

namespace Sys2Proof

open Machine

/-- Settles O21: each field of the header reads back, the sum leaves its own bytes out, and the walk gives the
table back. -/
theorem recordReadsBack : Obligations.RecordReadsBack := by
  intro t lock inProgress generation serial zones rest count ok image
  obtain ⟨inRange, short⟩ := lengthInRange_recordLength count fun z hz => (ok z hz).1
  let body := zones.flatMap (zoneBytes t)
  let head := recordHead t lock inProgress generation serial zones
  have eq : image = head ++ (be16 (byteSum (head ++ body)) ++ (body ++ rest)) := by
    simp only [image, recordImage_eq, List.append_assoc, head, body]
  have type : statedType image = some t := by rw [eq]; exact statedType_image ..
  have length : word16At image 12 = recordLength t zones := by rw [eq]; exact length_image _ _ _ _ _ _ _ short
  have inside : (image.take (recordLength t zones)).drop 16 = body := by
    rw [eq]; exact body_image _ _ _ _ _ _ _ _ (recordLength_eq t zones)
  have sum : word16At image 14 = byteSum (head ++ body) := by
    rw [eq]; exact sum_image t lock inProgress generation serial zones (body ++ rest) (byteSum_lt _)
  have stored : storedSum image (recordLength t zones) = byteSum (head ++ body) := by
    have first : image.take 14 = head := by rw [eq]; exact head_image ..
    rw [storedSum, inside, first]
  have walked : walkZones t t.zoneCount body = .ok zones := count ▸ walkZones_zones zones ok
  have flags : byteAt image 4 = lock.toNat + 2 * inProgress.toNat := by rw [eq]; exact flags_image ..
  have final : finalFinding image = ({ cls := .valid, reason := .none, header := some (headerSeen image) },
      some { session := { type := t, lock, generation, serial, zones }, inProgress }) := by
    have low : (byteAt image 4 % 2 == 1) = lock := by rw [flags]; cases lock <;> cases inProgress <;> rfl
    have high : (byteAt image 4 / 2 % 2 == 1) = inProgress := by
      rw [flags]; cases lock <;> cases inProgress <;> rfl
    have gen : BitVec.ofNat 16 (word16At image 6) = generation := by rw [eq]; exact generation_image ..
    have ser : BitVec.ofNat 32 (word32At image 8) = serial := by rw [eq]; exact serial_image ..
    have good : ¬ storedSum image (recordLength t zones) ≠ word16At image 14 := by
      rw [stored, sum]; exact not_not_intro rfl
    simp only [finalFinding, type, length, if_neg good, inside, walked, low, high, gen, ser]
  refine ⟨?_, by rw [final], by rw [final]⟩
  have mark : ¬ word16At image 0 ≠ 0xC35A := by rw [eq, mark_image]; exact not_not_intro rfl
  have version : ¬ byteAt image 2 ≠ 1 := by rw [eq, version_image]; exact not_not_intro rfl
  have zoneCount : ¬ byteAt image 5 ≠ t.zoneCount := by
    have small : t.zoneCount % 256 = t.zoneCount := by cases t <;> rfl
    rw [eq, zoneCount_image, count, small]; exact not_not_intro rfl
  simp only [headerFinding, if_neg mark, if_neg version, type, if_neg zoneCount, length, inRange, Bool.not_true,
    Bool.false_eq_true, if_false]

end Sys2Proof

/-! ## Proofs: the queued commands -/

namespace Sys2Proof.Machine

/-! ### A command at the slot -/

/-- A row whose unmarked command is at the queue head takes it and works it out. -/
theorem next_of_waiting {code : Byte} {e : Entry} {s t : State} {f : Entry → State → State}
    (h : Waiting code e s) (k : settle (f e (begun e .idle s)) = t) :
    (.next (unlessReset (runHead code f) s) : Host.Outcome State Fault Refusal) = .next t := by
  refine next_of_released h.1 ?_
  rw [runHead_of_waiting f h, takeHead_eq, k]

/-- An item in the slot that has no transition to make leaves the state as it is. -/
theorem settle_still {s : State} (mail : s.mail = Mail.none) (load : s.record.load = none)
    (copy : s.record.copyWrite = none) (item : advanceItem s = none) : settle s = s := by
  rw [settle_of_done ((advance_item load copy).trans item), ← mail]

/-- Two transitions and nothing after them. -/
theorem settle_of_two {s t u : State} (h : advance s = some t) (k : advance t = some u)
    (l : advance u = none) : settle s = { u with mail := Mail.none } := by
  simp [settle, settleFuel, advanceMany, h, k, l]

theorem advance_quiet {s : State} (h : Quiet s) : advance s = none := by
  obtain ⟨slot, load, copy, -⟩ := h
  rw [advance_item load copy]
  simp [advanceItem, slot, Slot.free]

section
variable {e : Entry} {s : State} (quiet : Quiet s)
include quiet

/-- A command ends in a slot whose part has no work in hand (R177). -/
theorem finishWith_begun (o : OutcomeCode) (fields : List Byte) (w : Work) :
    finishWith o fields (begun e w s) = answered e o fields s := by
  obtain ⟨slot, work⟩ := quiet
  have clear : clearWork (begun e w s) = begun e w s := clearWork_of_noWork work
  rw [finishWith_command o fields (begun e w s) e rfl, clear]
  unfold answered
  refine if_congr Iff.rfl ?_ rfl
  simp only [replied, slot]
  rfl

theorem resultFields_begun (w : Work) : resultFields e (begun e w s) = resultFields e s := by
  have slot : (begun e w s).cu.slot.result = s.cu.slot.result := by rw [quiet.1]; rfl
  unfold resultFields
  rw [slot]
  rfl

theorem finish_begun (o : OutcomeCode) (w : Work) :
    finish o (begun e w s) = answered e o (resultFields e s) s := by
  rw [← resultFields_begun quiet w, ← finishWith_begun quiet]
  rfl

/-- An answered command leaves nothing to work out: its part is quiet, or its reply waits. -/
theorem settle_answered (o : OutcomeCode) (fields : List Byte) :
    settle (answered e o fields s) = answered e o fields s := by
  have work := quiet.2
  unfold answered
  simp only
  split
  · exact settle_quiet ⟨quiet.1, work⟩
  · obtain ⟨load, copy, -, -, -, -, -, -, -, -, -, -, -, -, -, -, -, mail⟩ := work
    exact settle_still mail load copy rfl

theorem advance_answered (o : OutcomeCode) (fields : List Byte) :
    advance (answered e o fields s) = none := by
  have work := quiet.2
  unfold answered
  simp only
  split
  · exact advance_quiet ⟨quiet.1, work⟩
  · obtain ⟨load, copy, -⟩ := work
    refine .trans (advance_item ?_ ?_) rfl
    · exact load
    · exact copy

theorem answered_mail (o : OutcomeCode) (fields : List Byte) :
    { answered e o fields s with mail := Mail.none } = answered e o fields s := by
  obtain ⟨-, -, -, -, -, -, -, -, -, -, -, -, -, -, -, -, -, -, mail⟩ := quiet
  unfold answered
  simp only
  rw [← mail]
  split <;> rfl

/-- A command that passes on at once to a stage with no transition to make. -/
theorem settle_begun (w : Work) (still : advanceItem (begun e w s) = none) :
    settle (begun e w s) = begun e w s := by
  obtain ⟨-, load, copy, -, -, -, -, -, -, -, -, -, -, -, -, -, -, -, mail⟩ := quiet
  exact settle_still mail load copy still

theorem advance_begun (w : Work) : advance (begun e w s) = advanceItem (begun e w s) := by
  obtain ⟨-, load, copy, -⟩ := quiet
  exact advance_item load copy

end

/-! ### Starting the spindle -/

/-- What a start request makes of the spindle (R28). -/
def Spindle.starts (parked : Bool) (p : Spindle) : Spindle :=
  match p.state with
  | .stopped => if parked then p.enterKick else { p with pendingStart := true }
  | .coasting => { p with pendingStart := true }
  | .braking => { p with pendingStart := true }
  | _ => p

theorem startRequest_eq (s : State) :
    startRequest s = { s with spin := s.spin.starts (s.pos.state == .parked) } := by
  cases h : s.spin.state
  case stopped =>
    by_cases parked : s.pos.state = .parked <;> simp [startRequest, Spindle.starts, h, parked]
  all_goals simp [startRequest, Spindle.starts, h]

theorem Spindle.starts_of_stopped {p : Spindle} (h : p.state = .stopped) : p.starts true = kicks p := by
  unfold Spindle.starts
  rw [h]
  rfl

/-- A start request does not bring a spindle AT_SPEED at once. -/
theorem Spindle.starts_state {p : Spindle} {parked : Bool} (h : p.state ≠ .atSpeed) :
    (p.starts parked).state ≠ .atSpeed := by
  unfold Spindle.starts
  split
  · split
    · nofun
    · exact h
  · exact h
  · exact h
  · exact h

theorem startRequest_quiet {s : State} (h : Quiet s) : Quiet (startRequest s) := by
  rw [startRequest_eq]
  exact h

theorem startRequest_spin_state {s : State} (h : s.spin.state ≠ .atSpeed) :
    (startRequest s).spin.state ≠ .atSpeed := by
  rw [startRequest_eq]
  exact Spindle.starts_state h

theorem startRequest_begun (e : Entry) (w : Work) (s : State) :
    startRequest (begun e w s) = begun e w (startRequest s) := by
  rw [startRequest_eq, startRequest_eq]
  rfl

theorem wakeMechanism_begun (e : Entry) (w : Work) (s : State) :
    wakeMechanism (begun e w s)
      = if s.spin.state = .atSpeed then begun e w (rested s) else begun e w (startRequest (rested s)) := by
  have eq : startRequest (endRest (begun e w s)) = begun e w (startRequest (rested s)) :=
    startRequest_begun e w (rested s)
  rw [← eq]
  rfl

theorem wakeMechanism_turning {e : Entry} {w : Work} {s : State} (h : s.spin.state = .atSpeed) :
    wakeMechanism (begun e w s) = begun e w (rested s) := by
  rw [wakeMechanism_begun, if_pos h]

theorem wakeMechanism_starting {e : Entry} {w : Work} {s : State} (h : s.spin.state ≠ .atSpeed) :
    wakeMechanism (begun e w s) = begun e w (startRequest (rested s)) := by
  rw [wakeMechanism_begun, if_neg h]

/-! ### The gates -/

theorem gated_of_refused {gate : Option OutcomeCode} {o : OutcomeCode} {work : State → State} {s : State}
    (h : gate = some o) : gated gate work s = finish o s := by
  unfold gated
  rw [h]

theorem gated_of_fault {gate : Option OutcomeCode} {work : State → State} {s : State} (h : gate = none)
    (fault : class13Held s = true) : gated gate work s = finish .faultPending s := by
  unfold gated
  rw [h]
  exact if_pos fault

theorem gated_of_pass {gate : Option OutcomeCode} {work : State → State} {s : State} (h : gate = none)
    (fault : class13Held s = false) : gated gate work s = work s := by
  unfold gated
  rw [h]
  exact if_neg (by rw [fault]; nofun)

/-- SPIN UP past its gates (R84 to R86). -/
def spinUpWork (e : Entry) (s : State) : State :=
  if s.cart.state = .present then beginStart s
  else if byteAt e.params 0 % 2 == 1 then beginReload s
  else beginSpinOnly s

/-- SEEK past its gates (R70). -/
def seekWork (e : Entry) (s : State) : State :=
  if (s.cart.type.getD .a).lastCylinder < word16At e.params 0 then finish .outOfRange s else beginSeek s

/-- What a command's gates answer when it is at the slot. -/
theorem next_of_gate {code : Byte} {e : Entry} {s : State} {gate : CartState → Option OutcomeCode}
    {f : Entry → State → State} (work : State → State)
    (gates : f e (begun e .idle s) = gated (gate s.cart.state) work (begun e .idle s)) (h : Waiting code e s) :
    (∀ o, gate s.cart.state = some o →
      (.next (unlessReset (runHead code f) s) : Host.Outcome State Fault Refusal)
        = .next (answered e o (resultFields e s) s))
    ∧ (gate s.cart.state = none → class13Held s = true →
      (.next (unlessReset (runHead code f) s) : Host.Outcome State Fault Refusal)
        = .next (answered e .faultPending (resultFields e s) s)) := by
  have quiet : Quiet s := h.2.1
  refine ⟨fun o refused => next_of_waiting h ?_, fun pass fault => next_of_waiting h ?_⟩
  · rw [gates, gated_of_refused refused, finish_begun quiet, settle_answered quiet]
  · have fault' : class13Held (begun e .idle s) = true := fault
    rw [gates, gated_of_fault pass fault', finish_begun quiet, settle_answered quiet]

end Sys2Proof.Machine

namespace Sys2Proof

open Machine

/-- Settles O33: a refused command is answered at once, and the table by each state. -/
theorem gatesRefuse : Obligations.GatesRefuse := by
  refine ⟨fun e s c code gate row waits => ?_, ⟨fun reid => ⟨rfl, rfl, rfl, rfl, rfl⟩, fun r known => ?_,
    rfl, rfl, rfl, rfl, fun _ => rfl, rfl, rfl, rfl, rfl, fun _ => rfl⟩⟩
  · simp only [List.mem_cons, Prod.mk.injEq, List.not_mem_nil, or_false] at row
    rcases row with ⟨rfl, rfl, rfl⟩ | ⟨rfl, rfl, rfl⟩ | ⟨rfl, rfl, rfl⟩ | ⟨rfl, rfl, rfl⟩ | ⟨rfl, rfl, rfl⟩
      | ⟨rfl, rfl, rfl⟩
    · exact next_of_gate (spinUpWork e) rfl waits
    · exact next_of_gate (seekWork e) rfl waits
    · exact next_of_gate (beginData .read) rfl waits
    · exact next_of_gate (beginData .write) rfl waits
    · exact next_of_gate (beginData .verify) rfl waits
    · exact next_of_gate beginReassign rfl waits
  · cases r with
    | typeUnknown => exact absurd rfl known
    | typeConflict => exact ⟨rfl, rfl⟩
    | recordDamaged => exact ⟨rfl, rfl⟩

end Sys2Proof

namespace Sys2Proof.Machine

/-- What a command past its gates does. -/
theorem next_of_pass {code : Byte} {e : Entry} {s t : State} {gate : CartState → Option OutcomeCode}
    {f : Entry → State → State} (work : State → State)
    (gates : f e (begun e .idle s) = gated (gate s.cart.state) work (begun e .idle s)) (h : Waiting code e s)
    (pass : gate s.cart.state = none) (fault : class13Held s = false)
    (k : settle (work (begun e .idle s)) = t) :
    (.next (unlessReset (runHead code f) s) : Host.Outcome State Fault Refusal) = .next t := by
  have fault' : class13Held (begun e .idle s) = false := fault
  refine next_of_waiting h ?_
  rw [gates, gated_of_pass pass fault', k]

/-! ### The result fields of each command (R195) -/

section
variable {e : Entry} (s : State)

theorem resultFields_spinUp (h : e.code = 0x10#8) : resultFields e s = [byte s.cart.state.code] := if_pos h

theorem resultFields_spinDown (h : e.code = 0x11#8) : resultFields e s = [byte s.cu.slot.result.code] := by
  rw [resultFields, h]
  rfl

theorem resultFields_seek (h : e.code = 0x12#8) :
    resultFields e s = be16 (word16At e.params 0) ++ be16 s.pos.cylinder := by
  rw [resultFields, h]
  rfl

theorem resultFields_read (h : e.code = 0x13#8) : resultFields e s = readFields s := by
  rw [resultFields, h]
  rfl

theorem resultFields_write (h : e.code = 0x14#8) : resultFields e s = writeFields s := by
  rw [resultFields, h]
  rfl

theorem resultFields_verify (h : e.code = 0x15#8) : resultFields e s = readFields s := by
  rw [resultFields, h]
  rfl

theorem resultFields_reassign (h : e.code = 0x16#8) : resultFields e s = reassignFields e.params s := by
  rw [resultFields, h]
  rfl

theorem resultFields_format (h : e.code = 0x17#8) : resultFields e s = formatFields s := by
  rw [resultFields, h]
  rfl

theorem resultFields_rest (h : e.code = 0x18#8) : resultFields e s = [byte s.cu.slot.result.code] := by
  rw [resultFields, h]
  rfl

theorem resultFields_eject (h : e.code = 0x19#8) : resultFields e s = [] := by
  rw [resultFields, h]
  rfl

theorem resultFields_saveSettings (h : e.code = 0x1C#8) : resultFields e s = [] := by
  rw [resultFields, h]
  rfl

theorem resultFields_loadDefaults (h : e.code = 0x1D#8) : resultFields e s = [] := by
  rw [resultFields, h]
  rfl

end

/-! ### The stages that wait for the spindle -/

/-- No answer is under way and no abort stands: the item in the slot goes by its stage alone. -/
structure Calm (s : State) : Prop where
  note : s.mail.note = none
  abort : s.cu.slot.abortPending = false

theorem begun_calm {e : Entry} {w : Work} {s : State} (h : s.mail = Mail.none) : Calm (begun e w s) := by
  refine ⟨?_, rfl⟩
  change s.mail.note = none
  rw [h]
  rfl

theorem Quiet.noMail {s : State} (h : Quiet s) : s.mail = Mail.none := by
  obtain ⟨-, -, -, -, -, -, -, -, -, -, -, -, -, -, -, -, -, -, mail⟩ := h
  exact mail

section
variable {s : State} (calm : Calm s)
include calm

theorem advanceItem_startSpin (w : s.cu.slot.work = .startSpin) :
    advanceItem s = if s.spin.state = .atSpeed then
      some (setWork .startHeads (requestTarget { cyl := 0, offset := 0 } (some .record) s)) else none := by
  simp only [advanceItem, w, advanceStart, calm.note, calm.abort, Bool.false_eq_true, if_false]

theorem advanceItem_spinOnly (w : s.cu.slot.work = .spinOnly) :
    advanceItem s = if s.spin.state = .atSpeed then some (finish .done s) else none := by
  simp only [advanceItem, w, advanceReload, calm.note, calm.abort, Bool.false_eq_true, if_false]

theorem advanceItem_reloadSpin (w : s.cu.slot.work = .reloadSpin) :
    advanceItem s = if s.spin.state = .atSpeed then
      some (setWork .reloadHeads (requestTarget { cyl := 0, offset := 0 } (some .record) s)) else none := by
  simp only [advanceItem, w, advanceReload, calm.note, calm.abort, Bool.false_eq_true, if_false]

theorem advanceItem_seekSpin (w : s.cu.slot.work = .seekSpin) :
    advanceItem s = if s.spin.state = .atSpeed then
      some (setWork .seekTarget
        (requestTarget { cyl := word16At (slotParams s) 0, offset := 0 } (some .seek) s)) else none := by
  simp only [advanceItem, w, advanceSeek, calm.note, calm.abort, Bool.false_eq_true, if_false]

theorem advanceItem_seekTarget (w : s.cu.slot.work = .seekTarget) :
    advanceItem s = s.mail.told.map fun o => finish (seekOutcome o) s := by
  simp only [advanceItem, w, advanceSeek, calm.note, calm.abort, Bool.false_eq_true, if_false]
  cases s.mail.told <;> rfl

end

theorem rested_quiet {s : State} (h : Quiet s) : Quiet (rested s) := h

/-- A command that waits for a spindle not AT_SPEED has nothing to work out. -/
theorem settle_starting {e : Entry} {w : Work} {s : State} (quiet : Quiet s) (slow : s.spin.state ≠ .atSpeed)
    (stage : ∀ u, Calm u → u.cu.slot.work = w → u.spin.state ≠ .atSpeed → advanceItem u = none) :
    settle (begun e w (startRequest s)) = begun e w (startRequest s) :=
  settle_begun (startRequest_quiet quiet) w
    (stage _ (begun_calm (startRequest_quiet quiet).noMail) rfl (startRequest_spin_state slow))

end Sys2Proof.Machine

namespace Sys2Proof

open Machine

/-- Settles O34: SPIN UP past its gates by the cartridge state and the re-identify option; a stage that waits for
the spindle has nothing further to work out. -/
theorem spinUpBegins : Obligations.SpinUpBegins := by
  intro e s waits pass fault
  have quiet : Quiet s := waits.2.1
  have acts {t : State} (k : settle (spinUpWork e (begun e .idle s)) = t) : exec .spinUp s = .next t :=
    next_of_pass (gate := spinUpGate (byteAt e.params 0 % 2 == 1)) (spinUpWork e) rfl waits pass fault k
  have start (h : s.cart.state = .present) : spinUpWork e (begun e .idle s)
      = begun e .startSpin (startRequest { s with
          cart := { s.cart with state := .starting }, cu := { s.cu with pendAuto := false } }) := by
    refine (if_pos h).trans ?_
    exact congrArg (setWork .startSpin) (startRequest_begun e .idle { s with
      cart := { s.cart with state := .starting }, cu := { s.cu with pendAuto := false } })
  have only (h : s.cart.state ≠ .present) (plain : byteAt e.params 0 % 2 = 0) :
      spinUpWork e (begun e .idle s) = setWork .spinOnly (wakeMechanism (begun e .idle s)) := by
    have no : ¬ (byteAt e.params 0 % 2 == 1) = true := by rw [plain]; nofun
    exact (if_neg h).trans (if_neg no)
  have reload (h : s.cart.state ≠ .present) (again : byteAt e.params 0 % 2 = 1) :
      spinUpWork e (begun e .idle s) = if s.record.unsaved then
          setWork .reloadSave (beginWriteBack (begun e .idle (rested s)))
        else setWork .reloadSpin (if s.spin.state = .atSpeed then begun e .idle (rested s)
          else startRequest (begun e .idle (rested s))) := by
    have yes : (byteAt e.params 0 % 2 == 1) = true := by rw [again]; rfl
    exact (if_neg h).trans (if_pos yes)
  refine ⟨fun h stopped parked => acts ?_, fun h => acts (congrArg settle (start h)),
    fun h plain turning => acts ?_, fun h plain slow => acts ?_, fun h again saved slow => acts ?_,
    fun h again saved turning => acts ?_, fun h again unsaved => acts ?_⟩
  · rw [start h]
    have slow : s.spin.state ≠ .atSpeed := by rw [stopped]; nofun
    refine (settle_starting (s := { s with
      cart := { s.cart with state := .starting }, cu := { s.cu with pendAuto := false } }) quiet slow
      fun u calm w slow => by rw [advanceItem_startSpin calm w, if_neg slow]).trans ?_
    have at_rest : (s.pos.state == .parked) = true := by rw [parked]; rfl
    rw [startRequest_eq, at_rest, Spindle.starts_of_stopped stopped]
  · rw [only h plain, wakeMechanism_turning turning]
    have calm : Calm (begun e .spinOnly (rested s)) := begun_calm quiet.noMail
    have first : advance (begun e .spinOnly (rested s)) = some (finish .done (begun e .spinOnly (rested s))) := by
      rw [advance_begun (rested_quiet quiet), advanceItem_spinOnly calm rfl]
      exact if_pos turning
    have code : resultFields e (rested s) = [byte s.cart.state.code] :=
      resultFields_spinUp (rested s) waits.2.2.2.2.2.1
    rw [finish_begun (rested_quiet quiet), code] at first
    exact (settle_of_one first (advance_answered (rested_quiet quiet) _ _)).trans
      (answered_mail (rested_quiet quiet) _ _)
  · rw [only h plain, wakeMechanism_starting slow]
    exact settle_starting (rested_quiet quiet) slow
      fun u calm w slow => by rw [advanceItem_spinOnly calm w, if_neg slow]
  · rw [reload h again, if_neg (by rw [saved]; nofun), if_neg slow, startRequest_begun]
    exact settle_starting (rested_quiet quiet) slow
      fun u calm w slow => by rw [advanceItem_reloadSpin calm w, if_neg slow]
  · rw [reload h again, if_neg (by rw [saved]; nofun), if_pos turning]
    rfl
  · rw [reload h again, if_pos unsaved]

end Sys2Proof

namespace Sys2Proof.Machine

/-! ### The target request in each state of the heads (R51, R52) -/

theorem replaceRequester_eq (q : Option Requester) (s : State) :
    replaceRequester q s = if s.pos.requester = none ∨ s.pos.requester = q then s else tell .ended s := by
  unfold replaceRequester tellRequester
  by_cases same : s.pos.requester = q
  · rw [if_pos same, if_pos (.inr same)]
  · rw [if_neg same]
    cases r : s.pos.requester with
    | none => exact (if_pos (.inl rfl)).symm
    | some p => rw [if_neg (by simpa [r] using same)]

theorem tellHeldEnded_eq (s : State) :
    tellHeldEnded s = if s.pos.held.bind (·.2) = none then s else tell .ended s := by
  unfold tellHeldEnded
  rcases s.pos.held with _ | ⟨t, _ | q⟩ <;> rfl

/-- The state of a seek by the distance (R51, R56). -/
theorem seekState_eq (t : Target) (s : State) :
    seekState (t.position - s.pos.x)
      = if |256 * (t.cyl : Int) + t.offset - s.pos.x| ≤ 512 then .settling else .seeking := by
  by_cases near : |256 * (t.cyl : Int) + t.offset - s.pos.x| ≤ 512
  · rw [if_pos near]
    exact if_neg (not_lt.mpr near)
  · rw [if_neg near]
    exact if_pos (not_le.mp near)

/-- The positioner with a fresh target: the seek, its counts and its restart begin anew (R51). -/
def Positioner.aimed (t : Target) (q : Option Requester) (p : Positioner) : Positioner :=
  { p with target := some t, requester := q, settle := 0, offTrack := 0, seekCount := 0, restartUsed := false
           resume := t.cyl, landHere := false }

/-- The positioner is `p`, and an earlier requester is told ENDED. -/
def takenOver (q : Option Requester) (p : Positioner) (s : State) : State :=
  if s.pos.requester = none ∨ s.pos.requester = q then { s with pos := p } else tell .ended { s with pos := p }

theorem newSeek_eq (t : Target) (q : Option Requester) (s : State) :
    newSeek t q s = { s with pos := { s.pos.aimed t q with
      state := if |256 * (t.cyl : Int) + t.offset - s.pos.x| ≤ 512 then .settling else .seeking } } := by
  rw [← seekState_eq]
  rfl

section
variable {t : Target} {q : Option Requester} {s : State} (told : s.mail.told = none)
include told

/-- No earlier answer is dropped. -/
theorem dropTold_eq : dropTold s = s := by
  unfold dropTold
  rw [← told]

theorem requestTarget_parked (h : s.pos.state = .parked) : requestTarget t q s = requestParked t q s := by
  rw [requestTarget_of_parked t q h, dropTold_eq told]

theorem requestTarget_loading (h : s.pos.state = .loading) :
    requestTarget t q s = takenOver q
      { s.pos with target := some t, requester := q, resume := t.cyl, landHere := false } s := by
  rw [requestTarget_of_loading t q h, dropTold_eq told, replaceRequester_eq, takenOver]
  split <;> rfl

theorem requestTarget_seeking_there (h : s.pos.state = .seeking ∨ s.pos.state = .settling)
    (there : s.pos.target = some t) :
    requestTarget t q s = takenOver q { s.pos with requester := q, resume := t.cyl } s := by
  rw [requestTarget_of_seeking t q h, if_pos there, dropTold_eq told, replaceRequester_eq, takenOver]
  split <;> rfl

theorem requestTarget_seeking_away (h : s.pos.state = .seeking ∨ s.pos.state = .settling)
    (away : s.pos.target ≠ some t) :
    requestTarget t q s = takenOver q { s.pos.aimed t q with
      state := if |256 * (t.cyl : Int) + t.offset - s.pos.x| ≤ 512 then .settling else .seeking } s := by
  rw [requestTarget_of_seeking t q h, if_neg away, dropTold_eq told, replaceRequester_eq, takenOver]
  split <;> rw [newSeek_eq] <;> rfl

theorem requestTarget_following_there (h : s.pos.state = .following) (there : s.pos.target = some t) :
    requestTarget t q s = if q = none then { s with pos := { s.pos with resume := t.cyl } }
      else tell .complete { s with pos := { s.pos with resume := t.cyl } } := by
  rw [requestTarget_of_following t q h, if_pos there, dropTold_eq told]
  cases q <;> rfl

theorem requestTarget_following_away (h : s.pos.state = .following) (away : s.pos.target ≠ some t) :
    requestTarget t q s = newSeek t q (depart s) := by
  rw [requestTarget_of_following t q h, if_neg away, dropTold_eq told]

theorem requestTarget_coasting (h : s.pos.state = .coasting) :
    requestTarget t q s = takenOver q { s.pos.aimed t q with
      remembered := if |256 * (t.cyl : Int) + t.offset - s.pos.x| ≤ 512 then .settling else .seeking } s := by
  rw [requestTarget_of_coasting t q h, dropTold_eq told, replaceRequester_eq, takenOver, ← seekState_eq]
  split <;> rfl

theorem requestTarget_home (h : s.pos.state = .retracting ∨ s.pos.state = .emergency) :
    requestTarget t q s = if s.pos.held.bind (·.2) = none then
        { s with pos := { s.pos with held := some (t, q) } }
      else tell .ended { s with pos := { s.pos with held := some (t, q) } } := by
  rw [requestTarget_of_returning t q h, dropTold_eq told, tellHeldEnded_eq]
  split <;> rfl

end

theorem loadFailure_of_loadable {s : State} (h : Loadable s) : loadFailure s = none := by
  obtain ⟨turning, clear, type⟩ := h
  simp [loadFailure, turning, clear, type]

theorem requestParked_of_loadable {t : Target} {q : Option Requester} {s : State} (h : Loadable s) :
    requestParked t q s = loads t q s := by
  unfold requestParked
  rw [loadFailure_of_loadable h]
  rfl

theorem requestParked_of_failure {t : Target} {q : Option Requester} {s : State} {why : NotLoaded}
    (h : loadFailure s = some why) :
    requestParked t q s = if q = none then s else tell (.notLoaded why) s := by
  unfold requestParked
  rw [h]
  cases q <;> rfl

/-- A departure with a read in progress interrupts it (R59). -/
theorem depart_of_read {s : State} {b : Place} (h : s.chan.op = some (.read b)) :
    depart s = sectorResult .interrupted (closeOp s) := by
  unfold depart
  rw [h]

theorem depart_of_none {s : State} (h : s.chan.op = none) : depart s = s := by
  unfold depart
  rw [h]

end Sys2Proof.Machine

namespace Sys2Proof.Machine

/-! ### Ends and requests of a command at the slot -/

theorem requestParked_begun (t : Target) (q : Option Requester) (e : Entry) (w : Work) (s : State) :
    requestParked t q (begun e w s) = begun e w (requestParked t q s) := by
  have same : loadFailure (begun e w s) = loadFailure s := rfl
  unfold requestParked
  rw [same]
  cases loadFailure s <;> cases q <;> rfl

theorem takenOver_begun (q : Option Requester) (p : Positioner) (e : Entry) (w : Work) (s : State) :
    takenOver q p (begun e w s) = begun e w (takenOver q p s) := by
  have same : (begun e w s).pos = s.pos := rfl
  unfold takenOver
  rw [same]
  split <;> rfl

/-- A target request on a part with no work in hand is the same with a command at the slot. -/
theorem requestTarget_begun {s : State} (quiet : Quiet s) (t : Target) (q : Option Requester) (e : Entry)
    (w : Work) : requestTarget t q (begun e w s) = begun e w (requestTarget t q s) := by
  have told : s.mail.told = none := by rw [quiet.noMail]; rfl
  have told' : (begun e w s).mail.told = none := told
  obtain ⟨-, -, -, -, -, -, op, -, -, -, -, -, -, -, -, held, -⟩ := quiet
  obtain h | h | h | h | h | h := s.pos.state.request_cases
  · rw [requestTarget_parked told h, requestTarget_parked told' h, requestParked_begun]
  · rw [requestTarget_loading told h, requestTarget_loading told' h]
    exact takenOver_begun _ _ _ _ _
  · by_cases there : s.pos.target = some t
    · rw [requestTarget_seeking_there told h there, requestTarget_seeking_there told' h there]
      exact takenOver_begun _ _ _ _ _
    · rw [requestTarget_seeking_away told h there, requestTarget_seeking_away told' h there]
      exact takenOver_begun _ _ _ _ _
  · by_cases there : s.pos.target = some t
    · rw [requestTarget_following_there told h there, requestTarget_following_there told' h there]
      split_ifs <;> rfl
    · rw [requestTarget_following_away told h there, requestTarget_following_away told' h there,
        depart_of_none op, depart_of_none (s := begun e w s) op]
      rfl
  · rw [requestTarget_coasting told h, requestTarget_coasting told' h]
    exact takenOver_begun _ _ _ _ _
  · have none : s.pos.held.bind (·.2) = none := by rw [held]; rfl
    rw [requestTarget_home told h, requestTarget_home told' h, if_pos none]
    exact if_pos none

/-- A request away from the ramp and from its target is answered later, and no other waits. -/
theorem requestTarget_noMail {s : State} (quiet : Quiet s) {t : Target} {q : Option Requester}
    (away : s.pos.state ≠ .parked) (elsewhere : ¬ (s.pos.state = .following ∧ s.pos.target = some t)) :
    (requestTarget t q s).mail = Mail.none := by
  have mail := quiet.noMail
  have told : s.mail.told = none := by rw [mail]; rfl
  obtain ⟨-, -, -, -, -, -, op, -, -, -, -, -, -, -, requester, held, -⟩ := quiet
  obtain h | h | h | h | h | h := s.pos.state.request_cases
  · exact absurd h away
  · rw [requestTarget_loading told h, takenOver, if_pos (.inl requester)]
    exact mail
  · by_cases there : s.pos.target = some t
    · rw [requestTarget_seeking_there told h there, takenOver, if_pos (.inl requester)]
      exact mail
    · rw [requestTarget_seeking_away told h there, takenOver, if_pos (.inl requester)]
      exact mail
  · rw [requestTarget_following_away told h fun there => elsewhere ⟨h, there⟩, depart_of_none op]
    exact mail
  · rw [requestTarget_coasting told h, takenOver, if_pos (.inl requester)]
    exact mail
  · have none : s.pos.held.bind (·.2) = none := by rw [held]; rfl
    rw [requestTarget_home told h, if_pos none]
    exact mail

theorem advance_seekTarget {e : Entry} {s : State} (load : s.record.load = none)
    (copy : s.record.copyWrite = none) (mail : s.mail = Mail.none) :
    advance (begun e .seekTarget s) = none := by
  have calm : Calm (begun e .seekTarget s) := begun_calm mail
  have told : (begun e .seekTarget s).mail.told = none := by
    change s.mail.told = none
    rw [mail]
    rfl
  refine (advance_item (s := begun e .seekTarget s) load copy).trans ?_
  rw [advanceItem_seekTarget calm rfl, told]
  rfl

/-- A SEEK whose target is asked for and not yet answered waits for it (R70, R71). -/
theorem settle_seekSpin {e : Entry} {s u : State} (quiet : Quiet s) (turning : s.spin.state = .atSpeed)
    (asks : requestTarget { cyl := word16At e.params 0, offset := 0 } (some .seek) s = u)
    (load : u.record.load = none) (copy : u.record.copyWrite = none) (mail : u.mail = Mail.none) :
    settle (begun e .seekSpin s) = begun e .seekTarget u := by
  have first : advance (begun e .seekSpin s) = some (begun e .seekTarget u) := by
    rw [advance_begun quiet, advanceItem_seekSpin (begun_calm quiet.noMail) rfl]
    refine (if_pos turning).trans ?_
    have asked := requestTarget_begun quiet { cyl := word16At e.params 0, offset := 0 } (some .seek) e .seekSpin
    rw [asks] at asked
    exact congrArg (fun v => some (setWork .seekTarget v)) asked
  rw [settle_of_one first (advance_seekTarget load copy mail), ← mail]
  rfl

/-- A SEEK whose heads are there already is done (R71). -/
theorem settle_seekSpin_there {e : Entry} {s : State} (quiet : Quiet s) (turning : s.spin.state = .atSpeed)
    (following : s.pos.state = .following)
    (there : s.pos.target = some { cyl := word16At e.params 0, offset := 0 }) :
    settle (begun e .seekSpin s)
      = answered e .done (resultFields e s) { s with pos := { s.pos with resume := word16At e.params 0 } } := by
  let v : State := { s with pos := { s.pos with resume := word16At e.params 0 } }
  have still : Quiet v := quiet
  have told : s.mail.told = none := by rw [quiet.noMail]; rfl
  have first : advance (begun e .seekSpin s) = some (begun e .seekTarget (tell .complete v)) := by
    rw [advance_begun quiet, advanceItem_seekSpin (begun_calm quiet.noMail) rfl]
    refine (if_pos turning).trans ?_
    have asked := requestTarget_begun quiet { cyl := word16At e.params 0, offset := 0 } (some .seek) e .seekSpin
    rw [requestTarget_following_there told following there, if_neg nofun] at asked
    exact congrArg (fun v => some (setWork .seekTarget v)) asked
  have calm : Calm (begun e .seekTarget (tell .complete v)) := by
    refine ⟨?_, rfl⟩
    change s.mail.note = none
    rw [quiet.noMail]
    rfl
  have second : advance (begun e .seekTarget (tell .complete v)) = some (answered e .done (resultFields e s) v) := by
    obtain ⟨-, load, copy, -⟩ := still
    rw [advance_item (s := begun e .seekTarget (tell .complete v)) load copy, advanceItem_seekTarget calm rfl]
    exact congrArg some (finish_begun (s := v) quiet .done .seekTarget)
  exact (settle_of_two first second (advance_answered still _ _)).trans (answered_mail still _ _)

end Sys2Proof.Machine

namespace Sys2Proof

open Machine

/-- Settles O35: SEEK past its gates by the range, the spindle and the heads, and the target request by the state
of the heads. -/
theorem seekBegins : Obligations.SeekBegins := by
  constructor
  · intro e s t waits pass fault type cyl
    have quiet : Quiet s := waits.2.1
    have code : e.code = 0x12#8 := waits.2.2.2.2.2.1
    have acts {t : State} (k : settle (seekWork e (begun e .idle s)) = t) : exec .seek s = .next t :=
      next_of_pass (gate := seekGate) (seekWork e) rfl waits pass fault k
    have known : ((begun e .idle s).cart.type.getD .a).lastCylinder = t.lastCylinder := by
      change (s.cart.type.getD .a).lastCylinder = _
      rw [type]
      rfl
    have within (inside : cyl ≤ t.lastCylinder) :
        seekWork e (begun e .idle s) = setWork .seekSpin (wakeMechanism (begun e .idle s)) :=
      if_neg (by rw [known]; exact Nat.not_lt.mpr inside)
    have turns (inside : cyl ≤ t.lastCylinder) (turning : s.spin.state = .atSpeed) :
        seekWork e (begun e .idle s) = begun e .seekSpin (rested s) := by
      rw [within inside, wakeMechanism_turning turning]
      rfl
    refine ⟨fun outside => acts ?_, fun inside slow => acts ?_, fun inside turning => acts ?_,
      fun inside turning parked => acts ?_, fun inside turning following there => acts ?_,
      fun inside turning away elsewhere => acts ?_⟩
    · have far : seekWork e (begun e .idle s) = finish .outOfRange (begun e .idle s) :=
        if_pos (by rw [known]; exact outside)
      rw [far, finish_begun quiet, resultFields_seek s code, settle_answered quiet]
    · rw [within inside, wakeMechanism_starting slow]
      exact settle_starting (rested_quiet quiet) slow
        fun u calm w slow => by rw [advanceItem_seekSpin calm w, if_neg slow]
    · rw [turns inside turning]
    · rw [turns inside turning]
      have told : (rested s).mail.told = none := by change s.mail.told = none; rw [quiet.noMail]; rfl
      have loadable : Loadable (rested s) := ⟨turning, fault, by change s.cart.type ≠ none; rw [type]; nofun⟩
      have asks := (requestTarget_parked (t := { cyl, offset := 0 }) (q := some .seek) told parked).trans
        (requestParked_of_loadable loadable)
      exact settle_seekSpin (rested_quiet quiet) turning asks quiet.2.1 quiet.2.2.1 quiet.noMail
    · rw [turns inside turning, settle_seekSpin_there (rested_quiet quiet) turning following there,
        resultFields_seek _ code]
      rfl
    · rw [turns inside turning]
      have mail := requestTarget_noMail (s := rested s) (q := some .seek) quiet away elsewhere
      have apart := requestTarget_apart { cyl, offset := 0 } (some .seek) (rested s)
      obtain ⟨-, -, -, record, -⟩ := apart
      exact settle_seekSpin (rested_quiet quiet) turning rfl (by rw [record]; exact quiet.2.1)
        (by rw [record]; exact quiet.2.2.1) mail
  · intro t q s mail u at' takes answers present side fresh keeps
    have told : s.mail.told = none := by rw [mail]; rfl
    have parkedFails {why : NotLoaded} (h : s.pos.state = .parked) (fails : loadFailure s = some why) :
        u = answers (.notLoaded why) s :=
      (requestTarget_parked told h).trans (requestParked_of_failure fails)
    refine ⟨fun h loadable => ?_, fun h slow => parkedFails h ?_, fun h turning held => parkedFails h ?_,
      fun h turning clear unknown => parkedFails h ?_, requestTarget_loading told, fun h => ⟨?_, ?_⟩,
      fun h => ⟨requestTarget_following_there told h, fun away idle => ?_, fun b reads away => ?_⟩,
      requestTarget_coasting told, fun h => ⟨fun none => ?_, fun some => ?_⟩⟩
    · exact (requestTarget_parked told h).trans (requestParked_of_loadable loadable)
    · rw [loadFailure, if_pos slow]
    · rw [loadFailure, if_neg (not_not_intro turning), if_pos held]
    · simp [loadFailure, turning, clear, unknown]
    · exact requestTarget_seeking_there told h
    · exact requestTarget_seeking_away told h
    · refine (requestTarget_following_away told h away).trans ?_
      rw [depart_of_none idle, newSeek_eq]
      rfl
    · refine (requestTarget_following_away told h away).trans ?_
      rw [depart_of_read reads, newSeek_eq]
      rfl
    · exact (requestTarget_home told h).trans (if_pos none)
    · exact (requestTarget_home told h).trans (if_neg some)

end Sys2Proof

namespace Sys2Proof.Machine

/-! ### Data requests at the slot -/

theorem fillFree_begun (b : BufSlot) (e : Entry) (w : Work) (s : State) :
    fillFree b (begun e w s) = begun e w (fillFree b s) := by
  have same : (begun e w s).chan = s.chan := rfl
  unfold fillFree
  rw [same]
  split
  · rfl
  · split <;> rfl

theorem setTransfer_begun (t : Transfer) (e : Entry) (w : Work) (s : State) :
    setTransfer t (begun e w s) = begun e w (setTransfer t s) := rfl

theorem requestNext_begun (e : Entry) (w : Work) (s : State) :
    requestNext (begun e w s) = begun e w (requestNext s) := by
  have chan : (begun e w s).chan = s.chan := rfl
  have link : (begun e w s).link = s.link := rfl
  have free : hasFreeSlot (begun e w s) = hasFreeSlot s := rfl
  unfold requestNext
  rw [chan, link, free]
  cases s.chan.transfer with
  | none => rfl
  | some t =>
    simp only [setTransfer_begun, fillFree_begun]
    split <;> rfl

theorem requestData_begun (e : Entry) (w : Work) (s : State) :
    requestData (begun e w s) = begun e w (requestData s) := by
  rw [requestData, requestNext_begun, requestNext_begun, requestData]

/-- A READ or VERIFY makes no data request. -/
theorem requestNext_of_read {t : Transfer} {s : State} (work : s.chan.transfer = some t) (read : t.cmd ≠ .write) :
    requestNext s = s := by
  simp only [requestNext, work, read, false_and, if_false]

theorem requestData_of_read {t : Transfer} {s : State} (work : s.chan.transfer = some t) (read : t.cmd ≠ .write) :
    requestData s = s := by
  rw [requestData, requestNext_of_read work read, requestNext_of_read work read]

/-- A request may be made (R120). -/
def MayRequest (t : Transfer) (s : State) : Prop :=
  t.cmd = .write ∧ t.hasEnded = false ∧ t.abortPending = false ∧ t.nextRequest < t.count
    ∧ hasFreeSlot s = true ∧ s.chan.outstanding.length + s.link.line.length < 2

theorem requestNext_of_may {t : Transfer} {s : State} (work : s.chan.transfer = some t) (may : MayRequest t s) :
    requestNext s =
      let u := fillFree (.awaiting t.nextRequest) (setTransfer { t with nextRequest := t.nextRequest + 1 } s)
      { u with link := { u.link with line := u.link.line ++ [(t.tag, t.nextRequest)] } } := by
  unfold MayRequest at may
  simp only [requestNext, work]
  exact if_pos may

theorem requestNext_of_not {t : Transfer} {s : State} (work : s.chan.transfer = some t) (no : ¬ MayRequest t s) :
    requestNext s = s := by
  unfold MayRequest at no
  simp only [requestNext, work]
  exact if_neg no

/-- The first requests of a WRITE with an empty buffer: two, or one for a single block (R120). -/
theorem requestData_of_write {t : Transfer} {s : State} (work : s.chan.transfer = some t)
    (write : t.cmd = .write) (going : t.hasEnded = false) (told : t.abortPending = false)
    (first : t.nextRequest = 0) (some_ : 1 ≤ t.count) (slot0 : s.chan.slot0 = .free) (slot1 : s.chan.slot1 = .free)
    (out : s.chan.outstanding = []) (line : s.link.line = []) :
    requestData s = { s with
      chan := { s.chan with
        transfer := some { t with nextRequest := min t.count 2 }
        slot0 := .awaiting 0
        slot1 := if 2 ≤ t.count then .awaiting 1 else .free }
      link := { s.link with line := (t.tag, 0) :: (if 2 ≤ t.count then [(t.tag, 1)] else []) } } := by
  have may : MayRequest t s :=
    ⟨write, going, told, by rw [first]; exact some_, by simp [hasFreeSlot, slot0], by simp [out, line]⟩
  have one : requestNext s = { s with
      chan := { s.chan with transfer := some { t with nextRequest := 1 }, slot0 := .awaiting 0 }
      link := { s.link with line := [(t.tag, 0)] } } := by
    rw [requestNext_of_may work may, first]
    simp only [fillFree, setTransfer, slot0, if_true, line, List.nil_append, Nat.zero_add]
  rw [requestData, one]
  by_cases two : 2 ≤ t.count
  · rw [requestNext_of_may (t := { t with nextRequest := 1 }) rfl
      ⟨write, going, told, two, by simp [hasFreeSlot, slot1], by simp [out]⟩]
    have least : min t.count 2 = 2 := by omega
    simp only [fillFree, setTransfer, slot1, reduceCtorEq, if_false, if_true, List.cons_append, List.nil_append,
      two, least]
  · rw [requestNext_of_not (t := { t with nextRequest := 1 }) rfl fun ⟨_, _, _, more, _⟩ => two more]
    have least : min t.count 2 = 1 := by omega
    simp only [two, if_false, least, slot1]

/-! ### READ, WRITE and VERIFY at the slot (R113) -/

theorem sessionTable_of_full {s : State} {r : Session} (h : fullSession s = some r) :
    sessionTable s = (r.type, r.zones) := by
  unfold sessionTable
  rw [h]

/-- A data command refused after its context was set up is answered with the context's fields. -/
theorem finish_setTransfer_begun {e : Entry} {s : State} (quiet : Quiet s) (o : OutcomeCode) (t : Transfer)
    (w : Work) : finish o (setTransfer t (begun e w s)) = answered e o (resultFields e (setTransfer t s)) s := by
  have fields : resultFields e (setTransfer t (begun e w s)) = resultFields e (setTransfer t s) := by
    have slot : (begun e w s).cu.slot.result = s.cu.slot.result := by rw [quiet.1]; rfl
    unfold resultFields
    rw [show (setTransfer t (begun e w s)).cu.slot.result = (setTransfer t s).cu.slot.result from slot]
    rfl
  rw [← fields, ← finishWith_begun quiet o _ w]
  rfl

theorem beginData_zero {cmd : DataCommand} {s : State} (h : byteAt (slotParams s) 4 = 0) :
    beginData cmd s = finish .badParameter s := if_pos h

section
variable {cmd : DataCommand} {e : Entry} {s : State} {r : Session} (full : fullSession s = some r)
  (some_ : byteAt e.params 4 ≠ 0)
include full some_

theorem beginData_outOfRange (out : r.type.capacity < word32At e.params 0 + min (byteAt e.params 4) 16) :
    beginData cmd (begun e .idle s) = finish .outOfRange (setTransfer
      (newTransfer cmd e.tag (word32At e.params 0) (min (byteAt e.params 4) 16) s) (begun e .idle s)) := by
  refine (if_neg some_).trans (if_pos ?_)
  rw [sessionTable_of_full (s := begun e .idle s) full]
  exact decide_eq_false (Nat.not_le.mpr out)

variable (fits : word32At e.params 0 + min (byteAt e.params 4) 16 ≤ r.type.capacity)
include fits

theorem beginData_writeProtected (h : cmd = .write ∧ s.cart.wp = true) :
    beginData cmd (begun e .idle s) = finish .writeProtected (setTransfer
      (newTransfer cmd e.tag (word32At e.params 0) (min (byteAt e.params 4) 16) s) (begun e .idle s)) := by
  refine (if_neg some_).trans ((if_neg ?_).trans (if_pos h))
  rw [sessionTable_of_full (s := begun e .idle s) full]
  exact fun no => of_decide_eq_false no fits

theorem beginData_passes (h : ¬ (cmd = .write ∧ s.cart.wp = true)) :
    beginData cmd (begun e .idle s) = setWork .data (requestData (wakeMechanism (setTransfer
      (newTransfer cmd e.tag (word32At e.params 0) (min (byteAt e.params 4) 16) s) (begun e .idle s)))) := by
  refine (if_neg some_).trans ((if_neg ?_).trans (if_neg h))
  rw [sessionTable_of_full (s := begun e .idle s) full]
  exact fun no => of_decide_eq_false no fits

end

/-- A command that passes its checks has the spindle started, with its first requests made. -/
theorem beginData_begun (t : Transfer) (e : Entry) (s : State) :
    setWork .data (requestData (wakeMechanism (setTransfer t (begun e .idle s))))
      = begun e .data (requestData (setTransfer t
          (if s.spin.state = .atSpeed then rested s else startRequest (rested s)))) := by
  rw [setTransfer_begun, wakeMechanism_begun]
  have start : startRequest (rested (setTransfer t s)) = setTransfer t (startRequest (rested s)) := by
    rw [startRequest_eq, startRequest_eq]
    rfl
  rw [start]
  by_cases turning : s.spin.state = .atSpeed
  · rw [if_pos turning, if_pos (by exact turning), requestData_begun]
    rfl
  · rw [if_neg turning, if_neg (by exact turning), requestData_begun]
    rfl

/-- A data command waits for its spindle. -/
theorem advanceData_spin {s : State} {t : Transfer} (calm : s.mail = Mail.none)
    (work : s.chan.transfer = some t) (spin : t.phase = .spin) (told : t.abortPending = false)
    (time : t.timedOut = false) (slow : s.spin.state ≠ .atSpeed) : advanceData s = none := by
  have note : s.mail.note = none := by rw [calm]; rfl
  have sector : s.mail.sector = none := by rw [calm]; rfl
  simp only [advanceData, work, spin, note, sector, told, time, advanceBlocks, slow, reduceCtorEq, if_false,
    Bool.false_eq_true, false_and]

theorem advanceItem_data {s : State} (w : s.cu.slot.work = .data) : advanceItem s = advanceData s := by
  simp only [advanceItem, w]

end Sys2Proof.Machine

namespace Sys2Proof

open Machine

/-- Settles O36: the checks in their order, and the context of a command that passes, with the first requests
of a WRITE. -/
theorem dataCommandsBegin : Obligations.DataCommandsBegin := by
  intro e s r c code cmd row waits ready fault full first n tail fields ctx passes
  have quiet : Quiet s := waits.2.1
  have is : e.code = code := waits.2.2.2.2.2.1
  obtain ⟨-, -, -, transfer, -, -, -, slot0, slot1, out, -, -, line, -⟩ := id quiet
  have acts {t : State} (k : settle (beginData cmd (begun e .idle s)) = t) : exec c s = .next t := by
    have pass : dataGate s.cart.state = none := by rw [ready]; rfl
    simp only [List.mem_cons, Prod.mk.injEq, List.not_mem_nil, or_false] at row
    rcases row with ⟨rfl, rfl, rfl⟩ | ⟨rfl, rfl, rfl⟩ | ⟨rfl, rfl, rfl⟩
    · exact next_of_pass (gate := dataGate) (beginData .read) rfl waits pass fault k
    · exact next_of_pass (gate := dataGate) (beginData .write) rfl waits pass fault k
    · exact next_of_pass (gate := dataGate) (beginData .verify) rfl waits pass fault k
  have result (k : Nat) (v : State) (h : v.chan.transfer = none ∧ k = 0 ∨ v.chan.transfer = some ctx ∧ k = n) :
      resultFields e v = fields k := by
    simp only [List.mem_cons, Prod.mk.injEq, List.not_mem_nil, or_false] at row
    rcases row with ⟨rfl, rfl, rfl⟩ | ⟨rfl, rfl, rfl⟩ | ⟨rfl, rfl, rfl⟩
    · rw [resultFields_read v is]
      obtain ⟨h, rfl⟩ | ⟨h, rfl⟩ := h <;> simp only [readFields, h] <;> rfl
    · rw [resultFields_write v is]
      obtain ⟨h, rfl⟩ | ⟨h, rfl⟩ := h <;> simp only [writeFields, h] <;> rfl
    · rw [resultFields_verify v is]
      obtain ⟨h, rfl⟩ | ⟨h, rfl⟩ := h <;> simp only [readFields, h] <;> rfl
  have some_ (h : byteAt e.params 4 ≠ 0) : 1 ≤ n := by omega
  have going (h : passes) : beginData cmd (begun e .idle s) = begun e .data (requestData (setTransfer ctx
      (if s.spin.state = .atSpeed then rested s else startRequest (rested s)))) := by
    obtain ⟨count, fits, open_⟩ := h
    rw [beginData_passes full count fits fun ⟨w, p⟩ => by rw [open_ w] at p; cases p]
    exact beginData_begun ctx e s
  have waiting (h : passes) (slow : s.spin.state ≠ .atSpeed) {t : Transfer} {u : State}
      (asks : requestData (setTransfer ctx (startRequest (rested s))) = u) (same : u.mail = s.mail)
      (record : u.record = s.record) (spin : u.spin = (startRequest (rested s)).spin)
      (work : u.chan.transfer = some t) (phase : t.phase = .spin) (told : t.abortPending = false)
      (time : t.timedOut = false) : exec c s = .next (begun e .data u) := by
    refine acts ?_
    rw [going h, if_neg slow, asks]
    have mail : u.mail = Mail.none := same.trans quiet.noMail
    refine settle_still mail (by rw [show (begun e .data u).record = s.record from record]; exact quiet.2.1)
      (by rw [show (begun e .data u).record = s.record from record]; exact quiet.2.2.1) ?_
    refine (advanceItem_data rfl).trans (advanceData_spin (t := t) mail work phase told time ?_)
    rw [show (begun e .data u).spin = _ from spin]
    exact startRequest_spin_state slow
  have start := startRequest_eq (rested s)
  refine ⟨fun zero => acts ?_, fun count far => acts ?_, fun count fits write wp => acts ?_,
    fun h read slow => ?_, fun h write slow => ?_, fun h turning => acts ?_⟩
  · rw [beginData_zero (by exact zero), finish_begun quiet, settle_answered quiet, result 0 s (.inl ⟨transfer, rfl⟩)]
  · rw [beginData_outOfRange full count far, finish_setTransfer_begun quiet, settle_answered quiet,
      result n _ (.inr ⟨rfl, rfl⟩)]
  · rw [beginData_writeProtected full count fits ⟨write, wp⟩, finish_setTransfer_begun quiet,
      settle_answered quiet, result n _ (.inr ⟨rfl, rfl⟩)]
  · have asks := requestData_of_read (t := ctx) (s := setTransfer ctx (startRequest (rested s))) rfl read
    rw [waiting h slow asks (by rw [start]; rfl) (by rw [start]; rfl) rfl rfl rfl rfl rfl]
    rw [start]
    rfl
  · have asks := requestData_of_write (t := ctx) (s := setTransfer ctx (startRequest (rested s))) rfl write rfl
      rfl rfl (some_ h.1) (by rw [start]; exact slot0) (by rw [start]; exact slot1) (by rw [start]; exact out)
      (by rw [start]; exact line)
    rw [waiting h slow asks (by rw [start]; rfl) (by rw [start]; rfl) rfl rfl rfl rfl rfl]
    rw [start]
    rfl
  · rw [going h, if_pos turning]

end Sys2Proof

/-! ## Proofs: REASSIGN, FORMAT, REST, SPIN DOWN and EJECT at the slot -/

namespace Sys2Proof.Machine

/-! ### REASSIGN (R102) -/

/-- The context that a REASSIGN of a block begins with (R110). -/
def newReassign (tag : Byte) (lba limit : Nat) (spare : Option Nat) : Reassign :=
  { tag, lba, place := { cyl := 0, head := 0, sector := 0 }, attempt := 1, offset := 0, firstPass := false,
    allocated := false, spare, dataLost := false, torn := false, abortPending := false, phase := .spin, limit,
    outcome := .done, timedOut := false, result := .notMade }

section
variable {e : Entry} {s : State} {r : Session} (full : fullSession s = some r)
include full

theorem beginReassign_eq :
    beginReassign (begun e .idle s) =
      if r.type.capacity ≤ word32At e.params 0 then finish .outOfRange (begun e .idle s)
      else if s.cart.wp then finish .writeProtected (begun e .idle s)
      else if spareScan r.type (zoneAt r.zones (word32At e.params 0 / r.type.userSlots)) = r.type.spareWidth then
        finish .sparesExhausted (begun e .idle s)
      else setWork .reassign (wakeMechanism (setReassign
        (newReassign e.tag (word32At e.params 0) s.set.active.retry
          (spareOf (zoneAt r.zones (word32At e.params 0 / r.type.userSlots))
            (word32At e.params 0 % r.type.userSlots))) (begun e .idle s))) := by
  have table : sessionTable (begun e .idle s) = (r.type, r.zones) := sessionTable_of_full (s := begun e .idle s) full
  have range : rangeFits r.type (word32At e.params 0) 1 = false ↔ r.type.capacity ≤ word32At e.params 0 := by
    rw [rangeFits, decide_eq_false_iff_not]
    omega
  unfold beginReassign
  rw [table]
  exact if_congr range rfl rfl

end

theorem reassignContext_begun (c : Reassign) (e : Entry) (s : State) :
    setWork .reassign (wakeMechanism (setReassign c (begun e .idle s)))
      = begun e .reassign (setReassign c
          (if s.spin.state = .atSpeed then rested s else startRequest (rested s))) := by
  have start : startRequest (rested (setReassign c s)) = setReassign c (startRequest (rested s)) := by
    rw [startRequest_eq, startRequest_eq]
    rfl
  have push : setReassign c (begun e .idle s) = begun e .idle (setReassign c s) := rfl
  rw [push, wakeMechanism_begun, start]
  by_cases turning : s.spin.state = .atSpeed
  · rw [if_pos turning, if_pos (by exact turning)]
    rfl
  · rw [if_neg turning, if_neg (by exact turning)]
    rfl

theorem advanceItem_reassign {s : State} (w : s.cu.slot.work = .reassign) : advanceItem s = advanceReassign s := by
  simp only [advanceItem, w]

theorem advanceReassign_spin {s : State} {r : Reassign} (calm : s.mail = Mail.none)
    (work : s.chan.reassign = some r) (spin : r.phase = .spin) (told : r.abortPending = false)
    (slow : s.spin.state ≠ .atSpeed) : advanceReassign s = none := by
  have note : s.mail.note = none := by rw [calm]; rfl
  have sector : s.mail.sector = none := by rw [calm]; rfl
  simp only [advanceReassign, work, spin, note, sector, told, slow, reduceCtorEq, if_false,
    Bool.false_eq_true, false_and]

/-! ### FORMAT (R132) -/

theorem beginFormat_of_refused {e : Entry} {s : State} {o : OutcomeCode} (h : formatCheck e.params s = some o) :
    beginFormat (begun e .idle s) = finish o (begun e .idle s) := by
  have same : formatCheck (slotParams (begun e .idle s)) (begun e .idle s) = some o := h
  unfold beginFormat
  rw [same]

theorem beginFormat_of_passed {e : Entry} {s : State} (h : formatCheck e.params s = none) :
    beginFormat (begun e .idle s)
      = begun e .format (setFormat (newFormat e.params s)
          (if s.spin.state = .atSpeed then rested s else startRequest (rested s))) := by
  have same : formatCheck (slotParams (begun e .idle s)) (begun e .idle s) = none := h
  have start (f : Format) : startRequest (rested (setFormat f s)) = setFormat f (startRequest (rested s)) := by
    rw [startRequest_eq, startRequest_eq]
    rfl
  have push (f : Format) : setFormat f (begun e .idle s) = begun e .idle (setFormat f s) := rfl
  unfold beginFormat
  rw [same]
  simp only [push, wakeMechanism_begun, start]
  by_cases turning : s.spin.state = .atSpeed
  · rw [if_pos turning, if_pos (by exact turning)]
    rfl
  · rw [if_neg turning, if_neg (by exact turning)]
    rfl

theorem formatCheck_of_state {p : List Byte} {s : State} {o : OutcomeCode} (h : formatStateCheck s = some o) :
    formatCheck p s = some o := by
  unfold formatCheck
  rw [h]

theorem formatCheck_of_admitted {p : List Byte} {s : State} (h : formatStateCheck s = none) :
    formatCheck p s =
      if class13Held s then some .faultPending
      else if 1 < byteAt p 4 ∨ 1 < byteAt p 5 then some .badParameter
      else if s.cart.wp then some .writeProtected
      else if formatLocked s then some .formatLocked
      else none := by
  unfold formatCheck
  rw [h]

theorem formatLocked_iff (s : State) :
    formatLocked s = true ↔ s.cart.state = .ready ∧ ∃ r, fullSession s = some r ∧ r.lock = true := by
  unfold formatLocked
  cases fullSession s <;> simp

theorem advanceItem_format {s : State} (w : s.cu.slot.work = .format) : advanceItem s = advanceFormat s := by
  simp only [advanceItem, w]

theorem advanceFormat_spin {s : State} {f : Format} (calm : s.mail = Mail.none) (work : s.fmt = some f)
    (spin : f.step = .spin) (told : f.abortPending = false) (waits : f.waits = [])
    (slow : s.spin.state ≠ .atSpeed) : advanceFormat s = none := by
  have note : s.mail.note = none := by rw [calm]; rfl
  have sector : s.mail.sector = none := by rw [calm]; rfl
  simp only [advanceFormat, work, spin, note, sector, told, waitExpired, waits, formatStage, slow, reduceCtorEq,
    if_false, Bool.false_eq_true, false_and, List.any_nil]

end Sys2Proof.Machine

namespace Sys2Proof

open Machine

/-- Settles O37: REASSIGN past its gates, by its checks and the spindle. -/
theorem reassignBegins : Obligations.ReassignBegins := by
  intro e s r waits ready fault session lba fields full ctx
  have quiet : Quiet s := waits.2.1
  have code : e.code = 0x16#8 := waits.2.2.2.2.2.1
  have acts {t : State} (k : settle (beginReassign (begun e .idle s)) = t) : exec .reassign s = .next t :=
    next_of_pass (gate := dataGate) beginReassign rfl waits (by rw [ready]; rfl) fault k
  have checks := beginReassign_eq (e := e) session
  have result : resultFields e s = fields := by
    obtain ⟨-, -, -, -, none, -⟩ := quiet
    rw [resultFields_reassign s code, reassignFields, none]
    rfl
  have refused (o : OutcomeCode) (h : beginReassign (begun e .idle s) = finish o (begun e .idle s)) :
      exec .reassign s = .next (answered e o fields s) := by
    refine acts ?_
    rw [h, finish_begun quiet, settle_answered quiet, result]
  have goes (inside : lba < r.type.capacity) (free : s.cart.wp = false) (room : ¬ full) :
      beginReassign (begun e .idle s) = begun e .reassign (setReassign ctx
        (if s.spin.state = .atSpeed then rested s else startRequest (rested s))) := by
    rw [checks, if_neg (Nat.not_le.mpr inside), free, if_neg nofun, if_neg room]
    exact reassignContext_begun ctx e s
  refine ⟨fun out => refused _ ?_, fun inside wp => refused _ ?_, fun inside free full => refused _ ?_,
    fun inside free room slow => acts ?_, fun inside free room turning => acts ?_⟩
  · rw [checks, if_pos out]
  · rw [checks, if_neg (Nat.not_le.mpr inside), if_pos wp]
  · rw [checks, if_neg (Nat.not_le.mpr inside), free, if_neg nofun, if_pos full]
  · have start := startRequest_eq (rested s)
    have mail : (setReassign ctx (startRequest (rested s))).mail = Mail.none := by
      rw [start]
      exact quiet.noMail
    rw [goes inside free room, if_neg slow]
    refine (settle_still (s := begun e .reassign (setReassign ctx (startRequest (rested s)))) mail ?_ ?_ ?_).trans ?_
    · rw [start]; exact quiet.2.1
    · rw [start]; exact quiet.2.2.1
    · refine (advanceItem_reassign rfl).trans (advanceReassign_spin (r := ctx) mail rfl rfl rfl ?_)
      exact startRequest_spin_state slow
    · rw [start]
      rfl
  · rw [goes inside free room, if_pos turning]

/-- Settles O38: FORMAT by its checks and the spindle. -/
theorem formatBegins : Obligations.FormatBegins := by
  intro e s waits absent no admitted options locked ctx
  have quiet : Quiet s := waits.2.1
  have code : e.code = 0x17#8 := waits.2.2.2.2.2.1
  have acts {t : State} (k : settle (beginFormat (begun e .idle s)) = t) : exec .format s = .next t :=
    next_of_waiting (f := takeFormat) waits k
  have result : resultFields e s = absent := by
    obtain ⟨-, -, -, -, -, none, -⟩ := quiet
    rw [resultFields_format s code, formatFields, none]
    rfl
  have refused {o : OutcomeCode} (h : formatCheck e.params s = some o) : no o := by
    refine acts ?_
    rw [beginFormat_of_refused h, finish_begun quiet, settle_answered quiet, result]
  have admits (h : admitted) : formatStateCheck s = none := by
    obtain h | h | h := h <;> rw [formatStateCheck, h]
  have checks (h : admitted) := formatCheck_of_admitted (p := e.params) (admits h)
  have within (h : options) : ¬ (1 < byteAt e.params 4 ∨ 1 < byteAt e.params 5) := by
    obtain ⟨lock, verify⟩ := h
    omega
  have passes (h : admitted) (fault : class13Held s = false) (opts : options) (free : s.cart.wp = false)
      (open_ : ¬ locked) : formatCheck e.params s = none := by
    rw [checks h, fault, if_neg nofun, if_neg (within opts), free, if_neg nofun,
      if_neg fun l => open_ ((formatLocked_iff s).mp l)]
  refine ⟨fun h => refused (formatCheck_of_state ?_), fun h => refused (formatCheck_of_state ?_),
    fun h fault => refused ?_, fun h fault opts => refused ?_, fun h fault opts wp => refused ?_,
    fun h fault opts free lock => refused ?_, fun h fault opts free open_ slow => acts ?_,
    fun h fault opts free open_ turning => acts ?_⟩
  · obtain h | h := h <;> rw [formatStateCheck, h]
  · obtain h | h := h <;> rw [formatStateCheck, h]
  · rw [checks h, if_pos fault]
  · rw [checks h, fault, if_neg nofun, if_pos]
    by_contra none
    exact opts ⟨by omega, by omega⟩
  · rw [checks h, fault, if_neg nofun, if_neg (within opts), if_pos wp]
  · rw [checks h, fault, if_neg nofun, if_neg (within opts), free, if_neg nofun,
      if_pos ((formatLocked_iff s).mpr lock)]
  · have start := startRequest_eq (rested s)
    have mail : (setFormat ctx (startRequest (rested s))).mail = Mail.none := by
      rw [start]
      exact quiet.noMail
    rw [beginFormat_of_passed (passes h fault opts free open_), if_neg slow]
    refine (settle_still (s := begun e .format (setFormat ctx (startRequest (rested s)))) mail ?_ ?_ ?_).trans ?_
    · rw [start]; exact quiet.2.1
    · rw [start]; exact quiet.2.2.1
    · refine (advanceItem_format rfl).trans (advanceFormat_spin (f := ctx) mail rfl rfl rfl rfl ?_)
      exact startRequest_spin_state slow
    · rw [start]
      rfl
  · rw [beginFormat_of_passed (passes h fault opts free open_), if_pos turning]
    rfl

end Sys2Proof

namespace Sys2Proof.Machine

/-! ### Requests to parked heads and a stopped spindle -/

theorem discardHeld_of_none {s : State} (h : s.pos.held = none) : discardHeld s = s := by
  have held : s.pos.held.bind (·.2) = none := by rw [h]; rfl
  simp only [discardHeld, tellHeldEnded_eq, held, if_true]
  rw [← h]

theorem requestRetract_of_parked {s : State} (parked : s.pos.state = .parked) (held : s.pos.held = none) :
    requestRetract s = s := by
  unfold requestRetract
  rw [parked]
  exact discardHeld_of_none held

theorem stopRequest_of_stopped {s : State} (h : s.spin.state = .stopped) :
    stopRequest s = { s with spin := s.spin.withdrawn } := by
  unfold stopRequest
  dsimp only
  split
  · rfl
  all_goals simp_all

/-! ### REST and SPIN DOWN (R161 to R167) -/

section
variable {s : State} (note : s.mail.note = none)
include note

theorem advanceItem_restPark (w : s.cu.slot.work = .restPark) :
    advanceItem s = if s.pos.state = .parked then
      if restStandby s then some (setWork .restStop (stopRequest s)) else some (enterRest s) else none := by
  simp only [advanceItem, w, advanceRest, note]

theorem advanceItem_restStop (w : s.cu.slot.work = .restStop) :
    advanceItem s = if s.spin.state = .stopped then some (enterRest s) else none := by
  simp only [advanceItem, w, advanceRest, note]

theorem advanceItem_downSpin (w : s.cu.slot.work = .downSpin) :
    advanceItem s = if s.spin.state = .atSpeed then some (setWork .downSave (beginWriteBack s)) else none := by
  simp only [advanceItem, w, advanceSpinDown, note]

theorem advanceItem_downPark (w : s.cu.slot.work = .downPark) :
    advanceItem s = if s.pos.state = .parked then some (setWork .downStop (stopRequest s)) else none := by
  simp only [advanceItem, w, advanceSpinDown, note]

theorem advanceItem_downStop (w : s.cu.slot.work = .downStop) :
    advanceItem s = if s.spin.state = .stopped then some (downDiscards s) else none := by
  simp only [advanceItem, w, advanceSpinDown, note]

end

/-- The rest that a REST names (R161). -/
def namedRest (p : List Byte) : RestControl :=
  { state := if byteAt p 0 == 1 then .standby else .idle
    wakeActive := !(byteAt p 0 == 1) || byteAt p 2 == 1
    timer := if byteAt p 1 = 0 then none else some (byteAt p 1 * 60000000) }

section
variable {e : Entry} {s : State} (quiet : Quiet s)
include quiet

theorem begun_note (w : Work) : (begun e w s).mail.note = none := (begun_calm (e := e) (w := w) quiet.noMail).note

theorem enterRest_begun (code : e.code = 0x18#8) (w : Work) :
    enterRest (begun e w s) = answered e .done [0#8] { s with rest := namedRest e.params } := by
  have still : Quiet { s with rest := namedRest e.params } := quiet
  have fields : resultFields e { s with rest := namedRest e.params } = [0#8] := by
    rw [resultFields_rest _ code]
    change [byte s.cu.slot.result.code] = _
    rw [quiet.1]
    rfl
  rw [← fields]
  exact finish_begun still .done w

theorem downDiscards_begun (code : e.code = 0x11#8) (saved : s.record.unsaved = false) (w : Work) :
    downDiscards (begun e w s) = answered e .done [0#8] { s with
      cart := { s.cart with state := stateForType s.cart.type }
      cu := { s.cu with pendAuto := s.cart.type.isSome && s.cu.pendAuto }
      record := { s.record with session := .absent, copyStatus := .none, unsaved := false } } := by
  let v : State := { s with
      cart := { s.cart with state := stateForType s.cart.type }
      cu := { s.cu with pendAuto := s.cart.type.isSome && s.cu.pendAuto }
      record := { s.record with session := .absent, copyStatus := .none, unsaved := false } }
  have still : Quiet v := quiet
  have fields : resultFields e v = [0#8] := by
    rw [resultFields_spinDown v code]
    change [byte s.cu.slot.result.code] = _
    rw [quiet.1]
    rfl
  have discards : setCart (stateForType s.cart.type) (discardSession (begun e w s)) = begun e w v := by
    have unsaved : (begun e w s).record.unsaved = false := saved
    rw [discardSession, if_neg (by rw [unsaved]; nofun)]
    cases known : s.cart.type with
    | none => simp only [setCart, stateForType, begun, v, known]; rfl
    | some t => simp only [setCart, stateForType, begun, v, known]; rfl
  have done := finish_begun (e := e) still .done w
  rw [fields] at done
  change finish (restOutcome (setCart (stateForType s.cart.type) (discardSession (begun e w s))))
    (setCart (stateForType s.cart.type) (discardSession (begun e w s))) = answered e .done [0#8] v
  rw [discards]
  exact done

theorem settle_restPark (code : e.code = 0x18#8) (parked : s.pos.state = .parked)
    (idle : ¬ byteAt e.params 0 = 1) :
    settle (begun e .restPark s) = answered e .done [0#8] { s with rest := namedRest e.params } := by
  have still : Quiet { s with rest := namedRest e.params } := quiet
  have first : advance (begun e .restPark s) = some (enterRest (begun e .restPark s)) := by
    rw [advance_begun quiet, advanceItem_restPark (begun_note quiet _) rfl]
    refine (if_pos parked).trans (if_neg ?_)
    exact fun h => idle (of_decide_eq_true h)
  rw [enterRest_begun quiet code] at first
  exact (settle_of_one first (advance_answered still _ _)).trans (answered_mail still _ _)

theorem settle_restStop (code : e.code = 0x18#8) (parked : s.pos.state = .parked)
    (standby : byteAt e.params 0 = 1) (stopped : s.spin.state = .stopped) :
    settle (begun e .restPark s) = answered e .done [0#8] { s with
      rest := namedRest e.params, spin := s.spin.withdrawn } := by
  let v : State := { s with spin := s.spin.withdrawn }
  have quiet' : Quiet v := quiet
  have still : Quiet { v with rest := namedRest e.params } := quiet
  have first : advance (begun e .restPark s) = some (begun e .restStop v) := by
    rw [advance_begun quiet, advanceItem_restPark (begun_note quiet _) rfl]
    refine (if_pos parked).trans ((if_pos ?_).trans ?_)
    · exact decide_eq_true standby
    · exact congrArg (fun t => some (setWork .restStop t)) (stopRequest_of_stopped (s := begun e .restPark s) stopped)
  have second : advance (begun e .restStop v) = some (enterRest (begun e .restStop v)) := by
    rw [advance_begun quiet', advanceItem_restStop (begun_note quiet' _) rfl]
    exact if_pos stopped
  rw [enterRest_begun quiet' code] at second
  exact (settle_of_two first second (advance_answered still _ _)).trans (answered_mail still _ _)

theorem settle_downPark (code : e.code = 0x11#8) (saved : s.record.unsaved = false)
    (parked : s.pos.state = .parked) (stopped : s.spin.state = .stopped) :
    settle (begun e .downPark s) = answered e .done [0#8] { s with
      cart := { s.cart with state := stateForType s.cart.type }
      cu := { s.cu with pendAuto := s.cart.type.isSome && s.cu.pendAuto }
      spin := s.spin.withdrawn
      record := { s.record with session := .absent, copyStatus := .none, unsaved := false } } := by
  let v : State := { s with spin := s.spin.withdrawn }
  have quiet' : Quiet v := quiet
  have still : Quiet { v with
      cart := { s.cart with state := stateForType s.cart.type }
      cu := { s.cu with pendAuto := s.cart.type.isSome && s.cu.pendAuto }
      record := { s.record with session := .absent, copyStatus := .none, unsaved := false } } := quiet
  have first : advance (begun e .downPark s) = some (begun e .downStop v) := by
    rw [advance_begun quiet, advanceItem_downPark (begun_note quiet _) rfl]
    refine (if_pos parked).trans ?_
    exact congrArg (fun t => some (setWork .downStop t)) (stopRequest_of_stopped (s := begun e .downPark s) stopped)
  have second : advance (begun e .downStop v) = some (downDiscards (begun e .downStop v)) := by
    rw [advance_begun quiet', advanceItem_downStop (begun_note quiet' _) rfl]
    exact if_pos stopped
  rw [downDiscards_begun quiet' code saved] at second
  exact (settle_of_two first second (advance_answered still _ _)).trans (answered_mail still _ _)

/-- A slot's record result set before its save is answered (R167): no answer was under way. -/
theorem slotResult_begun (r : RecordResult) (w : Work) :
    slotResult r (begun e w s) = { begun e w s with
      cu := { (begun e w s).cu with slot := { (begun e w s).cu.slot with result := r } } } := by
  have empty : (begun e w s).mail = Mail.none := quiet.noMail
  have same : { (begun e w s).mail with saved := none } = (begun e w s).mail := by rw [empty]; rfl
  unfold slotResult
  rw [same]

end

end Sys2Proof.Machine

namespace Sys2Proof

open Machine

/-- Settles O39: REST and SPIN DOWN by their checks, the write-back of an unsaved session, and the state of the
mechanism. -/
theorem restAndSpinDownBegin : Obligations.RestAndSpinDownBegin := by
  constructor
  · intro e s waits standby options home timer
    have quiet : Quiet s := waits.2.1
    have code : e.code = 0x18#8 := waits.2.2.2.2.2.1
    have acts {t : State} (k : settle (takeRest e (begun e .idle s)) = t) : exec .rest s = .next t :=
      next_of_waiting (f := takeRest) waits k
    have result : resultFields e s = [0#8] := by
      rw [resultFields_rest s code, quiet.1]
      rfl
    have away : (¬ home) ↔ s.cart.state ≠ .ready ∧ s.cart.state ≠ .blank := not_or
    have out : (¬ options) ↔ 1 < byteAt e.params 0 ∨ 1 < byteAt e.params 2 := by
      simp only [options]
      omega
    have begins (h : home) (opts : options) : takeRest e (begun e .idle s) = beginRest (begun e .idle s) :=
      (if_neg fun no => away.mpr no h).trans (if_neg fun no => out.mpr no opts)
    have parks (h : home) (opts : options) (saved : s.record.unsaved = false) :
        takeRest e (begun e .idle s) = setWork .restPark (requestRetract (begun e .idle (rested s))) :=
      (begins h opts).trans (if_neg (by change ¬ s.record.unsaved = true; rw [saved]; nofun))
    have rests (h : home) (opts : options) (saved : s.record.unsaved = false) (parked : s.pos.state = .parked) :
        takeRest e (begun e .idle s) = begun e .restPark (rested s) := by
      obtain ⟨-, -, -, -, -, -, -, -, -, -, -, -, -, -, -, held, -⟩ := quiet
      rw [parks h opts saved, requestRetract_of_parked (s := begun e .idle (rested s)) parked held]
      rfl
    refine ⟨fun no => acts ?_, fun h no => acts ?_, fun h opts unsaved => acts ?_, fun h opts saved => acts ?_,
      fun h opts saved parked idle => acts ?_, fun h opts saved parked deep stopped => acts ?_⟩
    · rw [takeRest, if_pos (by exact away.mp no), finish_begun quiet, settle_answered quiet, result]
    · have bad : takeRest e (begun e .idle s) = finish .badParameter (begun e .idle s) :=
        (if_neg fun no => away.mpr no h).trans (if_pos (out.mp no))
      rw [bad, finish_begun quiet, settle_answered quiet, result]
    · exact congrArg settle ((begins h opts).trans (if_pos unsaved))
    · rw [parks h opts saved]
    · rw [rests h opts saved parked, settle_restPark (rested_quiet quiet) code parked idle, namedRest]
      have depth : (byteAt e.params 0 == 1) = false := beq_false_of_ne idle
      rw [depth]
      rfl
    · rw [rests h opts saved parked, settle_restStop (rested_quiet quiet) code parked deep stopped, namedRest]
      have depth : (byteAt e.params 0 == 1) = true := beq_of_eq deep
      rw [depth]
      rfl
  · intro e s waits u
    have quiet : Quiet s := waits.2.1
    have code : e.code = 0x11#8 := waits.2.2.2.2.2.1
    have acts {t : State} (k : settle (takeSpinDown e (begun e .idle s)) = t) : exec .spinDown s = .next t :=
      next_of_waiting (f := takeSpinDown) waits k
    have result : resultFields e s = [0#8] := by
      rw [resultFields_spinDown s code, quiet.1]
      rfl
    have begins (h : s.cart.state ≠ .empty) : takeSpinDown e (begun e .idle s) =
        if !s.record.unsaved then downParks u
        else if class13Held s then downParks (slotResult .neither u)
        else if s.spin.state = .atSpeed then setWork .downSave (beginWriteBack u)
        else setWork .downSpin (startRequest u) := if_neg h
    have parks (h : s.cart.state ≠ .empty) (saved : s.record.unsaved = false) :
        takeSpinDown e (begun e .idle s) = downParks u := by
      rw [begins h, saved]
      rfl
    have saves (h : s.cart.state ≠ .empty) (unsaved : s.record.unsaved = true) :
        takeSpinDown e (begun e .idle s) =
          if class13Held s then downParks (slotResult .neither u)
          else if s.spin.state = .atSpeed then setWork .downSave (beginWriteBack u)
          else setWork .downSpin (startRequest u) := by
      rw [begins h, unsaved]
      rfl
    refine ⟨fun empty => acts ?_, fun h saved => acts ?_, fun h unsaved fault => acts ?_,
      fun h unsaved fault turning => acts ?_, fun h unsaved fault slow => acts ?_,
      fun h saved parked stopped => acts ?_⟩
    · rw [takeSpinDown, if_pos (by exact empty), finish_begun quiet, settle_answered quiet, result]
    · rw [parks h saved]
      rfl
    · rw [saves h unsaved, if_pos fault, slotResult_begun (rested_quiet quiet)]
      rfl
    · rw [saves h unsaved, fault, if_neg nofun, if_pos turning]
    · rw [saves h unsaved, fault, if_neg nofun, if_neg slow]
      have start : setWork .downSpin (startRequest u) = begun e .downSpin (startRequest (rested s)) :=
        congrArg (setWork .downSpin) (startRequest_begun e .idle (rested s))
      rw [start]
      exact settle_starting (rested_quiet quiet) slow
        fun t calm w slow => by rw [advanceItem_downSpin calm.note w, if_neg slow]
    · have held : u.pos.held = none := by
        obtain ⟨-, -, -, -, -, -, -, -, -, -, -, -, -, -, -, held, -⟩ := quiet
        exact held
      have stage : downParks u = begun e .downPark (rested s) := by
        rw [downParks, requestRetract_of_parked (s := u) parked held]
        rfl
      rw [parks h saved, stage, settle_downPark (rested_quiet quiet) code saved parked stopped]
      rfl

end Sys2Proof

namespace Sys2Proof.Machine

/-! ### The eject sequence on a drive at rest (R16 to R19) -/

/-- Three transitions and nothing after them. -/
theorem settle_of_three {s t u v : State} (h : advance s = some t) (k : advance t = some u)
    (l : advance u = some v) (m : advance v = none) : settle s = { v with mail := Mail.none } := by
  simp [settle, settleFuel, advanceMany, h, k, l, m]

/-- What an item's end leaves does not depend on the eject's marks. -/
theorem finish_ejectMarks (o : OutcomeCode) (origin : Option CartState) (eject : Option Eject) (s : State) :
    finish o { s with cart := { s.cart with origin, eject } } = finish o s := rfl

section
variable {s : State} {j : Eject} (work : s.cu.slot.work = .eject) (eject : s.cart.eject = some j)
  (note : s.mail.note = none)
include work eject note

theorem advanceItem_ejectPark (stage : j.stage = .park) :
    advanceItem s = if s.pos.state = .parked then
      if s.spin.brakeFailed then some (ejectBrakeFails s) else some (ejectBrakes s) else none := by
  simp only [advanceItem, work, advanceEject, eject, stage, note, Option.isSome_none, Bool.false_eq_true, if_false]

theorem advanceItem_ejectBrake (stage : j.stage = .brake) :
    advanceItem s = if s.spin.brakeFailed then some (ejectBrakeFails s)
      else if s.spin.state = .stopped then some (ejectStage .release s) else none := by
  simp only [advanceItem, work, advanceEject, eject, stage, note, Option.isSome_none, Bool.false_eq_true, if_false]

theorem advanceItem_ejectRelease (stage : j.stage = .release) :
    advanceItem s = if s.spin.state = .stopped ∧ s.pos.state = .parked then some (ejectReleases s) else none := by
  simp only [advanceItem, work, advanceEject, eject, stage, note, Option.isSome_none, Bool.false_eq_true, if_false]

theorem advanceItem_ejectLeave (stage : j.stage = .leaveOrJam) : advanceItem s = none := by
  simp only [advanceItem, work, advanceEject, eject, stage, note, Option.isSome_none, Bool.false_eq_true, if_false]

end

/-- An eject in its park stage on a drive at rest has LATCH asserted at once (R16 to R18). -/
theorem settle_ejectPark {s : State} {j : Eject} (load : s.record.load = none) (copy : s.record.copyWrite = none)
    (mail : s.mail = Mail.none) (work : s.cu.slot.work = .eject) (eject : s.cart.eject = some j)
    (stage : j.stage = .park) (parked : s.pos.state = .parked) (stopped : s.spin.state = .stopped)
    (brakes : s.spin.brakeFailed = false)
    (last : advance (ejectReleases (ejectStage .release (ejectStage .brake s))) = none) :
    settle s = { ejectReleases (ejectStage .release (ejectStage .brake s)) with mail := Mail.none } := by
  have note : s.mail.note = none := by rw [mail]; rfl
  have moved {w : EjectStage} {k : Eject} (h : s.cart.eject = some k) :
      (ejectStage w s).cart.eject = some { k with stage := w } := by
    change s.cart.eject.map _ = _
    rw [h]
    rfl
  have one : advance s = some (ejectStage .brake s) := by
    rw [advance_item load copy, advanceItem_ejectPark work eject note stage, if_pos parked, brakes, if_neg nofun]
    exact congrArg some (if_pos stopped)
  have two : advance (ejectStage .brake s) = some (ejectStage .release (ejectStage .brake s)) := by
    rw [advance_item (s := ejectStage .brake s) load copy,
      advanceItem_ejectBrake (s := ejectStage .brake s) work (moved eject) note rfl]
    exact (if_neg (by rw [show (ejectStage .brake s).spin = s.spin from rfl, brakes]; nofun)).trans (if_pos stopped)
  have three : advance (ejectStage .release (ejectStage .brake s))
      = some (ejectReleases (ejectStage .release (ejectStage .brake s))) := by
    have at_release : (ejectStage .release (ejectStage .brake s)).cart.eject = some { j with stage := .release } := by
      change (ejectStage .brake s).cart.eject.map _ = _
      rw [moved eject]
      rfl
    rw [advance_item (s := ejectStage .release (ejectStage .brake s)) load copy,
      advanceItem_ejectRelease (s := ejectStage .release (ejectStage .brake s)) work at_release note rfl]
    exact if_pos ⟨stopped, parked⟩
  exact settle_of_three one two three last

/-- An eject sequence has come to its park stage at once (R12, R16). -/
def ejectAtRest (button force : Bool) (s : State) : State :=
  { endRest s with
    cart := { s.cart with
      state := .unloading, origin := some s.cart.state
      eject := some { button, force, stage := .park, window := none } }
    cu := { s.cu with pendWake := false, pendAuto := false, slot := { s.cu.slot with work := .eject } } }

/-- With the heads PARKED and nothing to save it does so. -/
theorem beginEject_parked {button force : Bool} {s : State} (saved : s.record.unsaved = false)
    (parked : s.pos.state = .parked) : beginEject button force s = ejectAtRest button force s := by
  have clean : (!s.record.unsaved || s.cart.wp) = true := by rw [saved]; rfl
  refine (if_pos clean).trans ?_
  have gone : headsGone s = true := by rw [headsGone, parked]; rfl
  exact if_pos gone

/-- An eject that releases a seated shell leaves it in the window (R18). -/
theorem ejectReleases_seated {s : State} (h : s.pins.seated = true) :
    ejectReleases s = { s with
      cart := { s.cart with
        state := .released, latch := true
        eject := s.cart.eject.map fun e => { e with stage := .leaveOrJam, window := some 2000000 } }
      cu := { s.cu with pendAuto := false } } := if_pos h

/-- An eject whose shell has gone already leaves at once (R19). -/
theorem ejectReleases_gone {s : State} (saved : s.record.unsaved = false) (h : s.pins.seated = false) :
    ejectReleases s = finish .done { s with
      cart := { s.cart with state := .empty, type := none, wp := false, hold := false, latch := false }
      record := { s.record with session := .absent, copyStatus := .none, report := LoadReport.none }
      cu := { s.cu with pendAuto := false, attention := s.cu.attention ||| 0x0002#16 } } := by
  let v := setCart .released s
  let w : State := { v with cart := { v.cart with
      latch := true
      eject := v.cart.eject.map fun e => { e with stage := .leaveOrJam, window := some Config.releaseWindow } } }
  have away : ejectReleases s = ejectLeaves w := if_neg (by change ¬ s.pins.seated = true; rw [h]; nofun)
  have discards : discardSession (setCart .empty w) = { setCart .empty w with
      record := { s.record with session := .absent, copyStatus := .none, unsaved := s.record.unsaved } } := by
    have clean : (setCart .empty w).record.unsaved = false := saved
    rw [discardSession, if_neg (by rw [clean]; nofun), saved]
    rfl
  rw [away, ejectLeaves, shellLeaves, discards]
  exact finish_ejectMarks .done s.cart.origin w.cart.eject { s with
      cart := { s.cart with state := .empty, type := none, wp := false, hold := false, latch := false }
      record := { s.record with session := .absent, copyStatus := .none, report := LoadReport.none }
      cu := { s.cu with pendAuto := false, attention := s.cu.attention ||| 0x0002#16 } }

end Sys2Proof.Machine

namespace Sys2Proof

open Machine

/-- Settles O40: EJECT in EMPTY, its beginning, and the whole sequence on a drive at rest. -/
theorem ejectReleases : Obligations.EjectReleases := by
  intro e s waits
  have quiet : Quiet s := waits.2.1
  have code : e.code = 0x19#8 := waits.2.2.2.2.2.1
  obtain ⟨-, load, copy, -, -, -, -, -, -, -, -, -, -, -, -, -, -, -, mail⟩ := id quiet
  have acts {t : State} (k : settle (takeEject e (begun e .idle s)) = t) : exec .eject s = .next t :=
    next_of_waiting (f := takeEject) waits k
  let u := ejectAtRest false (byteAt e.params 0 % 2 == 1) (begun e .idle s)
  have begins (h : s.cart.state ≠ .empty) : takeEject e (begun e .idle s)
      = beginEject false (byteAt e.params 0 % 2 == 1) (begun e .idle s) := if_neg h
  refine ⟨fun empty => acts ?_, fun h => acts (congrArg settle (begins h)),
    fun h saved parked stopped brakes seated => acts ?_, fun h saved parked stopped brakes gone => acts ?_⟩
  · rw [takeEject, if_pos (by exact empty), finish_begun quiet, settle_answered quiet, resultFields_eject s code]
  · rw [begins h, beginEject_parked (s := begun e .idle s) saved parked]
    have releases := ejectReleases_seated (s := ejectStage .release (ejectStage .brake u)) seated
    refine (settle_ejectPark (s := u) load copy mail rfl rfl rfl parked stopped brakes ?_).trans ?_
    · exact (congrArg advance releases).trans ((advance_item (by exact load) (by exact copy)).trans
        (advanceItem_ejectLeave rfl rfl (begun_note (e := e) quiet .idle) rfl))
    · refine (congrArg (fun t : State => { t with mail := Mail.none }) releases).trans ?_
      rw [← mail]
      rfl
  · let v : State := { rested s with
      cart := { s.cart with state := .empty, type := none, wp := false, hold := false, latch := false }
      record := { s.record with session := .absent, copyStatus := .none, report := LoadReport.none }
      cu := { s.cu with pendWake := false, pendAuto := false, attention := s.cu.attention ||| 0x0002#16 } }
    have still : Quiet v := quiet
    rw [begins h, beginEject_parked (s := begun e .idle s) saved parked]
    have releases := ejectReleases_gone (s := ejectStage .release (ejectStage .brake u)) saved gone
    have leaves := releases.trans (finish_begun (e := e) (s := v) still .done .eject)
    rw [resultFields_eject v code] at leaves
    refine (settle_ejectPark (s := u) load copy mail rfl rfl rfl parked stopped brakes ?_).trans ?_
    · exact (congrArg advance leaves).trans (advance_answered still _ _)
    · exact (congrArg (fun t : State => { t with mail := Mail.none }) leaves).trans (answered_mail still _ _)

end Sys2Proof

/-! ## Proofs: READ TABLE and the settings commands -/

namespace Sys2Proof.Machine

/-! ### Commands answered without the mechanism -/

/-- A row whose command only answers (R107, R170, R172). -/
theorem next_of_answer {code : Byte} {e : Entry} {s v : State} {f : Entry → State → State} {o : OutcomeCode}
    {fields : List Byte} (h : Waiting code e s) (still : Quiet v)
    (answers : f e (begun e .idle s) = finishWith o fields (begun e .idle v)) :
    (.next (unlessReset (runHead code f) s) : Host.Outcome State Fault Refusal)
      = .next (answered e o fields v) := by
  refine next_of_waiting h ?_
  rw [answers, finishWith_begun still, settle_answered still]

/-- A command in the slot that leaves no work behind ends (R177). -/
theorem settle_finish_of_noWork {s : State} {e : Entry} (work : NoWork s) (item : s.cu.slot.item = .command e)
    (o : OutcomeCode) :
    settle (finish o s) =
      let r : Reply := { tag := e.tag, code := e.code, outcome := o, fields := resultFields e s, queued := true }
      if placesUsed s < 8 then replied r { s with cu := { s.cu with slot := Slot.free } }
      else { s with cu := { s.cu with slot := { s.cu.slot with work := .replying r } } } := by
  have ends : finish o s = finishWith o (resultFields e s) s := by
    unfold finish
    rw [item]
  rw [ends, finishWith_command _ _ _ e item, clearWork_of_noWork work]
  dsimp only
  obtain ⟨load, copy, -, -, -, -, -, -, -, -, -, -, -, -, -, -, -, mail⟩ := id work
  split
  · exact settle_quiet ⟨rfl, work⟩
  · exact settle_still mail load copy rfl

/-! ### The bytes of the tables (12.4, 12.5) -/

theorem byte_bit_flag (b : Bool) : byte (bit b 0) = if b then 1#8 else 0#8 := by cases b <;> rfl

theorem byteSum_eq (l : List Byte) : byteSum l = (l.map BitVec.toNat).sum % 65536 := by
  rw [byteSum, List.sum_eq_foldl, List.foldl_map]

theorem settings_autoStart (v : Nat) : (v != 0) = decide (v ≠ 0) := by
  by_cases h : v = 0 <;> simp [h]

end Sys2Proof.Machine

namespace Sys2Proof

open Machine

/-- Settles O41: READ TABLE by its table and checks, the settings commands by their parameter, and SAVE SETTINGS
with its read-back. -/
theorem tablesAndSettingsAnswered : Obligations.TablesAndSettingsAnswered := by
  refine ⟨?_, ?_, ?_⟩
  · intro e s waits n z k no yes flag typeByte w bitmap zones reason copy report user
    have quiet : Quiet s := waits.2.1
    have acts {o : OutcomeCode} {fields : List Byte} (h : readTable e.params s = (o, fields)) :
        exec .readTable s = .next (answered e o fields s) := by
      refine next_of_answer (f := takeReadTable) (o := o) (fields := fields) waits quiet ?_
      have same : readTable e.params (begun e .idle s) = (o, fields) := h
      rw [takeReadTable, same]
    have type (t : CartType) : byte t.code = typeByte t := by cases t <;> rfl
    have width (t : CartType) : w t = t.spareWidth := by cases t <;> rfl
    have map (t : CartType) : bitmap t = t.bitmapBytes := by cases t <;> rfl
    have count (t : CartType) : zones t = t.zoneCount := by cases t <;> rfl
    have flags (b : Bool) : byte (bit b 0) = flag b := byte_bit_flag b
    have why (r : RefusedReason) : byte (CartState.refused r).reason = reason r := by cases r <;> rfl
    have copies (c : CopyReport) : copyFields c = copy c := by
      obtain ⟨cls, why, header⟩ := c
      have class_ : byte cls.code = match cls with
          | .notRead => 0#8
          | .absent => 1#8
          | .damaged => 2#8
          | .valid => 3#8 := by cases cls <;> rfl
      have reason_ : byte why.code = match why with
          | .none => 0#8
          | .unreadable => 1#8
          | .noMark => 2#8
          | .version => 3#8
          | .type => 4#8
          | .zoneCount => 5#8
          | .length => 6#8
          | .sum => 7#8
          | .list => 8#8 := by cases why <;> rfl
      simp only [copyFields, class_, reason_, copy]
      cases header <;> rfl
    have reports {state why : Byte} (zero : n = 0) (read : readTable e.params s = (.done, tableReport s))
        (code : byte s.cart.state.code = state) (cause : byte s.cart.state.reason = why) : report state why := by
      refine acts (read.trans ?_)
      have known : byte (typeCode s.cart.type) = match s.cart.type with
          | none => 0#8
          | some t => typeByte t := by
        cases s.cart.type with
        | none => rfl
        | some t => exact type t
      rw [zero, tableReport, code, cause, known, copies, copies]
      cases s.record.report.chosen <;> rfl
    have users (u : UserSettings) : userFields u = user u := by
      simp only [userFields, flags, user]
    refine ⟨fun beyond => acts ?_, fun zero blank => reports zero ?_ (by rw [blank]; rfl) (by rw [blank]; rfl),
      fun zero r refused => reports zero ?_ (by rw [refused]; rfl) (by rw [refused]; exact why r),
      fun zero ready blank refused => acts ?_, fun some_ ready => acts ?_, fun r ready full => ?_,
      fun three => acts ?_, fun four => acts ?_⟩
    · obtain ⟨m, far⟩ : ∃ m, byteAt e.params 0 = m + 5 := ⟨byteAt e.params 0 - 5, by omega⟩
      simp only [n, readTable, far]
    · simp only [n] at zero
      simp only [readTable, zero, blank]
    · simp only [n] at zero
      simp only [readTable, zero, refused]
    · simp only [n] at zero
      simp only [n, readTable, zero]
    · obtain h | h := some_ <;> simp only [n] at h <;> simp only [n, readTable, h] <;>
        cases state : s.cart.state <;> simp_all
    · intro zone listed
      have far (h : zones r.type ≤ z) : r.type.zoneCount ≤ byteAt e.params 1 := by rw [← count]; exact h
      have near (h : z < zones r.type) : ¬ r.type.zoneCount ≤ byteAt e.params 1 := by
        rw [← count]; exact Nat.not_le.mpr h
      refine ⟨fun zero => acts ?_, fun some_ h => acts ?_, fun one h => acts ?_, fun two h past => acts ?_,
        fun two h inside => ⟨by simp [listed], acts ?_⟩⟩
      · have status : byte s.record.copyStatus.code = match s.record.copyStatus with
            | .none => 0#8
            | .good => 1#8
            | .degraded => 2#8 := by cases s.record.copyStatus <;> rfl
        have length : recordLength r.type r.zones
            = 16 + (r.zones.map fun x => bitmap r.type + 1 + 3 * x.list.length).sum := by
          rw [recordLength, map]
        simp only [n] at zero
        simp only [n, readTable, zero, ready, full, tableReady, type, flags, length, status]
        rfl
      · obtain h' | h' := some_ <;> simp only [n] at h' <;>
          simp only [n, readTable, h', ready, full, far h, if_true]
      · simp only [n] at one
        simp only [n, readTable, one, ready, full, near h, if_false, tableZone, Zone.setCount, width]
        rfl
      · simp only [n] at two
        simp only [n, readTable, two, ready, full, near h, if_false]
        exact if_pos past
      · simp only [n] at two
        simp only [n, readTable, two, ready, full, near h, if_false]
        exact (if_neg (Nat.not_lt.mpr inside)).trans rfl
    · simp only [n] at three
      simp only [n, readTable, three, tableSettings, users]
      rfl
    · simp only [n] at four
      simp only [n, readTable, four]
      rfl
  · intro e s v set
    refine ⟨fun waits => ?_, fun waits => ?_⟩
    · have quiet : Quiet s := waits.2.1
      have fields (v : State) : resultFields e v = [] := resultFields_loadDefaults v waits.2.2.2.2.2.1
      refine next_of_answer (f := takeLoadDefaults) (o := .done) (fields := []) (v := { s with set := { s.set with
        active := UserSettings.builtIn, trims := factoryTrimsFor s.cart.type } }) waits quiet ?_
      rw [← fields (begun e .idle { s with set := { s.set with
        active := UserSettings.builtIn, trims := factoryTrimsFor s.cart.type } })]
      rfl
    · have quiet : Quiet s := waits.2.1
      have sets {x : Nat} {g : Settings}
          (h : setParameterValue (byteAt e.params 0) (byteAt e.params 1) s.set = some (x, g)) : set g x := by
        refine next_of_answer (f := takeSetParameter) (v := { s with set := g }) (o := .done)
          (fields := [byte (byteAt e.params 0), byte x]) waits quiet ?_
        have same : setParameterValue (byteAt e.params 0) (byteAt e.params 1) (begun e .idle s).set = some (x, g) := h
        rw [takeSetParameter, same]
        rfl
      refine ⟨fun p => sets ?_, fun p => sets ?_, fun p => sets ?_, fun p => sets ?_, fun p => sets ?_,
        fun p => sets ?_, fun p => sets ?_, fun p => sets ?_, fun p => ?_⟩
      · rw [p, setParameterValue]
      · rw [p, setParameterValue, clampNat_eq _ _ _ (by decide), min_comm]
      · rw [p, setParameterValue, settings_autoStart]
      · rw [p, setParameterValue, settings_autoStart]
      · rw [p, setParameterValue]
      · rw [p, setParameterValue, clampNat_eq _ _ _ (by decide), min_comm]
      · rw [p, setParameterValue, clampNat_eq _ _ _ (by decide), min_comm]
      · rw [p, setParameterValue, clampNat_eq _ _ _ (by decide), min_comm]
      · have unknown : setParameterValue (byteAt e.params 0) (byteAt e.params 1) s.set = none := by
          obtain p | p := p
          · rw [p, setParameterValue] <;> omega
          · rw [setParameterValue] <;> omega
        refine next_of_answer (f := takeSetParameter) (o := .badParameter)
          (fields := [byte (byteAt e.params 0), 0xFF#8]) waits quiet ?_
        have same : setParameterValue (byteAt e.params 0) (byteAt e.params 1) (begun e .idle s).set = none := unknown
        rw [takeSetParameter, same]
        rfl
  · intro e s area image u head uncertain reply back
    have reads (h : back) : readBackSaved area s =
        if area = image then
          finish .done { s with set := { s.set with userArea := area, image := s.set.active, saving := none } }
        else finish .settingsWriteFailed { s with
          set := { s.set with userArea := uncertain, saving := none }, freeUsed := s.freeUsed + 1 } := by
      obtain ⟨-, -, -, -, work, saving⟩ := h
      unfold readBackSaved
      rw [work, saving]
    have acts {v : State} (h : back) (k : settle (readBackSaved area s) = v) :
        exec (.saveSettingsReadBack area) s = .next v := by
      obtain ⟨rst, -⟩ := h
      exact next_of_released (f := savedBack area) rst k
    have good (h : back) (same : area = image) := by
      obtain ⟨-, work, item, code, -⟩ := id h
      have ends := settle_finish_of_noWork (s := { s with
        set := { s.set with userArea := area, image := s.set.active, saving := none } }) work item .done
      rw [resultFields_saveSettings _ code] at ends
      exact acts h (((congrArg settle ((reads h).trans (if_pos same)))).trans ends)
    have bad (h : back) (other : area ≠ image) := by
      obtain ⟨-, work, item, code, -⟩ := id h
      have ends := settle_finish_of_noWork (s := { s with
        set := { s.set with userArea := uncertain, saving := none }, freeUsed := s.freeUsed + 1 }) work item
        .settingsWriteFailed
      rw [resultFields_saveSettings _ code] at ends
      exact acts h (((congrArg settle ((reads h).trans (if_neg other)))).trans ends)
    refine ⟨fun waits => ?_, fun h same place => ?_, fun h other place => ?_, fun h other full => ?_,
      fun h same full => ?_⟩
    · have quiet : Quiet s := waits.2.1
      have area : userAreaOf s.set.active = head ++ be16 ((head.map BitVec.toNat).sum % 65536) := by
        rw [← byteSum_eq]
        rfl
      refine next_of_waiting (f := takeSaveSettings) waits ?_
      rw [← area]
      exact settle_begun (s := { s with set := { s.set with saving := some (userAreaOf s.set.active) } }) quiet
        .saving rfl
    · exact (good h same).trans (congrArg _ (if_pos place))
    · exact (bad h other).trans (congrArg _ (if_pos place))
    · exact (bad h other).trans (congrArg _ (if_neg (Nat.not_lt.mpr full)))
    · exact (good h same).trans (congrArg _ (if_neg (Nat.not_lt.mpr full)))

end Sys2Proof

/-! ## Proofs: cancelled commands, internal operations and the cartridge handler -/

namespace Sys2Proof.Machine

/-! ### What may not take the slot does nothing (R176) -/

theorem headMayRun_iff (s : State) :
    headMayRun s = true ↔ s.cu.slot.item = .free ∧ s.cu.resets = [] ∧ s.cu.pendEject = false := by
  simp [headMayRun, slotFree_iff, and_assoc]

/-- The queue head stays where it is while the slot, a soft reset or a BUTTON EJECT bars it, or its mark does. -/
theorem runHead_of_barred {code : Byte} {f : Entry → State → State} {s : State} {e : Entry}
    (head : s.cu.queue.head? = some e)
    (h : s.cu.slot.item ≠ .free ∨ s.cu.resets ≠ [] ∨ s.cu.pendEject = true ∨ e.cancelled = true) :
    runHead code f s = s := by
  obtain ⟨rest, queue⟩ := List.head?_eq_some_iff.mp head
  have barred : headFor code s = none := by
    unfold headFor
    by_cases may : headMayRun s = true
    · obtain ⟨free, resets, eject⟩ := (headMayRun_iff s).mp may
      have marked : e.cancelled = true := by
        obtain h | h | h | h := h
        · exact absurd free h
        · exact absurd resets h
        · rw [eject] at h; cases h
        · exact h
      simp [queue, marked]
    · rw [if_neg may]
  unfold runHead
  rw [barred]

/-- A marked command takes the slot where it may (R176). -/
theorem takeCancelled_of_may {s : State} {e : Entry} (head : s.cu.queue.head? = some e)
    (marked : e.cancelled = true) (free : s.cu.slot.item = .free)
    (h : s.cu.resets ≠ [] ∨ s.cu.pendEject = false) :
    takeCancelled s = finishWith .cancelled [] (takeHead e s) := by
  obtain ⟨rest, queue⟩ := List.head?_eq_some_iff.mp head
  have may : (e.cancelled && slotFree s && (!s.cu.resets.isEmpty || !s.cu.pendEject)) = true := by
    simpa [marked, slotFree_iff, free] using h
  unfold takeCancelled
  rw [queue]
  exact if_pos may

theorem takeCancelled_of_not {s : State} {e : Entry} (head : s.cu.queue.head? = some e)
    (h : e.cancelled = false ∨ s.cu.slot.item ≠ .free ∨ s.cu.resets = [] ∧ s.cu.pendEject = true) :
    takeCancelled s = s := by
  obtain ⟨rest, queue⟩ := List.head?_eq_some_iff.mp head
  have no : ¬ (e.cancelled && slotFree s && (!s.cu.resets.isEmpty || !s.cu.pendEject)) = true := by
    intro may
    simp only [Bool.and_eq_true, Bool.or_eq_true, slotFree_iff] at may
    obtain ⟨⟨marked, free⟩, rest⟩ := may
    obtain h | h | ⟨resets, eject⟩ := h
    · rw [h] at marked; cases marked
    · exact h free
    · simp [resets, eject] at rest
  unfold takeCancelled
  rw [queue]
  exact if_neg no

end Sys2Proof.Machine

namespace Sys2Proof

open Machine

/-- Settles O42: a marked queue head is answered where it may take the slot, and nothing happens where it may
not. -/
theorem cancelledAnswered : Obligations.CancelledAnswered := by
  intro e s rst head
  refine ⟨fun quiet marked may => ?_, fun resets eject => ?_, fun plain => ?_, fun busy => ?_, fun c row barred => ?_⟩
  · refine next_of_released (f := takeCancelled) rst ?_
    have free : s.cu.slot.item = .free := by rw [quiet.1]; rfl
    rw [takeCancelled_of_may head marked free may, takeHead_eq, finishWith_begun quiet]
  · exact next_of_released (f := takeCancelled) rst (takeCancelled_of_not head (.inr (.inr ⟨resets, eject⟩)))
  · exact next_of_released (f := takeCancelled) rst (takeCancelled_of_not head (.inl plain))
  · exact next_of_released (f := takeCancelled) rst (takeCancelled_of_not head (.inr (.inl busy)))
  · have stays (code : Byte) (f : Entry → State → State) :
        (.next (unlessReset (runHead code f) s) : Host.Outcome State Fault Refusal) = .next s :=
      next_of_released rst (runHead_of_barred head barred)
    simp only [List.mem_cons, List.not_mem_nil, or_false] at row
    rcases row with rfl | rfl | rfl | rfl | rfl | rfl | rfl | rfl | rfl | rfl | rfl | rfl | rfl | rfl <;>
      exact stays _ _

end Sys2Proof

namespace Sys2Proof.Machine

/-! ### Items other than commands at the slot -/

/-- An item is in the slot at this stage. -/
def occupied (i : Item) (w : Work) (s : State) : State :=
  { s with cu := { s.cu with slot := { Slot.free with item := i, work := w } } }

theorem occupied_calm {i : Item} {w : Work} {s : State} (h : s.mail = Mail.none) : Calm (occupied i w s) := by
  refine ⟨?_, rfl⟩
  change s.mail.note = none
  rw [h]
  rfl

theorem startRequest_occupied (i : Item) (w : Work) (s : State) :
    startRequest (occupied i w s) = occupied i w (startRequest s) := by
  rw [startRequest_eq, startRequest_eq]
  rfl

section
variable {s : State} (quiet : Quiet s)
include quiet

/-- An internal operation that leaves no work behind ends without a reply (R177). -/
theorem finish_occupied {i : Item} (internal : ∀ e, i ≠ .command e) (o : OutcomeCode) (w : Work) :
    finish o (occupied i w s) = s := by
  obtain ⟨slot, work⟩ := quiet
  have clear : clearWork (occupied i w s) = occupied i w s := clearWork_of_noWork work
  have free : freeSlot (occupied i w s) = s := by
    unfold freeSlot
    rw [← slot]
    rfl
  cases i with
  | command e => exact absurd rfl (internal e)
  | free => exact (congrArg freeSlot clear).trans free
  | autoStart => exact (congrArg freeSlot clear).trans free
  | buttonEject => exact (congrArg freeSlot clear).trans free
  | timedWake => exact (congrArg freeSlot clear).trans free
  | softReset tag => exact (congrArg freeSlot clear).trans free

theorem advance_occupied (i : Item) (w : Work) : advance (occupied i w s) = advanceItem (occupied i w s) := by
  obtain ⟨-, load, copy, -⟩ := quiet
  exact advance_item load copy

theorem settle_occupied {i : Item} {w : Work} (still : advanceItem (occupied i w s) = none) :
    settle (occupied i w s) = occupied i w s := by
  obtain ⟨-, load, copy, -⟩ := id quiet
  exact settle_still quiet.noMail load copy still

end

theorem advanceItem_wakeSpin {s : State} (calm : Calm s) (w : s.cu.slot.work = .wakeSpin) :
    advanceItem s = if s.spin.state = .atSpeed then
      if s.rest.wakeActive then
        some (setWork .wakeTarget (requestTarget { cyl := s.pos.resume, offset := 0 } (some .wake) s))
      else some (endWake s)
    else none := by
  simp only [advanceItem, w, advanceWake, calm.note, calm.abort, Bool.false_eq_true, if_false]

theorem advanceItem_resetPark {s : State} (note : s.mail.note = none) (w : s.cu.slot.work = .resetPark) :
    advanceItem s = if s.pos.state = .parked then some (restore s) else none := by
  simp only [advanceItem, w, advanceReset, note, Option.isSome_none, Bool.false_eq_true, if_false]

/-- RESTORE on a part with no work in hand (R184, R172). -/
theorem restore_occupied {s : State} (quiet : Quiet s) (tag : Byte) (w : Work) :
    restore (occupied (.softReset tag) w s) = replied
      { tag, code := 0x35#8, outcome := .done, fields := [], queued := false }
      { s with
        cu := { s.cu with resets := s.cu.resets.tail, attention := s.cu.attention &&& 0xFDFF#16 }
        set := { s.set with active := s.set.image, trims := factoryTrimsFor s.cart.type } } := by
  obtain ⟨slot, work⟩ := quiet
  let v : State := replied
    { tag, code := 0x35#8, outcome := .done, fields := [], queued := false }
    { occupied (.softReset tag) w s with
      cu := { s.cu with
        slot := { Slot.free with item := .softReset tag, work := w }
        resets := s.cu.resets.tail, attention := s.cu.attention &&& 0xFDFF#16 }
      set := { s.set with active := s.set.image, trims := factoryTrimsFor s.cart.type } }
  have clear : clearWork v = v := clearWork_of_noWork work
  have parts : restore (occupied (.softReset tag) w s) = freeSlot (clearWork v) := rfl
  rw [parts, clear]
  unfold freeSlot
  rw [← slot]
  rfl

theorem takeAutoStart_of_may {s : State} (may : headMayRun s = true) (pend : s.cu.pendAuto = true) :
    takeAutoStart s =
      let u := occupied .autoStart .idle { s with cu := { s.cu with pendAuto := false } }
      settle (if s.cart.state ≠ .present ∨ class13Held s = true then finish .done u else beginStart u) := by
  refine (if_pos ?_).trans rfl
  rw [may, pend]
  rfl

theorem takeAutoStart_of_not {s : State} (no : ¬ (headMayRun s = true ∧ s.cu.pendAuto = true)) :
    takeAutoStart s = s := by
  refine if_neg ?_
  rw [Bool.and_eq_true]
  exact no

theorem takeTimedWake_of_may {s : State} (may : headMayRun s = true) (pend : s.cu.pendWake = true) :
    takeTimedWake s =
      settle (beginWake (occupied .timedWake .idle { s with cu := { s.cu with pendWake := false } })) := by
  refine (if_pos ?_).trans rfl
  rw [may, pend]
  rfl

theorem takeTimedWake_of_not {s : State} (no : ¬ (headMayRun s = true ∧ s.cu.pendWake = true)) :
    takeTimedWake s = s := by
  refine if_neg ?_
  rw [Bool.and_eq_true]
  exact no

/-- The queue is drained for a soft reset: no marked command is at its head (R184). -/
theorem drained_iff {s : State} (free : s.cu.slot.item = .free) :
    drained s = true ↔ ∀ e, s.cu.queue.head? = some e → e.cancelled = false := by
  have slot : slotFree s = true := (slotFree_iff s).mpr free
  unfold drained
  rw [slot]
  cases s.cu.queue <;> simp

theorem takeSoftReset_of_drained {s : State} {tag : Byte} {rest : List Byte} (resets : s.cu.resets = tag :: rest)
    (h : drained s = true) :
    takeSoftReset s = settle (setWork .resetPark (requestRetract (occupied (.softReset tag) .idle
      { rested s with cu := { s.cu with pendAuto := false, pendWake := false } }))) := by
  unfold takeSoftReset
  rw [resets]
  exact if_pos h

theorem takeSoftReset_of_not {s : State} {tag : Byte} {rest : List Byte} (resets : s.cu.resets = tag :: rest)
    (h : ¬ drained s = true) : takeSoftReset s = s := by
  unfold takeSoftReset
  rw [resets]
  exact if_neg h

end Sys2Proof.Machine

namespace Sys2Proof

open Machine

/-- Settles O43: each internal operation at the slot, by its gate and the state of the mechanism. -/
theorem internalOperationsRun : Obligations.InternalOperationsRun := by
  refine ⟨?_, ?_, ?_⟩
  · intro s rst quiet may u started
    have free : s.cu.slot.item = .free := by rw [quiet.1]; rfl
    have still : Quiet u := quiet
    have acts {t : State} (k : takeAutoStart s = t) : exec .autoStart s = .next t := next_of_released rst k
    have runs (h : may) := takeAutoStart_of_may ((headMayRun_iff s).mpr ⟨free, h.1, h.2.1⟩) h.2.2
    have starts (h : may) (present : s.cart.state = .present) (fault : class13Held s = false) :
        takeAutoStart s = settle (occupied .autoStart .startSpin
          (startRequest { u with cart := { s.cart with state := .starting } })) := by
      rw [runs h]
      have no : ¬ (s.cart.state ≠ .present ∨ class13Held s = true) := by
        rw [present, fault]
        simp
      refine congrArg settle ((if_neg no).trans ?_)
      exact congrArg (setWork .startSpin) (startRequest_occupied .autoStart .idle
        { u with cart := { s.cart with state := .starting } })
    refine ⟨fun h barred => acts ?_, fun h present fault slow => acts ?_, fun h present fault turning => acts ?_,
      fun no => acts ?_⟩
    · rw [runs h]
      refine (congrArg settle (if_pos barred)).trans ?_
      rw [finish_occupied (i := .autoStart) still nofun, settle_quiet still]
    · have quiet' : Quiet (startRequest { u with cart := { s.cart with state := .starting } }) :=
        startRequest_quiet (s := { u with cart := { s.cart with state := .starting } }) quiet
      rw [starts h present fault, settle_occupied quiet']
      · rw [startRequest_eq, startRequest_eq]
        rfl
      · rw [advanceItem_startSpin (occupied_calm quiet'.noMail) rfl]
        exact if_neg (startRequest_spin_state (s := { u with cart := { s.cart with state := .starting } }) slow)
    · rw [starts h present fault, startRequest_eq]
      have spin : s.spin.starts (s.pos.state == .parked) = s.spin := by
        unfold Spindle.starts
        rw [turning]
      exact congrArg (fun p => settle (started p)) spin
    · refine takeAutoStart_of_not fun ⟨run, pend⟩ => no ?_
      obtain ⟨-, resets, eject⟩ := (headMayRun_iff s).mp run
      exact ⟨resets, eject, pend⟩
  · intro s rst quiet may slot waking
    have free : s.cu.slot.item = .free := by rw [quiet.1]; rfl
    let u : State := { s with cu := { s.cu with pendWake := false } }
    have still : Quiet u := quiet
    have acts {t : State} (k : takeTimedWake s = t) : exec .timedWake s = .next t := next_of_released rst k
    have runs (h : may) : takeTimedWake s = settle (beginWake (occupied .timedWake .idle u)) :=
      takeTimedWake_of_may ((headMayRun_iff s).mpr ⟨free, h.1, h.2.1⟩) h.2.2
    have woken : Quiet { rested s with
        cu := { s.cu with pendWake := false, attention := s.cu.attention ||| 0x0040#16 } } := quiet
    have ends (w : Work) : endWake (occupied .timedWake w (rested s)) = { rested s with
        cu := { s.cu with pendWake := false, attention := s.cu.attention ||| 0x0040#16 } } :=
      finish_occupied (i := .timedWake) woken nofun .done w
    have wakes (h : may) (resting : s.rest.state ≠ .none) (fault : class13Held s = false) :
        takeTimedWake s = settle (setWork .wakeSpin (if s.spin.state = .atSpeed
          then occupied .timedWake .idle (rested s) else startRequest (occupied .timedWake .idle (rested s)))) := by
      rw [runs h]
      exact congrArg settle ((if_neg resting).trans (if_neg (by change ¬ class13Held s = true; rw [fault]; nofun)))
    refine ⟨fun h none => acts ?_, fun h resting fault => acts ?_, fun h resting fault slow => acts ?_,
      fun h resting fault turning idle => acts ?_, fun h resting fault turning => acts ?_, fun no => acts ?_⟩
    · rw [runs h]
      refine (congrArg settle (if_pos none)).trans ?_
      rw [finish_occupied (i := .timedWake) still nofun, settle_quiet still]
    · rw [runs h]
      refine (congrArg settle ((if_neg resting).trans (if_pos fault))).trans ?_
      exact (congrArg settle (ends .idle)).trans (settle_quiet woken)
    · have quiet' : Quiet (startRequest (rested s)) := startRequest_quiet (s := rested s) quiet
      rw [wakes h resting fault, if_neg slow, startRequest_occupied]
      refine settle_occupied (i := .timedWake) (w := .wakeSpin) quiet' ?_
      rw [advanceItem_wakeSpin (occupied_calm quiet'.noMail) rfl]
      exact if_neg (startRequest_spin_state (s := rested s) slow)
    · rw [wakes h resting fault, if_pos turning]
      have first : advance (occupied .timedWake .wakeSpin (rested s))
          = some (endWake (occupied .timedWake .wakeSpin (rested s))) := by
        rw [advance_occupied (rested_quiet quiet), advanceItem_wakeSpin (occupied_calm (s := rested s) quiet.noMail) rfl]
        exact (if_pos turning).trans (if_neg (by change ¬ s.rest.wakeActive = true; rw [idle]; nofun))
      rw [ends] at first
      refine (settle_of_one first (advance_quiet woken)).trans ?_
      rw [← quiet.noMail]
      rfl
    · rw [wakes h resting fault, if_pos turning]
      rfl
    · refine takeTimedWake_of_not fun ⟨run, pend⟩ => no ?_
      obtain ⟨-, resets, eject⟩ := (headMayRun_iff s).mp run
      exact ⟨resets, eject, pend⟩
  · intro s tag rest rst quiet resets drain u
    have free : s.cu.slot.item = .free := by rw [quiet.1]; rfl
    have acts {t : State} (k : takeSoftReset s = t) : exec .softResetPark s = .next t := next_of_released rst k
    refine ⟨fun h parked => acts ?_, fun h => acts (takeSoftReset_of_drained resets ((drained_iff free).mpr h)),
      fun h => acts (takeSoftReset_of_not resets fun d => h ((drained_iff free).mp d))⟩
    let v : State := { rested s with cu := { s.cu with pendAuto := false, pendWake := false } }
    have still : Quiet v := quiet
    have held : v.pos.held = none := by
      obtain ⟨-, -, -, -, -, -, -, -, -, -, -, -, -, -, -, held, -⟩ := quiet
      exact held
    rw [takeSoftReset_of_drained resets ((drained_iff free).mpr h),
      requestRetract_of_parked (s := occupied (.softReset tag) .idle v) parked held]
    have first : advance (occupied (.softReset tag) .resetPark v)
        = some (restore (occupied (.softReset tag) .resetPark v)) := by
      rw [advance_occupied still, advanceItem_resetPark (occupied_calm still.noMail).note rfl]
      exact if_pos parked
    have tail : v.cu.resets.tail = rest := by
      change s.cu.resets.tail = rest
      rw [resets]
      rfl
    rw [restore_occupied still, tail] at first
    refine (settle_of_one first (advance_quiet ?_)).trans ?_
    · exact quiet
    · rw [← quiet.noMail]
      rfl

end Sys2Proof

namespace Sys2Proof.Machine

/-! ### The cartridge handler's events -/

theorem pressIgnored_iff (s : State) :
    pressIgnored s = true ↔ s.cart.state = .empty ∨ s.cart.state = .unloading ∨ s.cart.state = .released
      ∨ s.cu.pendEject = true := by
  simp [pressIgnored, or_assoc]

theorem takeButtonEject_of_may {s : State} (free : s.cu.slot.item = .free) (resets : s.cu.resets = [])
    (pend : s.cu.pendEject = true) :
    takeButtonEject s = settle (beginEject true false
      (occupied .buttonEject .idle { s with cu := { s.cu with pendEject := false } })) := by
  refine if_pos ?_
  rw [(slotFree_iff s).mpr free, resets, pend]
  rfl

theorem takeButtonEject_of_not {s : State} (free : s.cu.slot.item = .free)
    (no : ¬ (s.cu.resets = [] ∧ s.cu.pendEject = true)) : takeButtonEject s = s := by
  refine if_neg fun h => no ?_
  simpa [(slotFree_iff s).mpr free] using h

/-- The session of a shell that leaves or jams is discarded: RECORD LOST if a change was unsaved (R7). -/
theorem discardSession_eq (s : State) :
    discardSession s = { s with
      cu := { s.cu with attention := s.cu.attention ||| if s.record.unsaved then 0x0080#16 else 0#16 }
      record := { s.record with session := .absent, copyStatus := .none, unsaved := false } } := by
  cases unsaved : s.record.unsaved with
  | true =>
    refine (congrArg (fun t : State => { t with
      record := { t.record with session := .absent, copyStatus := .none, unsaved := false } })
      (if_pos unsaved)).trans rfl
  | false =>
    have none : (if s.record.unsaved = true then setCause .recordLost s else s) = s :=
      if_neg (by rw [unsaved]; nofun)
    rw [discardSession, none]
    simp only [Bool.false_eq_true, if_false, BitVec.or_zero]

/-- A start is pending still where a cartridge of a known type is PRESENT again (R3, R20). -/
theorem pendAuto_stateForType (t : Option CartType) (b : Bool) :
    (if stateForType t = .present then b else false) = (t.isSome && b) := by
  cases t <;> rfl

end Sys2Proof.Machine

namespace Sys2Proof

open Machine

/-- Settles O44: the press by the cartridge state and the removal hold, BUTTON EJECT at the slot, and the expiry of
the release window. -/
theorem buttonEjects : Obligations.ButtonEjects := by
  refine ⟨?_, ?_, ?_⟩
  · intro s rst ignored u
    have acts {t : State} (k : pressButton s = t) : exec .ejectButtonPress s = .next t := next_of_released rst k
    have heard (h : ¬ ignored) : pressButton s = if s.cart.hold then setCause .ejectAsked s else requestEject s :=
      if_neg fun h' => h ((pressIgnored_iff s).mp h')
    have requests (h : ¬ ignored) (hold : s.cart.hold = false) : pressButton s = settle (tellAbort u) :=
      (heard h).trans (if_neg (by rw [hold]; nofun))
    refine ⟨fun h => acts (if_pos ((pressIgnored_iff s).mpr h)), fun h hold => acts ((heard h).trans (if_pos hold)),
      fun h hold away => acts ?_, fun h hold reaches => acts ?_⟩
    · rw [requests h hold, tellAbort_of_not (s := u) away]
    · rw [requests h hold, tellAbort_of_reaches (s := u) reaches]
      rfl
  · intro s rst quiet may slot u
    have free : s.cu.slot.item = .free := by rw [quiet.1]; rfl
    have acts {t : State} (k : takeButtonEject s = t) : exec .buttonEject s = .next t := next_of_released rst k
    have runs (h : may) := takeButtonEject_of_may free h.1 h.2
    obtain ⟨-, load, copy, -, -, -, -, -, -, -, -, -, -, -, -, -, -, -, mail⟩ := id quiet
    have note : s.mail.note = none := by rw [mail]; rfl
    refine ⟨fun h saved parked stopped brakes seated => acts ?_, fun h => acts (runs h),
      fun h unsaved open_ slow retracting => acts ?_, fun h => acts (takeButtonEject_of_not free h)⟩
    · rw [runs h, beginEject_parked (s := occupied .buttonEject .idle { s with
        cu := { s.cu with pendEject := false } }) saved parked]
      let v := ejectAtRest true false (occupied .buttonEject .idle { s with cu := { s.cu with pendEject := false } })
      have releases := ejectReleases_seated (s := ejectStage .release (ejectStage .brake v)) seated
      refine (settle_ejectPark (s := v) load copy mail rfl rfl rfl parked stopped brakes ?_).trans ?_
      · exact (congrArg advance releases).trans ((advance_item (by exact load) (by exact copy)).trans
          (advanceItem_ejectLeave rfl rfl (by exact note) rfl))
      · refine (congrArg (fun t : State => { t with mail := Mail.none }) releases).trans ?_
        rw [← mail]
        rfl
    · let v : State := { ejectAtRest true false (occupied .buttonEject .idle { s with
          cu := { s.cu with pendEject := false, attention := s.cu.attention ||| 0x0080#16 } }) with
        cart := { s.cart with
          state := .unloading, origin := some s.cart.state
          eject := some { button := true, force := false, stage := .park, window := none } } }
      have saves : beginEject true false u = v := by
        have unclean : ¬ (!s.record.unsaved || s.cart.wp) = true := by
          rw [unsaved, open_]
          nofun
        have gone : headsGone v = true := by
          change headsGone s = true
          rw [headsGone, retracting]
          rfl
        refine (if_neg unclean).trans ((if_pos rfl).trans ((if_neg slow).trans ?_))
        exact if_pos gone
      have moving : s.pos.state ≠ .parked := by rw [retracting]; nofun
      rw [runs h]
      refine (congrArg settle saves).trans ((settle_still (s := v) mail load copy ?_).trans rfl)
      rw [advanceItem_ejectPark (s := v) rfl rfl (by exact note) rfl]
      exact if_neg moving
  · intro s rst lost jammed
    have acts {t : State} (k : windowExpires s = t) : exec .releaseWindowExpiry s = .next t :=
      next_of_released rst k
    refine ⟨fun h => acts ((if_pos h).trans (congrArg settle ?_)), fun h => acts (if_neg h)⟩
    rw [ejectJams, discardSession_eq, setCart, pendAuto_stateForType]
    rfl

end Sys2Proof

namespace Sys2Proof.Machine

/-- A shell of a known type comes into an EMPTY drive (R2, R3). -/
theorem insertShell_known {a b w : Bool} {s : State} {t : CartType} (empty : s.cart.state = .empty)
    (type : typeOfNotches a b = some t) :
    insertShell a b w s = { s with
      pins := { s.pins with seated := true, notchA := a, notchB := b, wprot := w }
      cart := { s.cart with state := .present, type := some t, wp := w }
      set := { s.set with trims := { t.factoryTrims with gs := s.set.trims.gs } }
      cu := { s.cu with
        attention := s.cu.attention ||| 0x0001#16
        pendAuto := s.cu.pendAuto || (s.set.active.autoStart && !class13Held s) } } := by
  let v : State := { s with
      pins := { s.pins with seated := true, notchA := a, notchB := b, wprot := w }
      cart := { s.cart with state := .present, type := some t, wp := w }
      set := { s.set with trims := { t.factoryTrims with gs := s.set.trims.gs } }
      cu := { s.cu with attention := s.cu.attention ||| 0x0001#16 } }
  have comes : insertShell a b w s = if s.set.active.autoStart && !class13Held s then
      { v with cu := { v.cu with pendAuto := true } } else v := by
    refine (if_neg (not_not_intro empty)).trans ?_
    rw [type]
    rfl
  rw [comes]
  cases starts : s.set.active.autoStart && !class13Held s with
  | true => simp only [if_true, Bool.or_true, v]
  | false => simp only [Bool.false_eq_true, if_false, Bool.or_false, v]

theorem insertShell_unknown {a b w : Bool} {s : State} (empty : s.cart.state = .empty)
    (type : typeOfNotches a b = none) :
    insertShell a b w s = { s with
      pins := { s.pins with seated := true, notchA := a, notchB := b, wprot := w }
      cart := { s.cart with state := .refused .typeUnknown, type := none, wp := w }
      cu := { s.cu with attention := s.cu.attention ||| 0x0001#16, pendAuto := false } } := by
  refine (if_neg (not_not_intro empty)).trans ?_
  rw [type]
  rfl

/-- What is left of a cartridge whose shell is gone (R4, R7, R19). -/
theorem shellLeaves_record (s : State) :
    shellLeaves s = { s with
      cart := { s.cart with state := .empty, type := none, wp := false, hold := false, latch := false }
      record := { s.record with
        session := .absent, copyStatus := .none, unsaved := false, report := LoadReport.none }
      cu := { s.cu with
        pendAuto := false
        attention := s.cu.attention ||| (if s.record.unsaved then 0x0080#16 else 0#16) ||| 0x0002#16 } } := by
  rw [shellLeaves, discardSession_eq]
  rfl

theorem removable_iff (s : State) :
    removable s = true ↔ (s.cart.state = .present ∨ ∃ r, s.cart.state = .refused r) ∧ s.spin.state = .stopped
      ∧ s.pos.state = .parked := by
  unfold removable
  cases s.cart.state <;> simp

end Sys2Proof.Machine

namespace Sys2Proof

open Machine

/-- Settles O45: INSERTION by the notches, and SEATED FALLING by the cartridge state and the mechanism. -/
theorem shellComesAndGoes : Obligations.ShellComesAndGoes := by
  constructor
  · intro a b w s rst p att trims auto
    have acts {t : State} (k : insertShell a b w s = t) : exec (.insertion a b w) s = .next t :=
      next_of_released (f := insertShell a b w) rst k
    refine ⟨fun empty notchA notchB => acts ?_, fun empty notchA notchB => acts ?_, fun empty same => acts ?_,
      fun present => acts (if_pos present)⟩
    · exact insertShell_known empty (by rw [notchA, notchB]; rfl)
    · exact insertShell_known empty (by rw [notchA, notchB]; rfl)
    · exact insertShell_unknown empty (by rw [same]; cases b <;> rfl)
  · intro s rst p removable lost gone
    have acts {t : State} (k : seatedFalls s = t) : exec .seatedFalling s = .next t :=
      next_of_released (f := seatedFalls) rst k
    have left : shellLeaves { s with pins := p } = gone := shellLeaves_record { s with pins := p }
    have kept (h : removable) : s.cart.state ≠ .released := by
      obtain ⟨h | ⟨r, h⟩, -⟩ := h <;> rw [h] <;> nofun
    refine ⟨fun h => acts ?_, fun h => acts ?_, fun h no => acts ?_⟩
    · refine (if_neg (kept h)).trans ((if_pos ?_).trans ?_)
      · exact (removable_iff { s with pins := p }).mpr h
      · rw [removeShell, left]
    · exact (if_pos h).trans (congrArg (fun t => settle (finish .done t)) left)
    · exact (if_neg h).trans (if_neg fun h' => no ((removable_iff { s with pins := p }).mp h'))

end Sys2Proof

/-! ## Proofs: faults and the timers of the mechanism -/

namespace Sys2Proof.Machine

/-! ### What a raised fault brings about -/

/-- The answer that the End instruction leaves under way (R146). -/
def noteAfter (cls : FaultClass) (s : State) : Option FaultClass :=
  if executing s && s.mail.note.isNone then some cls else s.mail.note

theorem noteEnd_eq (cls : FaultClass) (s : State) :
    noteEnd cls s = { s with mail := { s.mail with note := noteAfter cls s } } := by
  unfold noteEnd noteAfter
  split <;> rfl

theorem noteEnd_of_free (cls : FaultClass) {s : State} (h : s.cu.slot.item = .free) : noteEnd cls s = s := by
  refine if_neg ?_
  rw [executing, h]
  nofun

theorem cutWrite_of_not_writing {s : State} (h : writing s = false) : cutWrite s = s := by
  refine cutWrite_idle s fun p d op => ?_
  rw [writing, op] at h
  cases h

/-- A part whose write gate is off writes no sector (R121). -/
theorem not_writing_of_parked {s : State} (gate : GateLaw s) (h : s.pos.state ≠ .following) : writing s = false := by
  obtain ⟨same, on, -⟩ := gate
  cases wgate : s.chan.wgate with
  | false => rw [← same, wgate]
  | true => exact absurd (on wgate).1 h

/-! ### Requests to a mechanism at rest -/

/-- What a stop request makes of the spindle with the heads PARKED (R37, R38). -/
def Spindle.stops (p : Spindle) : Spindle :=
  if p.state = .stopped ∨ p.state = .coasting ∨ p.state = .braking then p.withdrawn
  else p.withdrawn.enterBraking

theorem stopRequest_of_parked {s : State} (parked : s.pos.state = .parked) :
    stopRequest s = { s with spin := s.spin.stops } := by
  unfold stopRequest
  dsimp only
  split
  · rename_i h
    rw [Spindle.stops, if_pos (.inl h)]
    rfl
  · rename_i h
    rw [Spindle.stops, if_pos (.inr (.inl h))]
    rfl
  · rename_i h
    rw [Spindle.stops, if_pos (.inr (.inr h))]
    rfl
  · rename_i stopped coasting braking
    have turning : ¬ (s.spin.state = .stopped ∨ s.spin.state = .coasting ∨ s.spin.state = .braking) := by
      rintro (h | h | h)
      · exact stopped h
      · exact coasting h
      · exact braking h
    rw [Spindle.stops, if_neg turning]
    simp only [parked]
    rfl

theorem Spindle.stops_of_turning {p : Spindle}
    (h : p.state = .kick ∨ p.state = .accel ∨ p.state = .regulate ∨ p.state = .atSpeed) : p.stops = brakes p := by
  refine if_neg ?_
  obtain h | h | h | h := h <;> rw [h] <;> simp

theorem Spindle.stops_of_standing {p : Spindle}
    (h : p.state = .stopped ∨ p.state = .coasting ∨ p.state = .braking) : p.stops = p.withdrawn := if_pos h

/-- SPINDLE STALL with the heads PARKED (R148): the spindle is stopped, the queue marked and the item ended. -/
theorem stall_parked (cls : FaultClass) {s : State} (parked : s.pos.state = .parked) (held : s.pos.held = none)
    (idle : writing s = false) :
    cancelQueue (stopRequest (requestRetract (cutWrite (noteEnd cls s))))
      = noteEnd cls (marked { s with spin := s.spin.stops }) := by
  have still : cutWrite (noteEnd cls s) = noteEnd cls s := by
    rw [noteEnd_eq]
    exact cutWrite_of_not_writing (s := { s with mail := { s.mail with note := noteAfter cls s } }) idle
  rw [still, noteEnd_eq, requestRetract_of_parked (s := { s with mail := { s.mail with note := noteAfter cls s } })
    parked held, stopRequest_of_parked (s := { s with mail := { s.mail with note := noteAfter cls s } }) parked,
    noteEnd_eq]
  rfl

/-! ### Requests to flying heads with no work in hand -/

theorem tellRequester_of_none {o : TargetOutcome} {s : State} (h : s.pos.requester = none) :
    tellRequester o s = s := by
  rw [tellRequester_eq, h]
  rfl

theorem tellRequester_ite (o : TargetOutcome) (s : State) :
    tellRequester o s = if s.pos.requester = none then s else tell o s := by
  rw [tellRequester_eq]
  cases s.pos.requester <;> rfl

section
variable {s : State} (op : s.chan.op = none) (requester : s.pos.requester = none)
include op requester

theorem enterRetracting_of_idle (out : s.pins.park = false) : enterRetracting s = { s with
    pos := s.pos.retracting, clk := Clock.reference } := by
  have still : depart s = s := depart_of_none op
  have told : tellRequester .ended s = s := tellRequester_of_none requester
  rw [enterRetracting_eq, still, if_neg (by rw [out]; nofun), beganRetract, still, told]

/-- With PARK high the retract ends at once (R65, R68). -/
theorem enterRetracting_of_sensed (sensed : s.pins.park = true) : enterRetracting s = { s with
    pos := s.pos.retracting.park, clk := Clock.reference, spin := s.spin.seesParked } := by
  have still : depart s = s := depart_of_none op
  have told : tellRequester .ended s = s := tellRequester_of_none requester
  rw [enterRetracting_eq, still, if_pos sensed, enterParked_eq, beganRetract, still, told]

theorem enterEmergency_of_idle (held : s.pos.held = none) (out : s.pins.park = false) :
    enterEmergency s = { inEmergency s with spin := s.spin.seesEmergency } := by
  have still : depart s = s := depart_of_none op
  have told : tellRequester .ended s = s := tellRequester_of_none requester
  have none : tellHeldEnded s = s := by
    rw [tellHeldEnded_eq, if_pos]
    rw [held]
    rfl
  rw [enterEmergency_eq, still, if_neg (by rw [out]; nofun), beganEmergency, still, told, none]
  rfl

end

/-- A retract asked of flying heads (R64, R65). -/
theorem requestRetract_of_flying {s : State} (flies : s.pos.state.home = false) (held : s.pos.held = none) :
    requestRetract s = enterRetracting s := by
  unfold requestRetract
  rw [discardHeld_of_none held]
  split
  case h_4 => rfl
  all_goals simp_all [PosState.home]

end Sys2Proof.Machine

namespace Sys2Proof.Machine

/-- A turning spindle is let run down while the heads retract (R37). -/
theorem stopRequest_of_returning {s : State} (turning : s.spin.state = .atSpeed)
    (h : s.pos.state = .retracting ∨ s.pos.state = .emergency) :
    stopRequest s = { s with spin := s.spin.withdrawn.enterCoasting } := by
  unfold stopRequest
  dsimp only
  obtain h | h := h <;> simp only [turning, h] <;> rw [← turning] <;> rfl

theorem stopRequest_of_braking {s : State} (h : s.spin.state = .braking) :
    stopRequest s = { s with spin := s.spin.withdrawn } := by
  unfold stopRequest
  dsimp only
  split
  case h_3 => rfl
  all_goals simp_all

theorem stopRequest_of_coasting {s : State} (h : s.spin.state = .coasting) :
    stopRequest s = { s with spin := s.spin.withdrawn } := by
  unfold stopRequest
  dsimp only
  split
  case h_2 => rfl
  all_goals simp_all

/-- A STALL with the heads away from the ramp and no work in hand: the spindle coasts while they retract (R148). -/
theorem stall_flying (cls : FaultClass) {s : State} (quiet : Quiet s) (flies : s.pos.state.home = false)
    (turning : s.spin.state = .atSpeed) (out : s.pins.park = false) :
    cancelQueue (stopRequest (requestRetract (cutWrite (noteEnd cls s))))
      = retracts (marked { s with spin := { coasts s.spin with pendingStart := false } }) := by
  obtain ⟨slot, -, -, -, -, -, op, -, -, -, -, -, -, -, requester, held, -⟩ := quiet
  have free : s.cu.slot.item = .free := by rw [slot]; rfl
  have idle : writing s = false := writing_of_op_none op
  rw [noteEnd_of_free cls free, cutWrite_of_not_writing idle, requestRetract_of_flying flies held,
    enterRetracting_of_idle op requester out,
    stopRequest_of_returning (s := { s with pos := s.pos.retracting, clk := Clock.reference }) turning (.inl rfl)]
  rfl

/-- SUPPLY LOSS on parked heads (R147). -/
theorem supplyLoss_parked {s : State} (parked : s.pos.state = .parked) (idle : writing s = false)
    (free : s.cu.slot.item = .free) :
    respond .supplyLoss s = marked { s with spin := s.spin.stops } := by
  have still : requestEmergency s = s := by
    unfold requestEmergency
    rw [parked]
  change cancelQueue (stopRequest (requestEmergency (cutWrite (noteEnd .supplyLoss s)))) = _
  rw [noteEnd_of_free _ free, cutWrite_of_not_writing idle, still, stopRequest_of_parked parked]
  rfl

end Sys2Proof.Machine

namespace Sys2Proof

open Machine

/-- Settles O46: the timers of a start, INDEX LOSS, and the timers of a brake, each in and out of its states. -/
theorem spindleTimersAct : Obligations.SpindleTimersAct := by
  have away {st : SpindleState} {s : State} (law : SpindleLaw s) (h : s.spin.state = st)
      (held : st = .kick ∨ st = .accel ∨ st = .regulate ∨ st = .braking) : s.pos.state = .parked := by
    rw [SpindleLaw, h] at law
    obtain rfl | rfl | rfl | rfl := held <;> exact law
  refine ⟨?_, ?_, ?_⟩
  · intro s rst stall starting
    have raises {v : State} (parked : v.pos.state = .parked) (held : v.pos.held = none) (idle : writing v = false)
        (turns : v.spin.state = .kick ∨ v.spin.state = .accel ∨ v.spin.state = .regulate) :
        raise .stallSpinUp v = stall v := by
      have stops : v.spin.stops = brakes v.spin := by
        refine Spindle.stops_of_turning ?_
        obtain h | h | h := turns
        · exact .inl h
        · exact .inr (.inl h)
        · exact .inr (.inr (.inl h))
      refine (stall_parked .stallSpinUp (s := recorded .stallSpinUp v) parked held idle).trans ?_
      rw [show (recorded .stallSpinUp v).spin = v.spin from rfl, stops]
    have starts {c : Instr} {f : State → State} (row : exec c s = .next (unlessReset f s)) {t : State}
        (k : f s = t) : exec c s = .next t := row.trans (next_of_released rst k)
    refine ⟨fun law gate held => ⟨fun kick => ?_, fun accel => ?_, fun turns => ?_⟩, fun no => starts rfl (if_neg no),
      fun no => starts rfl (if_neg no), fun no => starts rfl ?_⟩
    · have parked := away law kick (.inl rfl)
      have idle := not_writing_of_parked gate (by rw [parked]; nofun)
      exact starts (f := kickExpires) rfl ((if_pos kick).trans (congrArg settle (raises parked held idle (.inl kick))))
    · have parked := away law accel (.inr (.inl rfl))
      have idle := not_writing_of_parked gate (by rw [parked]; nofun)
      exact starts (f := accelSaturates) rfl ((if_pos accel).trans (congrArg settle
        (raises (v := { s with spin := { s.spin with gap := Config.gapMax } }) parked held idle (.inr (.inl accel)))))
    · have parked : s.pos.state = .parked := by
        obtain h | h | h := turns
        · exact away law h (.inl rfl)
        · exact away law h (.inr (.inl rfl))
        · exact away law h (.inr (.inr (.inl rfl)))
      have idle := not_writing_of_parked gate (by rw [parked]; nofun)
      refine starts (f := spinUpExpires) rfl ?_
      rw [← raises parked held idle turns, spinUpExpires]
      obtain h | h | h := turns <;> rw [h]
    · unfold spinUpExpires
      split
      · rename_i h; exact absurd (.inl h) no
      · rename_i h; exact absurd (.inr (.inl h)) no
      · rename_i h; exact absurd (.inr (.inr h)) no
      · rfl
  · intro s rst v turning
    have acts {t : State} (k : indexLost s = t) : exec .indexLoss s = .next t :=
      next_of_released (f := indexLost) rst k
    have loses (h : turning) : indexLost s = settle (raise .stallIndexLoss v) := if_pos h
    refine ⟨fun h => acts (loses h), fun h gate parked held => acts ?_, fun turns quiet following out => acts ?_,
      fun no => acts (if_neg no)⟩
    · have idle := not_writing_of_parked gate (by rw [parked]; nofun)
      have stops : s.spin.stops = brakes s.spin := by
        refine Spindle.stops_of_turning ?_
        obtain h | h := h
        · exact .inr (.inr (.inl h))
        · exact .inr (.inr (.inr h))
      have braked : v.spin.stops = brakes v.spin := by
        refine Spindle.stops_of_turning ?_
        obtain h | h := h
        · exact .inr (.inr (.inl h))
        · exact .inr (.inr (.inr h))
      rw [loses h]
      refine congrArg settle ((stall_parked .stallIndexLoss (s := recorded .stallIndexLoss v) parked held idle).trans ?_)
      rw [show (recorded .stallIndexLoss v).spin = v.spin from rfl, braked]
    · have flies : s.pos.state.home = false := by rw [following]; rfl
      have still : Quiet (recorded .stallIndexLoss v) := quiet
      rw [loses (.inr turns)]
      refine (congrArg settle (stall_flying .stallIndexLoss still flies turns out)).trans (settle_quiet ?_)
      obtain ⟨slot, load, copy, transfer, reassign, fmt, op, slot0, slot1, out, ready, gate, line, send, requester,
        held, origin, eject, mail⟩ := quiet
      exact ⟨slot, load, copy, transfer, reassign, fmt, op, slot0, slot1, out, ready, gate, line, send, rfl,
        held, origin, eject, mail⟩
  · intro s rst p v again
    have stop {t : State} (k : stopExpires s = t) : exec .stopTimerExpiry s = .next t :=
      next_of_released (f := stopExpires) rst k
    have brake {t : State} (k : brakeExpires s = t) : exec .brakeTimerExpiry s = .next t :=
      next_of_released (f := brakeExpires) rst k
    have stops (h : s.spin.state = .braking) :
        stopExpires s = settle { s with spin := if again then p.enterKick else p } := if_pos h
    refine ⟨fun h yes => stop ?_, fun h no => stop ?_, fun no => stop (if_neg no),
      fun law gate held braking runs => brake ?_, fun no => brake (if_neg ?_)⟩
    · rw [stops h, if_pos yes]
      rfl
    · rw [stops h, if_neg no]
    · have parked := away law braking (.inr (.inr (.inr rfl)))
      have idle := not_writing_of_parked gate (by rw [parked]; nofun)
      let w : State := { s with spin := { s.spin with brake := none, brakeFailed := true } }
      have stands : w.spin.stops = v.spin := Spindle.stops_of_standing (.inr (.inr braking))
      refine (if_pos ⟨braking, Option.isSome_iff_ne_none.mpr runs⟩).trans (congrArg settle ?_)
      refine (stall_parked .stallBrake (s := recorded .stallBrake w) parked held idle).trans ?_
      rw [show (recorded .stallBrake w).spin = w.spin from rfl, stands]
      rfl
    · rintro ⟨braking, runs⟩
      obtain no | no := no
      · exact no braking
      · rw [no] at runs; cases runs

/-- Settles O53: the supply warning and its fault, with the drive at rest and with the heads FOLLOWING, and the rest
timer. -/
theorem supplyAndRestTimerAct : Obligations.SupplyAndRestTimerAct := by
  intro s rst low w withdrawn
  have falls {t : State} (k : supplyWarns s = t) : exec .supwarnFalls s = .next t :=
    next_of_released (f := supplyWarns) rst k
  have warns (h : s.fault.warning = false) : supplyWarns s = settle (raise .supplyLoss w) :=
    if_neg (by change ¬ s.fault.warning = true; rw [h]; nofun)
  have rests {t : State} (k : restExpires s = t) : exec .restTimerExpiry s = .next t :=
    next_of_released (f := restExpires) rst k
  refine ⟨fun h => falls (if_pos h), fun h => falls (warns h), fun h quiet parked stopped => falls ?_,
    fun h quiet following turning out => falls ?_, next_of_released (f := supplyRecovers) rst rfl,
    fun runs => rests ?_, fun none => rests ?_⟩
  · have free : s.cu.slot.item = .free := by rw [quiet.1]; rfl
    have idle : writing s = false := by
      obtain ⟨-, -, -, -, -, -, op, -⟩ := quiet
      exact writing_of_op_none op
    have stands : s.spin.stops = s.spin.withdrawn := Spindle.stops_of_standing (.inl stopped)
    rw [warns h]
    refine (congrArg settle (supplyLoss_parked (s := recorded .supplyLoss w) parked idle free)).trans ?_
    rw [show (recorded .supplyLoss w).spin = s.spin from rfl, stands]
    exact settle_quiet quiet
  · obtain ⟨slot, load, copy, transfer, reassign, fmt, op, slot0, slot1, outstanding, ready, gate, line, send,
      requester, held, origin, eject, mail⟩ := quiet
    have free : s.cu.slot.item = .free := by rw [slot]; rfl
    have sees : s.spin.seesEmergency = coasts s.spin := if_pos turning
    let r := recorded .supplyLoss w
    have emergency : requestEmergency r = { inEmergency r with spin := coasts s.spin } := by
      have flies : requestEmergency r = enterEmergency r := by
        have following' : r.pos.state = .following := following
        unfold requestEmergency
        rw [following']
      rw [flies, enterEmergency_of_idle (s := r) op requester held out, show r.spin = s.spin from rfl, sees]
    have responds : respond .supplyLoss r = inEmergency (marked { r with spin := withdrawn (coasts s.spin) }) := by
      change cancelQueue (stopRequest (requestEmergency (cutWrite (noteEnd .supplyLoss r)))) = _
      rw [noteEnd_of_free _ (by exact free), cutWrite_of_not_writing (by exact writing_of_op_none op), emergency,
        stopRequest_of_coasting (s := { inEmergency r with spin := coasts s.spin }) rfl]
      rfl
    rw [warns h]
    refine (congrArg settle responds).trans (settle_quiet ?_)
    exact ⟨slot, load, copy, transfer, reassign, fmt, op, slot0, slot1, outstanding, ready, gate, line, send,
      rfl, rfl, origin, eject, mail⟩
  · obtain ⟨n, timer⟩ := Option.ne_none_iff_exists'.mp runs
    unfold restExpires
    rw [timer]
  · unfold restExpires
    rw [none]

end Sys2Proof

/-! ## Proofs: HARD RESET -/

namespace Sys2Proof.Machine

theorem areaAtReset_eq (s : State) :
    areaAtReset s = if s.set.saving = none then s.set.userArea
      else (List.range 16).map (Config.interruptedSaveByte s.freeUsed) := by
  unfold areaAtReset
  cases s.set.saving <;> rfl

theorem areaGood_iff (a : List Byte) :
    areaGood a = true ↔ a.length = 16 ∧ byteAt a 0 = 0x96
      ∧ ((a.take 14).map BitVec.toNat).sum % 65536 = word16At a 14
      ∧ byteAt a 1 ≤ 15 ∧ 1 ≤ byteAt a 2 ∧ byteAt a 2 ≤ 15 := by
  simp [areaGood, byteSum_eq, and_assoc]

theorem settingsAtReset_eq (a : List Byte) :
    settingsAtReset a = if areaGood a = true then
      { retry := byteAt a 1, timeout := byteAt a 2, autoStart := byteAt a 3 % 2 == 1
        writeVerify := byteAt a 3 / 2 % 2 == 1 }
      else { retry := 8, timeout := 2, autoStart := false, writeVerify := false } := rfl

/-- The spindle after a reset (R41). -/
theorem spinAtReset_eq (l : Levels) :
    spinAtReset l =
      { state := if l.seated then (if l.park then .braking else .coasting) else .stopped
        deviating := false, drive := 0, period := 1000000, gap := 1000000, inCount := 0
        outCount := 0, kick := none, spinUp := none
        stop := if l.seated && l.park then some 1000000 else none
        brake := if l.seated && l.park then some 10000000 else none
        brakeFailed := false, pendingStart := false } := by
  unfold spinAtReset
  cases l.seated <;> cases l.park <;> rfl

/-- No start is pending after a reset: the stop request of SUPPLY LOSS changes nothing (R37). -/
theorem spinAtReset_withdrawn (l : Levels) : (spinAtReset l).withdrawn = spinAtReset l := by
  rw [spinAtReset_eq]
  rfl

theorem cartAtReset_eq (l : Levels) :
    cartAtReset l = if l.seated then
      (if (if l.seated then typeOfNotches l.notchA l.notchB else none).isSome then .present
        else .refused .typeUnknown) else .empty := by
  unfold cartAtReset
  cases l.seated with
  | false => rfl
  | true => cases typeOfNotches l.notchA l.notchB <;> rfl

theorem resetState_quiet (l : Levels) (s : State) : Quiet (resetState l s) := by
  refine ⟨rfl, rfl, rfl, rfl, rfl, rfl, rfl, rfl, rfl, rfl, rfl, rfl, rfl, rfl, ?_, ?_, rfl, rfl, rfl⟩
  · change (posAtReset l).requester = none
    unfold posAtReset
    split <;> rfl
  · change (posAtReset l).held = none
    unfold posAtReset
    split <;> rfl

/-- SUPPLY LOSS at a reset (R159): the heads are made safe, and a spindle that stands or runs down is left so. -/
theorem respond_supplyLoss_reset {s : State} (quiet : Quiet s) (queue : s.cu.queue = [])
    (stands : s.spin.state = .stopped ∨ s.spin.state = .coasting ∨ s.spin.state = .braking)
    (settled : s.spin.withdrawn = s.spin)
    (home : s.pos.state = .parked ∨ s.pos.state = .retracting ∧ s.pins.park = false) :
    respond .supplyLoss s = if s.pos.state = .parked then s else inEmergency s := by
  obtain ⟨slot, load, copy, transfer, reassign, fmt, op, slot0, slot1, outstanding, ready, gate, line, send,
    requester, held, -⟩ := quiet
  have free : s.cu.slot.item = .free := by rw [slot]; rfl
  have idle : writing s = false := writing_of_op_none op
  have marks (p : Positioner) (k : Clock) : cancelQueue { s with pos := p, clk := k } = { s with pos := p, clk := k } := by
    unfold cancelQueue
    rw [show ({ s with pos := p, clk := k } : State).cu = s.cu from rfl, queue, List.map_nil, ← queue]
  obtain home | ⟨home, out⟩ := home
  · rw [if_pos home, supplyLoss_parked home idle free, Spindle.stops_of_standing stands, settled]
    exact marks s.pos s.clk
  · have away : s.pos.state ≠ .parked := by rw [home]; nofun
    have sees : s.spin.seesEmergency = s.spin := by
      refine if_neg ?_
      obtain h | h | h := stands <;> rw [h] <;> nofun
    have asks : requestEmergency s = inEmergency s := by
      have enters : requestEmergency s = enterEmergency s := by
        unfold requestEmergency
        rw [home]
      rw [enters, enterEmergency_of_idle op requester held out, sees]
      rfl
    have stops : stopRequest (inEmergency s) = { inEmergency s with spin := s.spin.withdrawn } := by
      obtain h | h | h := stands
      · exact stopRequest_of_stopped (s := inEmergency s) h
      · exact stopRequest_of_coasting (s := inEmergency s) h
      · exact stopRequest_of_braking (s := inEmergency s) h
    change cancelQueue (stopRequest (requestEmergency (cutWrite (noteEnd .supplyLoss s)))) = _
    rw [noteEnd_of_free _ free, cutWrite_of_not_writing idle, asks, stops, settled, if_neg away]
    exact marks (inEmergency s).pos (inEmergency s).clk

end Sys2Proof.Machine

namespace Sys2Proof

open Machine

/-- Settles O54: every block by the levels that are read and by the user area, and SUPPLY LOSS where SUPWARN is
low. -/
theorem hardResetRestores : Obligations.HardResetRestores := by
  intro l s area good user ty spin pos att after
  have area_ : areaAtReset s = area := areaAtReset_eq s
  have good_ : areaGood area = true ↔ good := areaGood_iff area
  have user_ : settingsAtReset area = user := by
    rw [settingsAtReset_eq]
    exact if_congr good_ rfl rfl
  have type_ : (if l.seated then typeOfNotches l.notchA l.notchB else none) = ty := by
    cases seated : l.seated <;> cases a : l.notchA <;> cases b : l.notchB <;> simp only [ty, seated, a, b] <;> rfl
  have pos_ : posAtReset l = if l.park then pos .parked 0 none none else pos .retracting (-40) (some 300000) none := by
    unfold posAtReset
    cases l.park <;> rfl
  have att_ : Cause.powerReturn.mask ||| (if areaGood area then 0#16 else Cause.settingsRestored.mask) = att := by
    by_cases h : good
    · rw [if_pos (good_.mpr h)]
      exact (if_pos h).symm
    · rw [if_neg fun h' => h (good_.mp h')]
      exact (if_neg h).symm
  have uses : s.freeUsed + (if s.set.saving.isSome then 1 else 0)
      = s.freeUsed + (if s.set.saving = none then 0 else 1) := by
    cases s.set.saving <;> rfl
  have resets : resetState l s
      = { after with fault := { slot := none, holder := none, warning := !l.supwarn } } := by
    unfold resetState
    rw [area_, cartAtReset_eq, type_]
    dsimp only
    rw [user_, att_, pos_, uses, spinAtReset_eq]
    rfl
  refine ⟨fun high => ?_, fun low => ?_⟩
  · refine congrArg Host.Outcome.next ((if_pos high).trans ?_)
    rw [resets, high]
    rfl
  · have quiet : Quiet (recorded .supplyLoss (resetState l s)) := resetState_quiet l s
    have state : (resetState l s).pos.state = if l.park then .parked else .retracting := by
      change (posAtReset l).state = _
      rw [pos_]
      cases l.park <;> rfl
    have responds := respond_supplyLoss_reset (s := recorded .supplyLoss (resetState l s)) quiet rfl
      (by
        change (spinAtReset l).state = _ ∨ (spinAtReset l).state = _ ∨ (spinAtReset l).state = _
        rw [spinAtReset_eq]
        cases l.seated <;> cases l.park <;> simp)
      (spinAtReset_withdrawn l)
      (by
        change (resetState l s).pos.state = _ ∨ (resetState l s).pos.state = _ ∧ l.park = false
        rw [state]
        cases l.park <;> simp)
    refine congrArg Host.Outcome.next ((if_neg (by rw [low]; nofun)).trans ?_)
    refine (congrArg settle responds).trans ?_
    rw [show (recorded .supplyLoss (resetState l s)).pos = (resetState l s).pos from rfl, state]
    cases park : l.park with
    | true =>
      rw [if_pos rfl, if_pos rfl, settle_quiet quiet, resets]
      simp only [after, park, low]
      rfl
    | false =>
      have at_rest : Quiet (inEmergency (recorded .supplyLoss (resetState l s))) := by
        obtain ⟨slot, load, copy, transfer, reassign, fmt, op, slot0, slot1, outstanding, ready, gate, line, send,
          requester, held, rest⟩ := quiet
        exact ⟨slot, load, copy, transfer, reassign, fmt, op, slot0, slot1, outstanding, ready, gate, line, send,
          rfl, rfl, rest⟩
      rw [if_neg nofun, if_neg nofun, settle_quiet at_rest, resets]
      simp only [after, park, low]
      rfl

end Sys2Proof

/-! ## Proofs: the timers of the heads -/

namespace Sys2Proof.Machine

/-! ### With PARK high the heads are never on their way, whatever the items do -/

theorem clearWork_sensed {s : State} (h : Sensed s) : Sensed (clearWork s) := by
  obtain ⟨park, back, hurry, none⟩ := h
  refine ⟨park, back, hurry, ?_⟩
  change s.pos.held.map _ = _
  rw [none]
  rfl

theorem Move.sensed {live : Bool} {s t : State} (h : Move live s t) (ok : Sensed s) : Sensed t := by
  cases h with
  | aside h =>
    obtain ⟨⟨-, -, -, state, -⟩, -, -, -, -, -, -, -, park, held, -⟩ := h
    obtain ⟨high, back, hurry, none⟩ := ok
    exact ⟨by rw [park, high], by rw [state]; exact back, by rw [state]; exact hurry, held none⟩
  | acts h _ => exact h.sensed ok
  | start => rw [startRequest_eq]; exact ok
  | request => exact ok
  | withdraw => exact ok
  | work => exact ok
  | @finish o fields _ _ =>
    have cleared := clearWork_sensed ok
    obtain ⟨r, -, -, ⟨-, eq⟩ | eq⟩ | ⟨-, eq⟩ := finishWith_cases o fields s <;> rw [eq] <;> exact cleared
  | restore =>
    have cleared := clearWork_sensed ok
    unfold Machine.restore
    split
    · exact cleared
    · exact ok
  | cart => exact ok
  | eject => exact ok
  | latch => exact ok
  | unlatch => exact ok
  | shell => exact ok

theorem Moves.sensed {live : Bool} {s t : State} (h : Moves live s t) (ok : Sensed s) : Sensed t := by
  induction h with
  | refl => exact ok
  | tail _ move ih => exact move.sensed ih

/-- What settles after an entry to PARKED holds no request. -/
theorem settle_sensed {s : State} (h : Sensed s) : Sensed (settle s) := Moves.sensed (settle_moves (live := false) s) h

/-! ### The report of PARKED -/

theorem Spindle.seesParked_eq (p : Spindle) :
    p.seesParked = if p.state = .coasting then { brakes p with pendingStart := p.pendingStart }
      else if p.state = .stopped ∧ p.pendingStart = true then kicks p else p := by
  unfold Spindle.seesParked
  split
  · rename_i coasting
    exact (if_pos coasting).symm
  · rename_i stopped
    have still : p.state ≠ .coasting := by rw [stopped]; nofun
    rw [if_neg still]
    exact if_congr (by simp [stopped]) rfl rfl
  · rename_i coasting stopped
    rw [if_neg coasting, if_neg fun h => stopped h.1]

/-- Heads in RETRACTING or EMERGENCY that see PARK are PARKED, and the spindle is told (R68). -/
theorem enterParked_told (s : State) :
    enterParked s = { parks s with
      pos := { (parks s).pos with held := s.pos.held }
      spin := if s.spin.state = .coasting then { brakes s.spin with pendingStart := s.spin.pendingStart }
        else if s.spin.state = .stopped ∧ s.spin.pendingStart = true then kicks s.spin else s.spin } := by
  rw [enterParked_eq, Spindle.seesParked_eq]
  rfl

theorem Quiet.parks {s : State} (h : Quiet s) (q : Spindle) : Quiet { Machine.parks s with spin := q } := by
  obtain ⟨slot, load, copy, transfer, reassign, fmt, op, slot0, slot1, outstanding, ready, gate, line, send,
    -, -, rest⟩ := h
  exact ⟨slot, load, copy, transfer, reassign, fmt, op, slot0, slot1, outstanding, ready, gate, line, send,
    rfl, rfl, rest⟩

/-- A free slot has nothing to work out. -/
theorem settle_of_free {s : State} (slot : s.cu.slot = Slot.free) (load : s.record.load = none)
    (copy : s.record.copyWrite = none) : settle s = { s with mail := Mail.none } := by
  refine settle_of_done ((advance_item load copy).trans ?_)
  simp [advanceItem, slot, Slot.free]

/-- The orderly retract that a SEEK FAILED asks for finds the ramp (R67, R152). -/
theorem respond_seekPark_parked {s : State} (parked : s.pos.state = .parked) (held : s.pos.held = none)
    (free : s.cu.slot.item = .free) : respond .seekPark s = s := by
  change requestRetract (noteEnd .seekPark s) = s
  rw [noteEnd_of_free _ free, requestRetract_of_parked parked held]

theorem loadFailure_some_of {s : State} (turning : s.spin.state = .atSpeed) (no : ¬ Loadable s) :
    ∃ why, loadFailure s = some why := by
  unfold loadFailure
  rw [if_neg (not_not_intro turning)]
  cases clear : class13Held s with
  | true => exact ⟨_, if_pos rfl⟩
  | false =>
    refine ⟨.typeUnknown, (if_neg nofun).trans (if_pos ?_)⟩
    by_contra known
    exact no ⟨turning, clear, fun h => known (by rw [h]; rfl)⟩

end Sys2Proof.Machine

namespace Sys2Proof

open Machine

/-- Settles O49: each timer of the heads and PARK, in its state and void in the others. -/
theorem headTimersAct : Obligations.HeadTimersAct := by
  intro park s rst p v home told home'
  have load {t : State} (k : loadExpires park s = t) : exec (.loadTimerExpiry park) s = .next t :=
    next_of_released (f := loadExpires park) rst k
  have retract {t : State} (k : retractExpires s = t) : exec .retractTimerExpiry s = .next t :=
    next_of_released (f := retractExpires) rst k
  have emergency {t : State} (k : emergencyExpires s = t) : exec .emergencyTimerExpiry s = .next t :=
    next_of_released (f := emergencyExpires) rst k
  have rises {t : State} (k : parkSeen s = t) : exec .parkRises s = .next t :=
    next_of_released (f := parkSeen) rst k
  have away (h : home) : parkSeen s = settle (heldActs (settle (home' v))) := by
    refine (if_pos h).trans ?_
    rw [parkReported, enterParked_told]
  have loads_ (h : s.pos.state = .loading) : loadExpires park s = settle (raise .seekLoad
      (let u := if s.pos.requester = none then p else tell .failed p
       { u with pos := { u.pos with requester := none } })) := by
    refine (if_pos h).trans ?_
    have same : tellRequester .failed p = if s.pos.requester = none then p else tell .failed p :=
      tellRequester_ite .failed p
    rw [← same]
  have parked_held (h : s.pos.held = none) (u : State) : home' u = told (parks u) := by
    change ({ told (parks u) with pos := { (parks u).pos with held := s.pos.held } } : State) = _
    rw [h]
    rfl
  refine ⟨fun h => load (if_neg h), fun h => load (loads_ h), fun h quiet turning => load ?_,
    fun h => retract (if_neg h), fun h => retract (if_pos h), fun h quiet out => retract ?_,
    fun h => emergency (if_neg h), fun h => emergency ?_, fun h quiet => emergency ?_,
    fun h => rises (if_neg h), fun h => rises (away h), fun h none => rises ?_,
    fun h t q held quiet turning => rises ?_, fun h quiet => rises ?_⟩
  · obtain ⟨slot, work, copy, transfer, reassign, fmt, op, slot0, slot1, outstanding, ready, gate, line, send,
      requester, held, rest⟩ := quiet
    have free : p.cu.slot.item = .free := by change s.cu.slot.item = _; rw [slot]; rfl
    have clean : ({ s.pos with requester := none } : Positioner) = s.pos := by rw [← requester]
    have flies : s.pos.state.home = false := by rw [h]; rfl
    have asked : respond .seekLoad (recorded .seekLoad p)
        = if park then parks (recorded .seekLoad p) else retracts (recorded .seekLoad p) := by
      change requestRetract (noteEnd .seekLoad (recorded .seekLoad p)) = _
      rw [noteEnd_of_free _ (by exact free), requestRetract_of_flying (s := recorded .seekLoad p) flies held]
      cases sensed : park with
      | false =>
        exact (enterRetracting_of_idle (s := recorded .seekLoad p) op requester sensed).trans (if_neg nofun).symm
      | true =>
        rw [enterRetracting_of_sensed (s := recorded .seekLoad p) op requester sensed, Spindle.seesParked,
          show (recorded .seekLoad p).spin = s.spin from rfl, turning, if_pos rfl, parks, ← held]
        rfl
    rw [loads_ h, if_pos requester]
    refine (congrArg (fun q => settle (raise .seekLoad { p with pos := q })) clean).trans ?_
    refine (congrArg settle asked).trans (settle_quiet ?_)
    cases park
    · exact ⟨slot, work, copy, transfer, reassign, fmt, op, slot0, slot1, outstanding, ready, gate, line, send,
        rfl, held, rest⟩
    · exact ⟨slot, work, copy, transfer, reassign, fmt, op, slot0, slot1, outstanding, ready, gate, line, send,
        rfl, rfl, rest⟩
  · obtain ⟨slot, work, copy, transfer, reassign, fmt, op, slot0, slot1, outstanding, ready, gate, line, send,
      requester, held, rest⟩ := quiet
    refine (if_pos h).trans ((congrArg settle (enterEmergency_of_idle op requester held out)).trans ?_)
    exact settle_quiet ⟨slot, work, copy, transfer, reassign, fmt, op, slot0, slot1, outstanding, ready, gate, line,
      send, rfl, rfl, rest⟩
  · refine (if_pos h).trans ?_
    rw [enterParked_told]
  · have held : s.pos.held = none := by
      obtain ⟨-, -, -, -, -, -, -, -, -, -, -, -, -, -, -, held, -⟩ := quiet
      exact held
    have free : s.cu.slot.item = .free := by rw [quiet.1]; rfl
    have at_rest : Quiet (recorded .seekPark (told (parks s))) := quiet.parks _
    have responds : raise .seekPark (told (parks s)) = recorded .seekPark (told (parks s)) :=
      respond_seekPark_parked (s := recorded .seekPark (told (parks s))) rfl rfl free
    have enters : enterParked s = told (parks s) := (enterParked_told s).trans (parked_held held s)
    refine (if_pos h).trans ?_
    rw [enters, responds, settle_quiet at_rest]
  · have parked : Sensed (told (parks v)) := ⟨rfl, nofun, nofun, rfl⟩
    rw [away h, parked_held none, heldActs_of_none (settle_sensed parked).2.2.2]
  · obtain ⟨slot, work, copy, transfer, reassign, fmt, op, slot0, slot1, outstanding, ready, gate, line, send,
      requester, -, rest⟩ := quiet
    obtain ⟨-, -, mail⟩ := rest
    have spins : (told (parks v)).spin = s.spin := by
      change (if s.spin.state = .coasting then _ else _) = _
      rw [turning, if_neg nofun, if_neg fun h => nomatch h.1]
    have plain : told (parks v) = parks v := congrArg (fun q : Spindle => { parks v with spin := q }) spins
    have reached : home' v = { parks v with pos := { (parks v).pos with held := some (t, q) } } := by
      rw [← held, ← plain]
    have first : settle (home' v) = home' v := by
      rw [reached]
      refine (settle_of_free (s := { parks v with pos := { (parks v).pos with held := some (t, q) } }) slot work
        copy).trans ?_
      rw [← mail]
      rfl
    have acts : heldActs (home' v) = requestParked t q (parks v) := by
      rw [reached]
      rfl
    rw [away h, first, acts]
    by_cases loadable : class13Held s = false ∧ s.cart.type ≠ none
    · rw [if_pos loadable, requestParked_of_loadable (s := parks v) ⟨turning, loadable⟩]
      refine (settle_of_free (s := loads t q (parks v)) slot work copy).trans ?_
      rw [← mail]
      rfl
    · obtain ⟨why, fails⟩ := loadFailure_some_of (s := parks v) turning fun h => loadable h.2
      rw [if_neg loadable, requestParked_of_failure fails]
      cases q with
      | none =>
        refine (settle_of_free (s := parks v) slot work copy).trans ?_
        rw [← mail]
        rfl
      | some q =>
        refine (settle_of_free (s := tell (.notLoaded why) (parks v)) slot work copy).trans ?_
        rw [← mail]
        rfl
  · have held : s.pos.held = none := by
      obtain ⟨-, -, -, -, -, -, -, -, -, -, -, -, -, -, -, held, -⟩ := quiet
      exact held
    have at_rest : Quiet (told (parks v)) := Quiet.parks (s := v) quiet _
    rw [away h, parked_held held, settle_quiet at_rest, heldActs_of_none rfl, settle_quiet at_rest]

end Sys2Proof

/-! ## Proofs: missing samples and servo samples -/

namespace Sys2Proof.Machine

/-! ### The rotation goes on -/

theorem rotateNext_quiet {sig : ReadSignal} {s : State} (h : Quiet s) :
    rotateNext sig s = { s with chan := { s.chan with
      rotation := max s.chan.rotation (min 31 (s.chan.rotation + 1)) } } := by
  unfold rotateNext
  split
  · rename_i less
    have next : max s.chan.rotation (min 31 (s.chan.rotation + 1)) = s.chan.rotation + 1 := by omega
    rw [rotate_quiet h, next]
    rfl
  · rename_i last
    have stays : max s.chan.rotation (min 31 (s.chan.rotation + 1)) = s.chan.rotation := by omega
    rw [settle_quiet h, stays]

/-! ### Missing samples (R43, R44, R62, R63) -/

theorem tracks_iff (p : PosState) :
    p.tracks = true ↔ p = .seeking ∨ p = .settling ∨ p = .following ∨ p = .coasting := by
  cases p <;> simp [PosState.tracks, PosState.flying]

theorem positionMiss_of_last {s : State} (coasting : s.pos.state = .coasting) (last : 8 ≤ s.pos.missing + 1) :
    positionMiss s = losesServo s := if_pos ⟨coasting, last⟩

theorem positionMiss_of_not {s : State} (h : ¬ (s.pos.state = .coasting ∧ 8 ≤ s.pos.missing + 1)) :
    positionMiss s = missCounts (coastOn s) := if_neg h

theorem coastOn_of_coasting {s : State} (h : s.pos.state = .coasting) :
    coastOn s = { s with pos := { s.pos with missing := s.pos.missing + 1 } } := if_pos h

theorem coastOn_of_tracking {s : State} (h : s.pos.state ≠ .coasting) :
    coastOn s = { depart s with pos := { s.pos with
      state := .coasting, current := 0, remembered := s.pos.state, missing := 1, settle := 0, offTrack := 0 } } := by
  refine (if_neg h).trans ?_
  dsimp only
  rw [depart_pos]

theorem missCounts_of_following {s : State} (h : s.pos.remembered = .following) : missCounts s = s := if_pos h

theorem missCounts_of_seek {s : State} (h : s.pos.remembered ≠ .following) :
    missCounts s = if 400 ≤ s.pos.seekCount + 1 then
        seekTimesOut { s with pos := { s.pos with seekCount := s.pos.seekCount + 1 } }
      else { s with pos := { s.pos with seekCount := s.pos.seekCount + 1 } } := if_neg h

theorem seekTimesOut_eq (s : State) :
    seekTimesOut s = if s.pos.restartUsed = false then
        { s with pos := { s.pos with seekCount := 0, restartUsed := true, settle := 0 } }
      else
        let t := if s.pos.requester = none then s else tell .failed s
        raise .seekSeek { t with pos := { t.pos with requester := none } } := by
  unfold seekTimesOut
  rw [tellRequester_ite]
  cases used : s.pos.restartUsed <;> rfl

/-- SEEK FAILED (seek) with no work in hand (R60, R152). -/
theorem seekFails_quiet {s : State} (quiet : Quiet s) (flies : s.pos.state.home = false)
    (out : s.pins.park = false) : raise .seekSeek s = retracts (recorded .seekSeek s) := by
  obtain ⟨slot, -, -, -, -, -, op, -, -, -, -, -, -, -, requester, held, -⟩ := quiet
  have free : s.cu.slot.item = .free := by rw [slot]; rfl
  change requestRetract (noteEnd .seekSeek (recorded .seekSeek s)) = _
  rw [noteEnd_of_free _ (by exact free), requestRetract_of_flying (s := recorded .seekSeek s) flies held,
    enterRetracting_of_idle (s := recorded .seekSeek s) op requester out]
  rfl

theorem seekTimesOut_quiet {s : State} (quiet : Quiet s) (used : s.pos.restartUsed = true)
    (flies : s.pos.state.home = false) (out : s.pins.park = false) :
    seekTimesOut s = retracts (recorded .seekSeek s) := by
  have requester : s.pos.requester = none := by
    obtain ⟨-, -, -, -, -, -, -, -, -, -, -, -, -, -, requester, -⟩ := quiet
    exact requester
  have clean : ({ s.pos with requester := none } : Positioner) = s.pos := by rw [← requester]
  rw [seekTimesOut_eq, used, if_neg nofun, if_pos requester]
  exact (congrArg (fun q => raise .seekSeek { s with pos := q }) clean).trans (seekFails_quiet quiet flies out)

theorem Quiet.retracts {s : State} (h : Quiet s) : Quiet (Machine.retracts s) := by
  obtain ⟨slot, load, copy, transfer, reassign, fmt, op, slot0, slot1, outstanding, ready, gate, line, send,
    -, rest⟩ := h
  exact ⟨slot, load, copy, transfer, reassign, fmt, op, slot0, slot1, outstanding, ready, gate, line, send,
    rfl, rest⟩

/-- SERVO LOSS with no work in hand (R63). -/
theorem losesServo_quiet {s : State} (quiet : Quiet s) (flies : s.pos.state.home = false)
    (out : s.pins.park = false) : raise .servoLoss s = retracts (marked (recorded .servoLoss s)) := by
  obtain ⟨slot, -, -, -, -, -, op, -, -, -, -, -, -, -, requester, held, -⟩ := quiet
  have free : s.cu.slot.item = .free := by rw [slot]; rfl
  have idle : writing s = false := writing_of_op_none op
  change cancelQueue (requestRetract (cutWrite (noteEnd .servoLoss (recorded .servoLoss s)))) = _
  rw [noteEnd_of_free _ (by exact free), cutWrite_of_not_writing (by exact idle),
    requestRetract_of_flying (s := recorded .servoLoss s) flies held,
    enterRetracting_of_idle (s := recorded .servoLoss s) op requester out]
  rfl

end Sys2Proof.Machine

namespace Sys2Proof

open Machine

/-- Settles O48: a declaration by the state of the heads and the counts, SERVO LOSS, and the timeout of a seek. -/
theorem missingSamplesAct : Obligations.MissingSamplesAct := by
  intro s rst tracks seeks inSeek v next m coast timedOut
  have declares {t : State} (k : missDeclared s = t) : exec .missingSampleDeclaration s = .next t :=
    next_of_released (f := missDeclared) rst k
  have loses {t : State} (k : servoLost s = t) : exec .servoLoss s = .next t :=
    next_of_released (f := servoLost) rst k
  have expires {t : State} (k : seekExpires s = t) : exec .seekTimeout s = .next t :=
    next_of_released (f := seekExpires) rst k
  have missed (h : tracks) : missDeclared s = rotateNext ReadSignal.none (settle (positionMiss v)) :=
    if_pos ((tracks_iff _).mpr h)
  have lost (h : tracks) : servoLost s = rotateNext ReadSignal.none (settle (raise .servoLoss v)) :=
    if_pos ((tracks_iff _).mpr h)
  have flies (h : tracks) : s.pos.state.home = false := by
    obtain h | h | h | h := h <;> rw [h] <;> rfl
  have seeking (h : seeks) : tracks := by
    obtain h | h := h
    · exact .inl h
    · exact .inr (.inl h)
  have unfollowed (h : seeks) : s.pos.state ≠ .following ∧ s.pos.state ≠ .coasting := by
    obtain h | h := h <;> rw [h] <;> simp
  -- what the positioner makes of a declaration
  have follows (h : s.pos.state = .following) :
      positionMiss v = { depart v with pos := coast s.pos.seekCount s.pos } := by
    rw [positionMiss_of_not (s := v) (fun c => nomatch h.symm.trans c.1),
      coastOn_of_tracking (s := v) (by change s.pos.state ≠ _; rw [h]; nofun),
      missCounts_of_following h]
  have sought (h : seeks) (free : s.chan.op = none) : positionMiss v =
      if 400 ≤ s.pos.seekCount + 1 then seekTimesOut { v with pos := coast (s.pos.seekCount + 1) s.pos }
      else { v with pos := coast (s.pos.seekCount + 1) s.pos } := by
    obtain ⟨other, away⟩ := unfollowed h
    rw [positionMiss_of_not (s := v) (fun c => away c.1), coastOn_of_tracking (s := v) away,
      depart_of_none (s := v) free, missCounts_of_seek (by exact other)]
  have coasts (h : s.pos.state = .coasting) (more : s.pos.missing + 1 < 8) : positionMiss v =
      missCounts { v with pos := { s.pos with missing := s.pos.missing + 1 } } := by
    rw [positionMiss_of_not (s := v) (fun c => absurd c.2 (Nat.not_le.mpr more)), coastOn_of_coasting (s := v) h]
  have quietly {p : Positioner} (h : tracks) (quiet : Quiet s) (requester : p.requester = none) (held : p.held = none)
      (k : positionMiss v = { v with pos := p }) :
      exec .missingSampleDeclaration s = .next { m with pos := p } := by
    obtain ⟨slot, load, copy, transfer, reassign, fmt, op, slot0, slot1, outstanding, ready, gate, line, send,
      -, -, rest⟩ := quiet
    have at_rest : Quiet { v with pos := p } := ⟨slot, load, copy, transfer, reassign, fmt, op, slot0, slot1,
      outstanding, ready, gate, line, send, requester, held, rest⟩
    refine declares ?_
    rw [missed h, k, settle_quiet at_rest, rotateNext_quiet at_rest]
  have idle (quiet : Quiet s) : s.chan.op = none ∧ s.pos.requester = none ∧ s.pos.held = none := by
    obtain ⟨-, -, -, -, -, -, op, -, -, -, -, -, -, -, requester, held, -⟩ := quiet
    exact ⟨op, requester, held⟩
  have timed (h : inSeek) : seekExpires s = settle (seekTimesOut s) := by
    unfold seekExpires
    obtain (h | h) | ⟨h, k⟩ := h
    · rw [h]
    · rw [h]
    · rw [h]
      exact if_neg k
  refine ⟨fun no => ⟨declares (if_neg fun h => no ((tracks_iff _).mp h)),
      loses (if_neg fun h => no ((tracks_iff _).mp h))⟩, fun h => loses (lost h), fun h quiet out => loses ?_,
    fun h last => ?_, fun h => declares ?_, fun h free early => declares ?_, fun h free late => declares ?_,
    fun h more other => declares ?_, fun h more other early => declares ?_, fun h more other late => declares ?_,
    fun quiet h => ?_, fun quiet h early => ?_, fun quiet h more other => ?_,
    fun no => expires ?_, fun h => expires ?_, fun h used quiet out => expires ?_⟩
  · have still : Quiet v := quiet
    have at_rest : Quiet (marked (recorded .servoLoss v)) := quiet
    rw [lost h, losesServo_quiet still (flies h) out, settle_quiet at_rest.retracts, rotateNext_quiet at_rest.retracts]
    rfl
  · have h' : tracks := .inr (.inr (.inr h))
    rw [loses (lost h'), declares (missed h'), positionMiss_of_last (s := v) h last]
    rfl
  · rw [missed (.inr (.inr (.inl h))), follows h]
  · rw [missed (seeking h), sought h free, if_neg (Nat.not_le.mpr early)]
  · rw [missed (seeking h), sought h free, if_pos late, seekTimesOut_eq]
  · rw [missed (.inr (.inr (.inr h))), coasts h more, missCounts_of_following (by exact other)]
  · rw [missed (.inr (.inr (.inr h))), coasts h more, missCounts_of_seek (by exact other)]
    rw [if_neg (by exact Nat.not_le.mpr early)]
  · rw [missed (.inr (.inr (.inr h))), coasts h more, missCounts_of_seek (by exact other)]
    rw [if_pos (by exact late), seekTimesOut_eq]
  · obtain ⟨op, requester, held⟩ := idle quiet
    refine quietly (.inr (.inr (.inl h))) quiet requester held ((follows h).trans ?_)
    rw [depart_of_none (s := v) op]
  · obtain ⟨op, requester, held⟩ := idle quiet
    exact quietly (seeking h) quiet requester held ((sought h op).trans (if_neg (Nat.not_le.mpr early)))
  · obtain ⟨op, requester, held⟩ := idle quiet
    exact quietly (.inr (.inr (.inr h))) quiet requester held
      ((coasts h more).trans (missCounts_of_following (by exact other)))
  · unfold seekExpires
    split
    · rename_i h; exact absurd (.inl (.inl h)) no
    · rename_i h; exact absurd (.inl (.inr h)) no
    · rename_i h
      split
      · rfl
      · rename_i k; exact absurd (.inr ⟨h, k⟩) no
    · rfl
  · rw [timed h, seekTimesOut_eq]
  · have away : s.pos.state.home = false := by
      obtain (h | h) | ⟨h, -⟩ := h <;> rw [h] <;> rfl
    have at_rest : Quiet (recorded .seekSeek s) := quiet
    rw [timed h, seekTimesOut_quiet quiet used away out, settle_quiet at_rest.retracts]

end Sys2Proof

namespace Sys2Proof.Machine

/-! ### The parts of a sample -/

theorem seekSample_eq (r v : Int) (s : State) :
    seekSample r v s =
      if 4 ≤ settleNext (seekState r) s.pos.settle r then seekCompletes (seekUpdate r v s)
      else if 400 ≤ s.pos.seekCount + 1 then seekTimesOut (seekUpdate r v s)
      else seekUpdate r v s := rfl

/-- The current of a sample on a track. -/
def steered (r v : Int) (s : State) : State :=
  { s with pos := { s.pos with current := fineCurrent s.set.trims r v } }

theorem followSample_eq (r v : Int) (s : State) :
    followSample r v s =
      if |r| ≤ 48 then { steered r v s with pos := { (steered r v s).pos with offTrack := 0 } }
      else if s.chan.wgate then resettle (raise .offTrack (steered r v s))
      else if 3 ≤ s.pos.offTrack + 1 then resettle (depart (steered r v s))
      else { steered r v s with pos := { (steered r v s).pos with offTrack := s.pos.offTrack + 1 } } := rfl

theorem seekState_le (r : Int) : seekState r = if |r| ≤ 512 then .settling else .seeking := by
  by_cases near : |r| ≤ 512
  · rw [if_pos near, seekState_of_near near]
  · rw [if_neg near, seekState_of_far (not_le.mp near)]

theorem settleNext_eq (r : Int) (n : Nat) :
    settleNext (seekState r) n r = if |r| ≤ 32 then n + 1 else 0 := by
  by_cases near : |r| ≤ 32
  · have settles : seekState r = .settling := seekState_of_near (by omega)
    rw [if_pos near]
    exact if_pos ⟨settles, near⟩
  · rw [if_neg near]
    exact if_neg fun h => near h.2

theorem seekCurrent_eq {ty : CartType} {s : State} (type : s.cart.type = some ty) (r v : Int) :
    seekCurrent (seekState r) r v s
      = if |r| ≤ 512 then fineCurrent s.set.trims r v else coarseCurrent ty s.set.trims r v := by
  by_cases near : |r| ≤ 512
  · rw [if_pos near, seekState_of_near near]
    exact seekCurrent_settling r v s
  · rw [if_neg near, seekState_of_far (not_le.mp near)]
    exact seekCurrent_seeking type r v

theorem seekCompletes_eq (s : State) :
    seekCompletes s =
      let t : State := { s with pos := { s.pos with
        state := .following, requester := none, seekCount := 0, restartUsed := false, offTrack := 0 } }
      if s.pos.requester = none then t else tell .complete t := by
  unfold seekCompletes
  rw [tellRequester_ite]
  split <;> rfl

/-! ### What a sample shows of the heads (R50) -/

/-- The positioner has taken X from the sample, and while the heads fly the clock has counted it. -/
structure Shows (cyl : Nat) (x : Int) (k : Clock) (u : State) : Prop where
  cylinder : u.pos.cylinder = cyl
  position : u.pos.x = x
  last : u.pos.xp = some x
  clock : u.pos.state.flying = true → u.clk = k

@[simp] theorem cutWrite_clk (s : State) : (cutWrite s).clk = s.clk :=
  (congrArg State.clk (cutWrite_setDrive s.spin s.clk s) :)

@[simp] theorem depart_clk (s : State) : (depart s).clk = s.clk :=
  (congrArg State.clk (depart_setDrive s.spin s.clk s) :)

/-- Flying heads that are asked to retract fly no more, and X stands (R64, R65). -/
theorem requestRetract_pos (s : State) :
    (requestRetract s).pos.cylinder = s.pos.cylinder ∧ (requestRetract s).pos.x = s.pos.x
    ∧ (requestRetract s).pos.xp = s.pos.xp ∧ (requestRetract s).pos.state.flying = false := by
  have discarded : (discardHeld s).pos = { s.pos with held := none } := by
    rw [discardHeld, tellHeldEnded_pos]
  have entered (u : State) : (enterRetracting u).pos.cylinder = u.pos.cylinder
      ∧ (enterRetracting u).pos.x = u.pos.x ∧ (enterRetracting u).pos.xp = u.pos.xp
      ∧ (enterRetracting u).pos.state.flying = false := by
    rw [enterRetracting_eq]
    split
    · rw [enterParked_eq]
      exact ⟨rfl, rfl, rfl, rfl⟩
    · exact ⟨rfl, rfl, rfl, rfl⟩
  unfold requestRetract
  split
  · rename_i h; rw [discarded]; exact ⟨rfl, rfl, rfl, by rw [h]; rfl⟩
  · rename_i h; rw [discarded]; exact ⟨rfl, rfl, rfl, by rw [h]; rfl⟩
  · rename_i h; rw [discarded]; exact ⟨rfl, rfl, rfl, by rw [h]; rfl⟩
  · have after := entered (discardHeld s)
    rw [discarded] at after
    exact after

theorem Shows.fly {cyl : Nat} {x : Int} {k : Clock} {u : State} (h : Shows cyl x k u) (clk : u.clk = k)
    {p : Positioner} (cylinder : p.cylinder = u.pos.cylinder) (position : p.x = u.pos.x)
    (last : p.xp = u.pos.xp) : Shows cyl x k { u with pos := p } :=
  ⟨cylinder.trans h.cylinder, position.trans h.position, last.trans h.last, fun _ => clk⟩

section
variable {cyl : Nat} {x : Int} {k : Clock} {u : State} (h : Shows cyl x k u) (clk : u.clk = k)
include h clk

theorem Shows.seekSample (r v : Int) : Shows cyl x k (seekSample r v u) := by
  have updated : Shows cyl x k (seekUpdate r v u) := h.fly clk rfl rfl rfl
  rw [seekSample_eq]
  split
  · rw [seekCompletes_eq]
    dsimp only
    split <;> exact ⟨h.cylinder, h.position, h.last, fun _ => clk⟩
  · split
    · rw [seekTimesOut_eq]
      split
      · exact h.fly clk rfl rfl rfl
      · dsimp only
        have retreats (w : State) (same : w.pos.cylinder = u.pos.cylinder ∧ w.pos.x = u.pos.x ∧ w.pos.xp = u.pos.xp) :
            Shows cyl x k (raise .seekSeek w) := by
          change Shows cyl x k (requestRetract (noteEnd .seekSeek (recorded .seekSeek w)))
          obtain ⟨cylinder, position, last, home⟩ := requestRetract_pos (noteEnd .seekSeek (recorded .seekSeek w))
          rw [noteEnd_pos] at cylinder position last
          obtain ⟨c, p, l⟩ := same
          exact ⟨(cylinder.trans c).trans h.cylinder, (position.trans p).trans h.position,
            (last.trans l).trans h.last, fun flies => by rw [home] at flies; cases flies⟩
        split <;> exact retreats _ ⟨rfl, rfl, rfl⟩
    · exact updated

theorem Shows.followSample (r v : Int) : Shows cyl x k (followSample r v u) := by
  have same (w : State) (pos : w.pos = (steered r v u).pos) (clock : w.clk = u.clk) : Shows cyl x k (resettle w) := by
    refine ⟨?_, ?_, ?_, fun _ => clock.trans clk⟩
    · change w.pos.cylinder = cyl; rw [pos]; exact h.cylinder
    · change w.pos.x = x; rw [pos]; exact h.position
    · change w.pos.xp = some x; rw [pos]; exact h.last
  rw [followSample_eq]
  split
  · exact h.fly clk rfl rfl rfl
  · split
    · refine same _ (raise_offTrack_pos _) ?_
      change (cutWrite (noteEnd .offTrack (recorded .offTrack (steered r v u)))).clk = _
      rw [cutWrite_clk, noteEnd_eq]
      rfl
    · split
      · exact same _ (depart_pos _) (depart_clk _)
      · exact h.fly clk rfl rfl rfl

end

theorem takeSample_shows {cyl : Nat} {s : State} (pe : Int) (flies : s.pos.state.flying = true) :
    Shows cyl (256 * (cyl : Int) + pe) (goodSample s).clk (takeSample cyl pe s) := by
  have seen : Shows cyl (256 * (cyl : Int) + pe) (goodSample s).clk (sighted cyl pe s) := by
    rw [sighted, landTarget_frame]
    exact ⟨rfl, rfl, rfl, fun _ => rfl⟩
  have clk : (sighted cyl pe s).clk = (goodSample s).clk := by
    rw [sighted, landTarget_frame]
  rw [takeSample_eq]
  dsimp only
  split
  · exact seen.fly clk rfl rfl rfl
  · exact seen.seekSample clk _ _
  · exact seen.seekSample clk _ _
  · exact seen.followSample clk _ _
  · have again : Shows cyl (256 * (cyl : Int) + pe) (goodSample s).clk (resumed (sighted cyl pe s)) :=
      seen.fly clk rfl rfl rfl
    split
    · exact again.followSample clk _ _
    · exact again.seekSample clk _ _
  · rename_i loading seeking settling following coasting
    cases st : s.pos.state <;> simp_all [PosState.flying]

end Sys2Proof.Machine

/-! ## Proofs: the end of an item -/

namespace Sys2Proof.Machine

/-! ### What an ended item leaves (R177) -/

theorem finishWith_of_command {s : State} {e : Entry} (item : s.cu.slot.item = .command e) (o : OutcomeCode)
    (fields : List Byte) : finishWith o fields s = ended e o fields s :=
  finishWith_command o fields s e item

theorem finish_of_command {s : State} {e : Entry} (item : s.cu.slot.item = .command e) (o : OutcomeCode) :
    finish o s = ended e o (resultFields e s) s := by
  rw [← finishWith_of_command item, finish, item]

/-- An item that is no queued command ends without a reply. -/
theorem finish_of_internal {s : State} (internal : ∀ e, s.cu.slot.item ≠ .command e) (o : OutcomeCode) :
    finish o s = finished s := by
  unfold finish finishWith
  cases item : s.cu.slot.item with
  | command e => exact absurd item (internal e)
  | free => rfl
  | autoStart => rfl
  | buttonEject => rfl
  | timedWake => rfl
  | softReset tag => rfl

section
variable {s : State} (load : s.record.load = none) (copy : s.record.copyWrite = none)
include load copy

theorem advance_finished : advance (finished s) = none := 
  (advance_item (s := finished s) load copy).trans rfl

theorem advance_ended (e : Entry) (o : OutcomeCode) (fields : List Byte) :
    advance (ended e o fields s) = none := by
  unfold ended
  dsimp only
  split <;> exact .trans (advance_item (by exact load) (by exact copy)) rfl

end

/-! ### The rotation of a part without work -/

/-- The slot is free and no block works, with no answer under way. -/
structure Unworked (s : State) : Prop where
  slot : s.cu.slot = Slot.free
  load : s.record.load = none
  copy : s.record.copyWrite = none
  transfer : s.chan.transfer = none
  reassign : s.chan.reassign = none
  fmt : s.fmt = none
  op : s.chan.op = none
  mail : s.mail = Mail.none

theorem Unworked.settle {s : State} (h : Unworked s) : settle s = s := by
  rw [settle_of_free h.slot h.load h.copy, ← h.mail]

theorem Unworked.sectorStart {s : State} (h : Unworked s) (n : Nat) : sectorStart n s = s := by
  unfold Machine.sectorStart
  rw [h.load, h.copy, h.transfer, h.reassign, h.fmt]
  exact ite_self s

theorem Unworked.turnedTo {s : State} (h : Unworked s) (p : Nat) : Unworked (turnedTo p s) :=
  ⟨h.slot, h.load, h.copy, h.transfer, h.reassign, h.fmt, h.op, h.mail⟩

/-- With no work left a new position is all that the rotation changes (R111). -/
theorem Unworked.rotate {s : State} (h : Unworked s) (p : Nat) (sig : ReadSignal) :
    rotate p sig s = Machine.turnedTo p s := by
  have turned := h.turnedTo p
  rw [rotate_eq]
  split
  · rw [sectorEnds_quiet turned.op, turned.settle, turned.sectorStart, turned.settle]
  · exact turned.settle

theorem Unworked.rotateNext {s : State} (h : Unworked s) (sig : ReadSignal) :
    ∃ p, rotateNext sig s = Machine.turnedTo p s := by
  unfold Machine.rotateNext
  split
  · exact ⟨_, h.rotate _ sig⟩
  · exact ⟨s.chan.rotation, h.settle⟩

/-- A command whose reply finds a place leaves no work (R177). -/
theorem ended_unworked {s : State} (load : s.record.load = none) (copy : s.record.copyWrite = none)
    (op : s.chan.op = none) (place : placesUsed s < 8) (e : Entry) (o : OutcomeCode) (fields : List Byte) :
    Unworked (ended e o fields s) := by
  unfold ended
  dsimp only
  rw [if_pos place]
  exact ⟨rfl, load, copy, rfl, rfl, rfl, op, rfl⟩

end Sys2Proof.Machine

/-! ## Proofs: the ends of a READ, VERIFY or WRITE -/

namespace Sys2Proof.Machine

/-! ### Chains of transitions -/

/-- After n transitions the state is `t`, and nothing is left to work out. -/
def WorksOut (n : Nat) (s t : State) : Prop := advanceMany n s = t ∧ advance t = none

theorem WorksOut.zero {s : State} (h : advance s = none) : WorksOut 0 s s := ⟨rfl, h⟩

theorem WorksOut.step {n : Nat} {s t u : State} (h : advance s = some t) (k : WorksOut n t u) :
    WorksOut (n + 1) s u := ⟨by rw [advanceMany, h]; exact k.1, k.2⟩

theorem advanceMany_add (m n : Nat) (s : State) : advanceMany (m + n) s = advanceMany n (advanceMany m s) := by
  induction m generalizing s with
  | zero => rw [Nat.zero_add]; rfl
  | succ m ih =>
    rw [Nat.succ_add, advanceMany, advanceMany]
    cases h : advance s with
    | some t => exact ih t
    | none =>
      cases n with
      | zero => rfl
      | succ n => rw [advanceMany, h]

theorem WorksOut.settle {n : Nat} {s t : State} (h : WorksOut n s t) (few : n ≤ 64 := by decide) :
    settle s = { t with mail := Mail.none } := by
  have all : advanceMany settleFuel s = t := by
    change advanceMany 64 s = t
    obtain ⟨m, total⟩ := Nat.exists_eq_add_of_le few
    rw [total, advanceMany_add, h.1]
    cases m with
    | zero => rfl
    | succ m => rw [advanceMany, h.2]
  rw [Machine.settle, all]

/-! ### The end of a data command -/

/-- With no offset in use none is returned to 0 (R114). -/
theorem restoreOffset_of_level {s : State} (h : Level s) : restoreOffset s = s := by
  unfold restoreOffset
  split
  · rename_i g target
    exact if_neg fun k => k.1 (h g target)
  · rfl

/-- No offset is in use that the end of a command returns to 0: there is none, or the heads are away (R114). -/
def Unshifted (s : State) : Prop := ∀ g, s.pos.target = some g → g.offset = 0 ∨ headsGone s = true

theorem Unshifted.of_level {s : State} (h : Level s) : Unshifted s := fun g target => .inl (h g target)

theorem restoreOffset_of_unshifted {s : State} (h : Unshifted s) : restoreOffset s = s := by
  unfold restoreOffset
  split
  · rename_i g target
    refine if_neg fun k => ?_
    cases h g target with
    | inl flat => exact k.1 flat
    | inr gone => exact absurd (gone.symm.trans k.2) nofun
  · rfl

/-- The context is that of an ended command, which waits for its frames (R118, R126). -/
def awaitsFrames (t : Transfer) (o : OutcomeCode) (v : State) : State :=
  { v with chan := { v.chan with transfer := some { t with outcome := o, phase := .drain } } }

theorem endBuffers_of_read {t : Transfer} {o : OutcomeCode} (cmd : t.cmd ≠ .write) (time : o ≠ .dataTimeout)
    (s : State) : endBuffers t o s = s := by
  unfold endBuffers
  cases c : t.cmd with
  | write => exact absurd c cmd
  | read => exact if_neg time
  | verify => exact if_neg time

/-- A data command works no more (R114, R126). -/
theorem stopped_eq {t : Transfer} {o : OutcomeCode} (frames : t.cmd = .write ∨ o ≠ .dataTimeout) (s : State) :
    dropRequester (stopGateWait (endBuffers t o s)) = cutShort t s := by
  cases c : t.cmd with
  | write =>
    unfold endBuffers cutShort
    rw [c]
    rcases h0 : s.chan.slot0 with _ | i | ⟨i, d⟩ <;> rcases h1 : s.chan.slot1 with _ | j | ⟨j, x⟩ <;> rfl
  | read =>
    rw [endBuffers_of_read (by rw [c]; nofun) (frames.resolve_left (by rw [c]; nofun))]
    unfold cutShort
    rw [c]
    rfl
  | verify =>
    rw [endBuffers_of_read (by rw [c]; nofun) (frames.resolve_left (by rw [c]; nofun))]
    unfold cutShort
    rw [c]
    rfl

/-- A command without a write-back to make stops its work, and waits for its frames (R114, R126). -/
theorem endTransfer_plain {t : Transfer} {o : OutcomeCode} {save : Bool} {s : State}
    (nothing : (save && t.mark) = false) (level : Unshifted s) (frames : t.cmd = .write ∨ o ≠ .dataTimeout) :
    endTransfer t o save s = awaitsFrames t o { cutShort t s with
      mail := { s.mail with sector := none, told := none, note := none } } := by
  have same : (endBuffers t o s).pos = s.pos := by
    by_cases c : t.cmd = .write
    · unfold endBuffers
      rw [c]
      rfl
    · rw [endBuffers_of_read c (frames.resolve_left c)]
  have still : Unshifted (endBuffers t o s) := by
    unfold Unshifted headsGone
    rw [same]
    exact level
  unfold endTransfer
  rw [restoreOffset_of_unshifted still, nothing, stopped_eq frames]
  rfl

theorem framesSettled_iff (t : Transfer) (s : State) : framesSettled t s = true ↔ framesGone t s := by
  unfold framesSettled framesGone
  cases t.cmd with
  | read =>
    cases h : s.link.send with
    | none => simp
    | some f => cases f <;> simp
  | write => exact List.isEmpty_iff
  | verify => simp

/-- The result fields are those of a WRITE for a WRITE, and of a READ or VERIFY otherwise (R195). -/
def RepliesAs (e : Entry) (t : Transfer) : Prop :=
  if t.cmd = .write then e.code = 0x14#8 else e.code = 0x13#8 ∨ e.code = 0x15#8

theorem RepliesAs.of_code {e : Entry} {t : Transfer} (code : e.code = dataCode t.cmd) : RepliesAs e t := by
  unfold RepliesAs
  cases c : t.cmd <;> rw [code, c] <;> decide

/-- The result fields of a data command (R195). -/
theorem resultFields_data {e : Entry} {t : Transfer} {s : State} (code : RepliesAs e t)
    (work : s.chan.transfer = some t) : resultFields e s = dataFields t := by
  unfold RepliesAs at code
  have reads (other : t.cmd ≠ .write) : readFields s = dataFields t := by
    unfold readFields dataFields
    rw [work]
    cases c : t.cmd with
    | write => exact absurd c other
    | read => rfl
    | verify => rfl
  split at code
  · rename_i write
    rw [resultFields_write s code, writeFields, work]
    simp [dataFields, write]
  · rename_i other
    cases code with
    | inl read => rw [resultFields_read s read, reads other]
    | inr verify => rw [resultFields_verify s verify, reads other]

/-- An ended data command: answered if no frame of its is left, and otherwise waiting (R118, R126). -/
theorem drain_worksOut {e : Entry} {t : Transfer} {s : State} (work : s.chan.transfer = some t)
    (phase : t.phase = .drain) (item : s.cu.slot.item = .command e) (stage : s.cu.slot.work = .data)
    (code : framesGone t s → RepliesAs e t) (load : s.record.load = none) (copy : s.record.copyWrite = none)
    (note : s.mail.note = none) :
    (framesGone t s → WorksOut 1 s (ended e t.outcome (dataFields t) s))
    ∧ (¬ framesGone t s → WorksOut 0 s s) := by
  have next : advance s = if framesSettled t s then some (finish t.outcome s) else none := by
    rw [advance_item load copy, advanceItem_data stage]
    simp only [advanceData, work, phase, note, reduceCtorEq, if_false, if_true, Option.isSome_none,
      Bool.false_eq_true]
  refine ⟨fun gone => ?_, fun some' => ?_⟩
  · rw [if_pos ((framesSettled_iff t s).mpr gone), finish_of_command item, resultFields_data (code gone) work] at next
    exact .step next (.zero (advance_ended load copy e _ _))
  · rw [if_neg fun h => some' ((framesSettled_iff t s).mp h)] at next
    exact .zero next

theorem Outbound.withdraw_withdraw (f : Outbound) : f.withdraw.withdraw = f.withdraw := by
  cases f <;> rfl

/-- What an ended command leaves does not depend on what its end has dropped already. -/
theorem ended_cutShort (e : Entry) (t : Transfer) (o : OutcomeCode) (fields : List Byte) (m : Mail) (s : State) :
    ended e o fields (awaitsFrames t o { cutShort t s with mail := m }) = ended e o fields s := by
  have clear : cleared (awaitsFrames t o { cutShort t s with mail := m }) = cleared s := by
    unfold cutShort
    cases t.cmd with
    | write =>
      simp only [cleared, awaitsFrames, Outbound.withdraw_withdraw, Option.map_map, Function.comp_def]
    | read =>
      simp only [cleared, awaitsFrames, Option.map_map, Function.comp_def]
    | verify =>
      simp only [cleared, awaitsFrames, Option.map_map, Function.comp_def]
  have places : placesUsed (awaitsFrames t o { cutShort t s with mail := m }) = placesUsed s := by
    unfold cutShort
    cases t.cmd <;> rfl
  unfold ended
  rw [clear, places]
  rfl

theorem framesGone_cutShort {t t0 : Transfer} {s : State} (work : s.chan.transfer = some t0) (same : t0.cmd = t.cmd)
    (o : OutcomeCode) (m : Mail) :
    framesGone { t with outcome := o, phase := .drain } (awaitsFrames t o { cutShort t s with mail := m })
      ↔ framesGone t s := by
  unfold framesGone cutShort awaitsFrames
  cases c : t.cmd with
  | read => simp only [readyFrame, work, same, c]
  | write => exact Iff.rfl
  | verify => exact Iff.rfl

/-- The end of a data command with no write-back: the answer, or the wait for its frames (R118, R126). -/
theorem endTransfer_worksOut {e : Entry} {t t0 : Transfer} {o : OutcomeCode} {save : Bool} {s : State}
    (stage : Stage (.command e) .data s) (code : framesGone t s → RepliesAs e t) (work : s.chan.transfer = some t0)
    (same : t0.cmd = t.cmd) (nothing : (save && t.mark) = false) (level : Unshifted s)
    (frames : t.cmd = .write ∨ o ≠ .dataTimeout) (m : Mail) :
    ∃ n, n ≤ 1 ∧ ∃ u, WorksOut n (endTransfer t o save { s with mail := m }) u
      ∧ answersData e t o s (cutShort t s) { u with mail := Mail.none } := by
  obtain ⟨item, data, mail, load, copy⟩ := stage
  rw [endTransfer_plain (s := { s with mail := m }) nothing level frames]
  have frame := framesGone_cutShort work same o { m with sector := none, told := none, note := none }
  have rest := drain_worksOut (e := e) (t := { t with outcome := o, phase := .drain })
    (s := awaitsFrames t o { cutShort t s with mail := { m with sector := none, told := none, note := none } })
    rfl rfl item data (fun gone => code (frame.mp gone)) load copy rfl
  by_cases gone : framesGone t s
  · refine ⟨1, le_rfl, _, rest.1 (frame.mpr gone), fun _ => ?_, fun no => absurd gone no⟩
    rw [ended_cutShort]
    unfold ended
    dsimp only
    split <;> rfl
  · refine ⟨0, Nat.zero_le _, _, rest.2 fun h => gone (frame.mp h), fun yes => absurd yes gone, fun _ => ?_⟩
    unfold awaitsFrames cutShort
    dsimp only
    rw [mail]

/-- A fault's End comes before what else a working data command waits for (R155). -/
theorem advance_noted {s : State} {t : Transfer} {c : FaultClass} (stage : s.cu.slot.work = .data)
    (load : s.record.load = none) (copy : s.record.copyWrite = none) (work : s.chan.transfer = some t)
    (save : t.phase ≠ .save) (drain : t.phase ≠ .drain) (note : s.mail.note = some c) :
    advance s = some (transferFault t c s) := by
  rw [advance_item load copy, advanceItem_data stage]
  simp only [advanceData, work, save, drain, note, if_false]

theorem endOutcome_ne_dataTimeout (c : FaultClass) : endOutcome c ≠ .dataTimeout := by
  cases c <;> decide

/-- A fault ends a data command without a write-back (R124, R129). -/
theorem settle_noted_plain {s : State} {e : Entry} {t : Transfer} {c : FaultClass} {m : Mail}
    (stage : Stage (.command e) .data s) (code : e.code = dataCode t.cmd) (work : s.chan.transfer = some t)
    (save : t.phase ≠ .save) (drain : t.phase ≠ .drain) (note : m.note = some c)
    (deferred : ¬ (c = .speedDeviation ∧ m.sector = some .written))
    (nothing : (!c.isClass13 && t.mark) = false) (level : Level s) :
    answersData e t (endOutcome c) s (cutShort t s) (settle { s with mail := m }) := by
  have next : advance { s with mail := m } = some (endTransfer t (endOutcome c) (!c.isClass13) { s with mail := m }) := by
    obtain ⟨-, data, -, load, copy⟩ := stage
    rw [advance_noted (s := { s with mail := m }) data load copy work save drain note, transferFault]
    rw [if_neg deferred]
  obtain ⟨n, few, u, out, answers⟩ := endTransfer_worksOut stage (fun _ => .of_code code) work rfl nothing
    (.of_level level)
    (.inr (endOutcome_ne_dataTimeout c)) m
  rw [(WorksOut.step next out).settle (by omega)]
  exact answers

end Sys2Proof.Machine

/-! ## Proofs: MARK STROBE -/

namespace Sys2Proof.Machine

/-- The clock once it has counted a sample (R45). -/
def counted (k : Clock) : Clock :=
  { locked := k.locked || decide (31 ≤ k.good), good := min 32 (k.good + 1), miss := some 1200 }

theorem goodSample_eq (s : State) : goodSample s = { s with clk := counted s.clk } := by
  have last : decide (32 ≤ min 32 (s.clk.good + 1)) = decide (31 ≤ s.clk.good) :=
    decide_eq_decide.mpr (by omega)
  unfold goodSample
  dsimp only
  rw [last]
  rfl

/-! ### What the positioner makes of a sample -/

/-- The state of a sample that was aimed at this target, with these fields of the positioner. -/
def aimed (cyl : Nat) (pe : Int) (tgt : Target) (q : Positioner) (s : State) : State :=
  let x : Int := 256 * (cyl : Int) + pe
  { s with
    clk := counted s.clk
    pos := { q with
      x, xp := some x, cylinder := cyl, target := some tgt
      missing := if s.pos.state = .coasting then 0 else s.pos.missing
      resume := if s.pos.landHere then cyl else s.pos.resume, landHere := false } }

/-- The velocity that a sample measures (R50). -/
def velocity (x : Int) (s : State) : Int :=
  if s.pos.state = .coasting then 0 else match s.pos.xp with
    | some xp => x - xp
    | none => 0

theorem measuredVelocity_eq (x : Int) (s : State) : measuredVelocity x s = velocity x s := by
  unfold measuredVelocity velocity
  split
  · rename_i h; rw [if_pos h]
  · rename_i k h; rw [if_neg h, k]
  · rename_i xp k h; rw [if_neg h, k]

section
variable {cyl : Nat} {s : State} {tgt : Target} (target : sampleTarget cyl s = some tgt) (pe : Int)
include target

theorem sighted_aimed (h : s.pos.state ≠ .coasting) : sighted cyl pe s = aimed cyl pe tgt s.pos s := by
  unfold sighted aimed landTarget
  unfold sampleTarget at target
  rw [goodSample_eq, if_neg h]
  dsimp only
  split <;> rename_i here
  · rw [if_pos here] at target
    rw [← target]
  · rw [if_neg here] at target
    rw [target, Bool.eq_false_iff.mpr here]

theorem resumed_aimed (h : s.pos.state = .coasting) :
    resumed (sighted cyl pe s) = aimed cyl pe tgt { s.pos with state := s.pos.remembered } s := by
  unfold resumed sighted aimed landTarget
  unfold sampleTarget at target
  rw [goodSample_eq, if_pos h]
  dsimp only
  split <;> rename_i here
  · rw [if_pos here] at target
    rw [← target]
  · rw [if_neg here] at target
    rw [target, Bool.eq_false_iff.mpr here]

/-- The sample of a seek, also of one that COASTING remembers (R56, R62). -/
theorem takeSample_seeks (h : s.pos.state = .seeking ∨ s.pos.state = .settling
      ∨ s.pos.state = .coasting ∧ s.pos.remembered ≠ .following) :
    ∃ st, takeSample cyl pe s = seekSample (tgt.position - (256 * (cyl : Int) + pe))
      (velocity (256 * (cyl : Int) + pe) s) (aimed cyl pe tgt { s.pos with state := st } s) := by
  obtain h | h | ⟨h, other⟩ := h
  · refine ⟨s.pos.state, (takeSample_of_seeking target pe (.inl h)).trans ?_⟩
    rw [sighted_aimed target pe (by rw [h]; nofun), measuredVelocity_eq]
  · refine ⟨s.pos.state, (takeSample_of_seeking target pe (.inr h)).trans ?_⟩
    rw [sighted_aimed target pe (by rw [h]; nofun), measuredVelocity_eq]
  · refine ⟨s.pos.remembered, (takeSample_of_coasting target pe h).trans ?_⟩
    rw [if_neg other, resumed_aimed target pe h, measuredVelocity_eq]

/-- The sample on a track, also on one that COASTING remembers (R55, R62). -/
theorem takeSample_follows (h : s.pos.state = .following
      ∨ s.pos.state = .coasting ∧ s.pos.remembered = .following) :
    takeSample cyl pe s = followSample (tgt.position - (256 * (cyl : Int) + pe))
      (velocity (256 * (cyl : Int) + pe) s) (aimed cyl pe tgt { s.pos with state := .following } s) := by
  obtain h | ⟨h, k⟩ := h
  · refine (takeSample_of_following target pe h).trans ?_
    rw [sighted_aimed target pe (by rw [h]; nofun), measuredVelocity_eq, ← h]
  · refine (takeSample_of_coasting target pe h).trans ?_
    rw [if_pos k, resumed_aimed target pe h, measuredVelocity_eq, k]

theorem takeSample_loads (h : s.pos.state = .loading) :
    takeSample cyl pe s = loadSample (tgt.position - (256 * (cyl : Int) + pe))
      (velocity (256 * (cyl : Int) + pe) s) (aimed cyl pe tgt s.pos s) := by
  refine (takeSample_of_loading target pe h).trans ?_
  rw [sighted_aimed target pe (by rw [h]; nofun), measuredVelocity_eq]

end

/-! ### The cut of a sector write (R124) -/

theorem releaseHolder_eq (s : State) :
    releaseHolder s = if s.fault.holder = none then s else noteEnd .speedDeviation (released s) := by
  unfold releaseHolder released
  cases s.fault.holder <;> rfl

/-- A fault's End has been issued, so that no further one is (R155). -/
theorem noteEnd_of_noted {s : State} (c : FaultClass) (h : executing s = true → s.mail.note ≠ none) :
    noteEnd c s = s := by
  refine if_neg fun k => ?_
  obtain ⟨works, fresh⟩ := Bool.and_eq_true_iff.mp k
  exact h works (Option.isNone_iff_eq_none.mp fresh)

theorem released_mail (s : State) (m : Mail) : released { s with mail := m } = { released s with mail := m } := by
  unfold released
  dsimp only
  cases s.fault.holder <;> rfl

@[simp] theorem released_slot (s : State) : (released s).cu.slot = s.cu.slot := by
  unfold released
  split <;> rfl

@[simp] theorem markTorn_slot (p : Place) (s : State) : (markTorn p s).cu.slot = s.cu.slot := by
  unfold markTorn
  split <;> rfl

theorem markTorn_mail (p : Place) (m : Mail) (s : State) :
    markTorn p { s with mail := m } = { markTorn p s with mail := m } := by
  unfold markTorn
  split <;> rfl

theorem severed_eq (p : Place) (s : State) : severed p s = released (markTorn p (closeOp s)) := rfl

/-- The cut of the sector write, and the End that the holder may give up (R124, R155). -/
theorem cutWrite_eq {s : State} {b : Place} {d : List Byte} (op : s.chan.op = some (.write b d)) :
    cutWrite s = if s.fault.holder = none then { severed b s with mail := { s.mail with sector := some .cut } }
      else noteEnd .speedDeviation { severed b s with mail := { s.mail with sector := some .cut } } := by
  have mail : (markTorn b (closeOp s)).mail = s.mail := by
    unfold markTorn
    split <;> rfl
  have holder : (markTorn b (closeOp s)).fault.holder = s.fault.holder := by
    unfold markTorn
    split <;> rfl
  have cut : sectorResult .cut (markTorn b (closeOp s))
      = { markTorn b (closeOp s) with mail := { s.mail with sector := some .cut } } := by
    rw [← mail]
    rfl
  unfold cutWrite
  rw [op]
  dsimp only
  rw [cut, releaseHolder_eq, released_mail, severed_eq, ← holder]
  refine if_ctx_congr Iff.rfl (fun empty => ?_) fun _ => rfl
  have kept : released (markTorn b (closeOp s)) = markTorn b (closeOp s) := by
    unfold released
    rw [show (markTorn b (closeOp s)).fault.holder = none from empty]
  rw [kept]

/-- A fault cuts the sector write in work, and its End is issued (R124, R149). -/
theorem cutWrite_recorded {s : State} {b : Place} {d : List Byte} (c : FaultClass) (op : s.chan.op = some (.write b d))
    (mail : s.mail = Mail.none) :
    cutWrite (noteEnd c (recorded c s)) = wroteWith .cut c (severed b (recorded c s)) := by
  have ended : noteEnd c (recorded c s)
      = { recorded c s with mail := { Mail.none with note := if executing s then some c else none } } := by
    have fresh : (recorded c s).mail = Mail.none := mail
    rw [noteEnd_eq, noteAfter, fresh]
    cases working : executing s <;> rw [show executing (recorded c s) = _ from working] <;> rfl
  have torn : severed b (noteEnd c (recorded c s))
      = { severed b (recorded c s) with mail := (noteEnd c (recorded c s)).mail } := by
    rw [ended]
    exact (congrArg released (markTorn_mail b _ (closeOp (recorded c s)))).trans (released_mail _ _)
  have works : executing (severed b (recorded c s)) = executing s := by
    unfold executing
    rw [severed_eq, released_slot, markTorn_slot]
    rfl
  have cut : { severed b (noteEnd c (recorded c s)) with
        mail := { (noteEnd c (recorded c s)).mail with sector := some .cut } }
      = wroteWith .cut c (severed b (recorded c s)) := by
    rw [torn, wroteWith, works, ended]
  rw [cutWrite_eq (by rw [ended]; exact op), cut, noteEnd_of_noted .speedDeviation, ite_self]
  intro working
  have : executing s = true := works.symm.trans working
  rw [wroteWith, works, if_pos this]
  nofun

/-- OFF TRACK cuts the sector write in work (R58, R149). -/
theorem raise_offTrack_writing {s : State} {b : Place} {d : List Byte} (op : s.chan.op = some (.write b d))
    (mail : s.mail = Mail.none) :
    raise .offTrack s = wroteWith .cut .offTrack (severed b (recorded .offTrack s)) := cutWrite_recorded .offTrack op mail

theorem released_frame (s : State) :
    ∃ F A, released s = { s with fault := F, cu := { s.cu with attention := A } } := by
  unfold released
  cases s.fault.holder with
  | none => exact ⟨s.fault, s.cu.attention, rfl⟩
  | some r => exact ⟨_, _, rfl⟩

theorem markTorn_of_none {s : State} (copy : s.record.copyWrite = none) (p : Place) :
    markTorn p s = { s with
      chan := { s.chan with
        transfer := s.chan.transfer.map fun t => { t with torn := some (t.first + t.idx) }
        reassign := s.chan.reassign.map fun r => { r with torn := true } }
      fmt := s.fmt.map fun f => { f with torn := some p } } := if_neg (by rw [copy]; nofun)

/-- What the cut of a sector write that is no record copy changes (R124, R155). -/
theorem severed_frame {s : State} (copy : s.record.copyWrite = none) (p : Place) :
    ∃ F A, severed p s = { s with
      chan := { s.chan with
        op := none, wgate := false, writeCurrent := 0
        transfer := s.chan.transfer.map fun t => { t with torn := some (t.first + t.idx) }
        reassign := s.chan.reassign.map fun r => { r with torn := true } }
      fmt := s.fmt.map fun f => { f with torn := some p }
      fault := F
      cu := { s.cu with attention := A } } := by
  obtain ⟨F, A, h⟩ := released_frame (markTorn p (closeOp s))
  refine ⟨F, A, ?_⟩
  rw [severed_eq, h, markTorn_of_none (by exact copy)]
  rfl

/-- A cut leaves the item at its stage. -/
theorem Stage.severed {i : Item} {w : Work} {s : State} (h : Stage i w s) (p : Place) (q : Positioner) :
    Stage i w { Machine.severed p s with pos := q } := by
  obtain ⟨item, work, mail, load, copy⟩ := h
  obtain ⟨F, A, cut⟩ := severed_frame copy p
  rw [cut]
  exact ⟨item, work, mail, load, copy⟩

theorem executing_of_stage {i : Item} {w : Work} {s : State} (h : Stage i w s) (busy : i ≠ .free)
    (working : ∀ r, w ≠ .replying r) : executing s = true := by
  obtain ⟨item, work, -⟩ := h
  unfold executing
  rw [item, work]
  split
  · exact absurd rfl busy
  · split
    · exact absurd rfl (working _)
    · rfl

/-- A WRITE without its reassignment mark whose sector write is cut by a fault: its answer has the torn block
(R124, R126, R129). -/
theorem settle_torn_write {s : State} {e : Entry} {t : Transfer} {b : Place} {q : Positioner} {c : FaultClass} {m : Mail}
    (stage : Stage (.command e) .data s) (work : s.chan.transfer = some t) (code : e.code = 0x14#8)
    (write : t.cmd = .write) (phase : t.phase = .sector) (mark : t.mark = false) (gone : s.chan.outstanding = [])
    (level : ∀ g, q.target = some g → g.offset = 0) (note : m.note = some c)
    (deferred : ¬ (c = .speedDeviation ∧ m.sector = some .written)) :
    let w : State := { severed b s with pos := q }
    settle { w with mail := m } = ended e (endOutcome c) (dataFields { t with torn := some (t.first + t.idx) }) w := by
  intro w
  obtain ⟨-, -, -, -, copy⟩ := id stage
  have same : w.chan.transfer = some { t with torn := some (t.first + t.idx) } ∧ w.chan.outstanding = [] := by
    obtain ⟨F, A, cut⟩ := severed_frame copy b
    change (severed b s).chan.transfer = _ ∧ (severed b s).chan.outstanding = _
    rw [cut, work]
    exact ⟨rfl, gone⟩
  obtain ⟨torn, outstanding⟩ := same
  have answers := settle_noted_plain (stage.severed b q) (t := { t with torn := some (t.first + t.idx) })
    (by rw [code, write]; rfl) torn (by rw [phase]; nofun) (by rw [phase]; nofun) note deferred
    (by rw [mark, Bool.and_false]) level
  refine answers.1 ?_
  unfold framesGone
  rw [write]
  exact outstanding

theorem markStrobes_invalid {cyl : Nat} {pe : Int} {idx park : Bool} {sig : ReadSignal} {s : State}
    (h : ¬ ∃ ty, s.cart.type = some ty ∧ cyl ≤ ty.lastCylinder) :
    markStrobes cyl pe idx park sig s = { s with pins := { s.pins with park } } := by
  refine if_neg fun valid => h ?_
  unfold validSample at valid
  split at valid
  · rename_i ty type; exact ⟨ty, type, of_decide_eq_true valid⟩
  · cases valid

theorem markStrobes_valid {cyl : Nat} {pe : Int} {idx park : Bool} {sig : ReadSignal} {s : State}
    (h : ∃ ty, s.cart.type = some ty ∧ cyl ≤ ty.lastCylinder) :
    let u := settle (takeSample cyl pe { s with pins := { s.pins with park } })
    markStrobes cyl pe idx park sig s
      = if idx = true ∨ s.pos.state = .parked then u else rotateNext sig u := by
  obtain ⟨ty, type, range⟩ := h
  have valid : validSample cyl { s with pins := { s.pins with park } } = true := by
    unfold validSample
    rw [type]
    exact decide_eq_true range
  exact (if_pos valid).trans (if_congr (by simp) rfl rfl)

/-- On a part with no work in hand the rotation goes on, but at sample 0 (R111). -/
theorem advances_quiet {idx : Bool} {sig : ReadSignal} {s : State} (h : Quiet s) :
    (if idx then settle s else rotateNext sig (settle s)) = { s with chan := { s.chan with
      rotation := if idx then s.chan.rotation else max s.chan.rotation (min 31 (s.chan.rotation + 1)) } } := by
  rw [settle_quiet h]
  cases idx with
  | true => rfl
  | false => exact rotateNext_quiet h

/-- Flying heads and the clock take no part in whether work is in hand. -/
theorem Quiet.samples {s : State} (h : Quiet s) (pins : Pins) (k : Clock) {q : Positioner} (requester : q.requester = none)
    (held : q.held = none) : Quiet { s with pins, clk := k, pos := q } := by
  obtain ⟨slot, load, copy, transfer, reassign, fmt, op, slot0, slot1, outstanding, ready, gate, line, send,
    -, -, rest⟩ := h
  exact ⟨slot, load, copy, transfer, reassign, fmt, op, slot0, slot1, outstanding, ready, gate, line, send,
    requester, held, rest⟩

end Sys2Proof.Machine

namespace Sys2Proof

open Machine

/-- Settles O47: the sample by the state that it finds, then by the distance and the counts. -/
theorem markStrobeActs : Obligations.MarkStrobeActs := by
  refine ⟨?_, ?_⟩
  · intro cyl pe idx park sig s rst p valid x t count
    have strobes {u : State} (k : markStrobes cyl pe idx park sig s = u) :
        exec (.markStrobe cyl pe idx park sig) s = .next u := next_of_released (f := markStrobes cyl pe idx park sig) rst k
    have flying (h : valid) (away : s.pos.state ≠ .parked) : exec (.markStrobe cyl pe idx park sig) s
        = .next (if idx then settle (takeSample cyl pe p) else rotateNext sig (settle (takeSample cyl pe p))) :=
      strobes ((markStrobes_valid h).trans (if_congr (or_iff_left away) rfl rfl))
    refine ⟨fun no => strobes (markStrobes_invalid no), fun yes parked quiet => strobes ?_, flying,
      fun still => if_neg (by rw [still]; nofun), fun flies held => ?_, ?_⟩
    · have still : Quiet p := quiet
      have same : takeSample cyl pe p = p := if_neg (by rw [show p.pos.state = .parked from parked]; nofun)
      rw [markStrobes_valid yes, if_pos (.inr parked)]
      exact (congrArg settle same).trans (settle_quiet still)
    · obtain ⟨cylinder, position, last, clock⟩ := takeSample_shows (cyl := cyl) pe flies
      refine ⟨cylinder, position, last, fun on => (clock on).trans ?_⟩
      rw [goodSample_eq]
      rfl
    · intro tgt xp yes quiet following here target last near
      have aim : sampleTarget cyl p = some tgt := (if_neg (by exact here ▸ nofun)).trans target
      have velocity : velocity x p = x - xp := (if_neg (by rw [show p.pos.state = _ from following]; nofun)).trans (by
        rw [show p.pos.xp = _ from last])
      have missing : (if p.pos.state = .coasting then 0 else p.pos.missing) = s.pos.missing :=
        if_neg (by rw [show p.pos.state = _ from following]; nofun)
      have seen : takeSample cyl pe p = { p with
          clk := count
          pos := { s.pos with x, xp := some x, cylinder := cyl, offTrack := 0
                              current := fineCurrent s.set.trims (tgt.position - x) (x - xp) } } := by
        rw [takeSample_follows (s := p) aim pe (.inl following), followSample_eq, if_pos near]
        unfold steered aimed
        dsimp only
        rw [missing, velocity, if_neg (by exact here ▸ nofun), ← following, ← target, ← here]
        rfl
      have still : Quiet (takeSample cyl pe p) := by
        obtain ⟨-, -, -, -, -, -, -, -, -, -, -, -, -, -, requester, held, -⟩ := id quiet
        rw [seen]
        exact quiet.samples _ _ requester held
      rw [flying yes (by rw [following]; nofun), advances_quiet still, seen]
  · intro cyl pe idx park sig s tgt ty rst type range target x r coasts vm v next quiet informs i n k chosen going
      complete restarted failed seeks follows on again
    have aim : sampleTarget cyl { s with pins := { s.pins with park } } = some tgt := target
    have strobes {u : State} (away : s.pos.state ≠ .parked)
        (k : takeSample cyl pe { s with pins := { s.pins with park } } = u) : next u := by
      refine next_of_released (f := markStrobes cyl pe idx park sig) rst ?_
      rw [markStrobes_valid ⟨ty, type, range⟩, k]
      exact if_congr (or_iff_left away) rfl rfl
    have quietly {u : State} (h : next u) (k : Quiet s → Quiet u) (rotation : u.chan.rotation = s.chan.rotation) :
        quiet u := fun q => by
      rw [h, advances_quiet (k q), rotation]
    have both {q : Positioner} (away : s.pos.state ≠ .parked)
        (k : takeSample cyl pe { s with pins := { s.pins with park } } = v q)
        (requester : Quiet s → q.requester = none) (held : q.held = s.pos.held) : next (v q) ∧ quiet (v q) := by
      have h := strobes away k
      refine ⟨h, quietly h (fun quiet => ?_) rfl⟩
      obtain ⟨-, -, -, -, -, -, -, -, -, -, -, -, -, -, -, none, -⟩ := id quiet
      exact quiet.samples _ _ (requester quiet) (held.trans none)
    have alone (q : Quiet s) : s.pos.requester = none := by
      obtain ⟨-, -, -, -, -, -, -, -, -, -, -, -, -, -, requester, -⟩ := q
      exact requester
    have seeking (h : seeks) : s.pos.state ≠ .parked := by
      obtain h | h | ⟨h, -⟩ := h
      · rw [h]; nofun
      · rw [h]; nofun
      · rw [show s.pos.state = _ from h]; nofun
    have following (h : follows) : s.pos.state ≠ .parked := by
      obtain h | ⟨h, -⟩ := h
      · rw [h]; nofun
      · rw [show s.pos.state = _ from h]; nofun
    -- the samples of a seek
    have updated (st : PosState) : seekUpdate r vm (v { s.pos with state := st }) = v going := by
      unfold seekUpdate
      rw [seekCurrent_eq (ty := ty) (by exact type), settleNext_eq, seekState_le]
    have seek (h : seeks) : takeSample cyl pe { s with pins := { s.pins with park } } =
        if 4 ≤ n then seekCompletes (v going) else if 400 ≤ k then seekTimesOut (v going) else v going := by
      obtain ⟨st, seen⟩ := takeSample_seeks aim pe h
      refine (seen.trans (seekSample_eq _ _ _)).trans ?_
      rw [settleNext_eq]
      change (if 4 ≤ n then seekCompletes (seekUpdate r vm (v { s.pos with state := st }))
        else if 400 ≤ k then seekTimesOut (seekUpdate r vm (v { s.pos with state := st }))
        else seekUpdate r vm (v { s.pos with state := st })) = _
      rw [updated]
    have track (h : follows) : takeSample cyl pe { s with pins := { s.pins with park } } =
        if |r| ≤ 48 then v { on with offTrack := 0 }
        else if s.chan.wgate then resettle (raise .offTrack (v on))
        else if 3 ≤ s.pos.offTrack + 1 then resettle (depart (v on))
        else v { on with offTrack := s.pos.offTrack + 1 } :=
      (takeSample_follows aim pe h).trans (followSample_eq _ _ _)
    refine ⟨fun h => ?_, fun h early calm => ?_, fun h settled => ?_, fun h early late fresh => ?_,
      fun h early late used => ?_, fun h near => ?_, fun h far gate few => ?_, fun h far gate last => ?_,
      fun b d op h far gate mail => ?_, fun b d op t work e h far gate stage code write phase mark gone flat place => ?_⟩
    · refine both (by rw [h]; nofun) ?_ alone rfl
      refine (takeSample_loads aim pe h).trans ?_
      unfold loadSample
      dsimp only
      rw [seekCurrent_eq (ty := ty) (by exact type), seekState_le]
      rfl
    · exact both (seeking h) ((seek h).trans ((if_neg (Nat.not_le.mpr early)).trans (if_neg (Nat.not_le.mpr calm))))
        alone rfl
    · have done : next (informs .complete (v complete)) :=
        strobes (seeking h) ((seek h).trans ((if_pos settled).trans (seekCompletes_eq _)))
      refine ⟨done, fun quiet' => ?_⟩
      have plain : informs .complete (v complete) = v complete := if_pos (alone quiet')
      rw [plain] at done
      have held : s.pos.held = none := by
        obtain ⟨-, -, -, -, -, -, -, -, -, -, -, -, -, -, -, held, -⟩ := quiet'
        exact held
      exact quietly done (fun q => q.samples _ _ rfl held) rfl quiet'
    · refine both (seeking h) ((seek h).trans ((if_neg (Nat.not_le.mpr early)).trans
        ((if_pos late).trans ((seekTimesOut_eq _).trans (if_pos fresh))))) alone rfl
    · have timed : takeSample cyl pe { s with pins := { s.pins with park } } = raise .seekSeek (informs .failed failed) := by
        refine (seek h).trans ((if_neg (Nat.not_le.mpr early)).trans ((if_pos late).trans ((seekTimesOut_eq _).trans
          ((if_neg (by rw [show (v going).pos.restartUsed = _ from used]; nofun)).trans ?_))))
        change raise .seekSeek _ = raise .seekSeek (if s.pos.requester = none then failed else tell .failed failed)
        by_cases none : s.pos.requester = none
        · rw [if_pos none, if_pos (by exact none)]
        · rw [if_neg none, if_neg (by exact none)]
          rfl
      have fails := strobes (seeking h) timed
      refine ⟨fails, fun out quiet' => ?_⟩
      have held : s.pos.held = none := by
        obtain ⟨-, -, -, -, -, -, -, -, -, -, -, -, -, -, -, held, -⟩ := id quiet'
        exact held
      have still : Quiet failed := quiet'.samples _ _ rfl held
      have away : failed.pos.state.home = false := by
        change (if |r| ≤ 512 then PosState.settling else .seeking).home = false
        split <;> rfl
      have plain : raise .seekSeek (informs .failed failed) = retracts (recorded .seekSeek failed) := by
        rw [show informs .failed failed = failed from if_pos (alone quiet')]
        exact seekFails_quiet still away out
      rw [plain] at fails
      have noted : Quiet (recorded .seekSeek failed) := still
      exact quietly fails (fun _ => noted.retracts) rfl quiet'
    · exact both (following h) ((track h).trans (if_pos near)) alone rfl
    · exact both (following h) ((track h).trans ((if_neg (not_le.mpr far)).trans
        ((if_neg (by rw [gate]; nofun)).trans (if_neg (Nat.not_le.mpr few))))) alone rfl
    · have leaves : takeSample cyl pe { s with pins := { s.pins with park } } = resettle (depart (v on)) :=
        (track h).trans ((if_neg (not_le.mpr far)).trans ((if_neg (by rw [gate]; nofun)).trans (if_pos last)))
      have free (op : s.chan.op = none) : resettle (depart (v on)) = v again := by
        rw [depart_of_none (s := v on) op]
        rfl
      refine ⟨fun op => strobes (following h) (leaves.trans (free op)), fun b op => strobes (following h) (leaves.trans ?_),
        fun quiet' => ?_⟩
      · have shut : ({ s.chan with op := none, wgate := false, writeCurrent := 0 } : Channel)
            = { s.chan with op := none, writeCurrent := 0 } := by rw [← gate]
        rw [depart_of_read (s := v on) op]
        exact congrArg (fun c => resettle (sectorResult .interrupted { v on with chan := c })) shut
      · have op : s.chan.op = none := by
          obtain ⟨-, -, -, -, -, -, op, -⟩ := id quiet'
          exact op
        exact (both (following h) (leaves.trans (free op)) alone rfl).2 quiet'
    · have cut : takeSample cyl pe { s with pins := { s.pins with park } }
          = { wroteWith .cut .offTrack (severed b (recorded .offTrack (v on))) with pos := (v again).pos } := by
        refine (track h).trans ((if_neg (not_le.mpr far)).trans ((if_pos gate).trans ?_))
        have same : (raise .offTrack (v on)).pos = (v on).pos := raise_offTrack_pos _
        unfold resettle
        rw [same, raise_offTrack_writing (s := v on) op mail]
      exact strobes (following h) cut
    · obtain ⟨item, data, mail, load, copy⟩ := id stage
      have seen : Stage (.command e) .data (recorded .offTrack (v on)) := ⟨item, data, mail, load, copy⟩
      have works : executing (severed b (recorded .offTrack (v on))) = true :=
        executing_of_stage (seen.severed b (severed b (recorded .offTrack (v on))).pos) nofun nofun
      have cut : takeSample cyl pe { s with pins := { s.pins with park } }
          = { wroteWith .cut .offTrack (severed b (recorded .offTrack (v on))) with pos := (v again).pos } := by
        refine (track h).trans ((if_neg (not_le.mpr far)).trans ((if_pos gate).trans ?_))
        have same : (raise .offTrack (v on)).pos = (v on).pos := raise_offTrack_pos _
        unfold resettle
        rw [same, raise_offTrack_writing (s := v on) op mail]
      have answer := settle_torn_write (b := b) (q := (v again).pos) (c := .offTrack)
        (m := (wroteWith .cut .offTrack (severed b (recorded .offTrack (v on)))).mail) seen work code write phase mark gone
        (fun g target' => by
          have same : tgt = g := Option.some.inj target'
          rw [← same, flat]) (by rw [wroteWith, works]; rfl) nofun
      obtain ⟨F, A, torn⟩ := severed_frame (s := recorded .offTrack (v on)) copy b
      let z : State := ended e .faulted (dataFields { t with torn := some (t.first + t.idx) })
        { severed b (recorded .offTrack (v on)) with pos := (v again).pos }
      have placed : placesUsed { severed b (recorded .offTrack (v on)) with pos := (v again).pos } < 8 := by
        rw [torn]
        exact place
      have unworked : Unworked z := by
        refine ended_unworked ?_ ?_ ?_ placed _ _ _ <;> rw [torn]
        · exact load
        · exact copy
      have fields : dataFields { t with torn := some (t.first + t.idx) } = [byte t.count, byte t.done]
          ++ be32 (t.first + t.idx) ++ [byte t.reassigned, byte t.result.code] := by
        unfold dataFields
        dsimp only
        rw [write, List.append_assoc]
        rfl
      have left : z.cu.slot = Slot.free ∧ z.link.outbox = s.link.outbox ++ [{
            tag := e.tag, code := e.code, outcome := .faulted, queued := true
            fields := [byte t.count, byte t.done] ++ be32 (t.first + t.idx)
              ++ [byte t.reassigned, byte t.result.code] }]
          ∧ z.pos = { (v again).pos with requester := none, held := s.pos.held.map fun h => (h.1, none) } := by
        change (ended e .faulted _ _).cu.slot = _ ∧ (ended e .faulted _ _).link.outbox = _ ∧ (ended e .faulted _ _).pos = _
        unfold ended
        dsimp only
        rw [if_pos placed, fields, torn]
        exact ⟨rfl, rfl, rfl⟩
      have strobed : next { wroteWith .cut .offTrack (severed b (recorded .offTrack (v on))) with pos := (v again).pos } :=
        strobes (following h) cut
      refine ⟨_, strobed, ?_⟩
      rw [show settle { wroteWith .cut .offTrack (severed b (recorded .offTrack (v on))) with pos := (v again).pos } = z
        from answer]
      cases idx with
      | true => exact left
      | false =>
        obtain ⟨p, turned⟩ := unworked.rotateNext sig
        rw [if_neg nofun, turned]
        exact left

end Sys2Proof

/-! ## Proofs: the stages of an item -/

namespace Sys2Proof.Machine

/-! ### The answers under way steer no request to the mechanism -/

/-- What the function makes of a state depends on the answers under way in its own answers only. -/
def Blind (f : State → State) : Prop := ∀ s m, ∃ n, f { s with mail := m } = { f s with mail := n }

theorem Blind.comp {f g : State → State} (hg : Blind g) (hf : Blind f) : Blind fun s => g (f s) := by
  intro s m
  obtain ⟨n, h⟩ := hf s m
  obtain ⟨k, l⟩ := hg (f s) n
  exact ⟨k, (congrArg g h).trans l⟩

theorem tellRequester_blind (o : TargetOutcome) : Blind (tellRequester o) := by
  intro s m
  unfold tellRequester
  cases s.pos.requester <;> exact ⟨_, rfl⟩

theorem tellHeldEnded_blind : Blind tellHeldEnded := by
  intro s m
  rw [tellHeldEnded_eq, tellHeldEnded_eq]
  dsimp only
  split <;> exact ⟨_, rfl⟩

theorem noteEnd_blind (c : FaultClass) : Blind (noteEnd c) := by
  intro s m
  rw [noteEnd_eq, noteEnd_eq]
  exact ⟨_, rfl⟩

theorem releaseHolder_blind : Blind releaseHolder := by
  intro s m
  rw [releaseHolder_eq, releaseHolder_eq, released_mail]
  dsimp only
  split
  · exact ⟨_, rfl⟩
  · exact noteEnd_blind _ _ _

theorem cutWrite_blind : Blind cutWrite := by
  intro s m
  unfold cutWrite
  dsimp only
  split
  · rename_i p d _
    obtain ⟨n, cut⟩ := releaseHolder_blind (sectorResult .cut (markTorn p (closeOp s))) { m with sector := some .cut }
    refine ⟨n, ?_⟩
    rw [← cut]
    exact congrArg (fun u => releaseHolder (sectorResult .cut u)) (markTorn_mail p m (closeOp s))
  · exact ⟨m, rfl⟩

theorem depart_blind : Blind depart := by
  intro s m
  unfold depart
  dsimp only
  split
  · exact ⟨_, rfl⟩
  · exact cutWrite_blind s m
  · exact ⟨m, rfl⟩

theorem enterParked_blind : Blind enterParked := by
  intro s m
  rw [enterParked_eq, enterParked_eq]
  exact ⟨m, rfl⟩

theorem beganRetract_blind : Blind beganRetract := by
  intro s m
  obtain ⟨n, h⟩ := (tellRequester_blind .ended).comp depart_blind s m
  exact ⟨n, congrArg (fun u => ({ u with pos := s.pos.retracting, clk := Clock.reference } : State)) h⟩

theorem enterRetracting_blind : Blind enterRetracting := by
  intro s m
  obtain ⟨n, h⟩ := depart_blind s m
  have same : (depart { s with mail := m }).pins.park = (depart s).pins.park := by rw [h]
  rw [enterRetracting_eq, enterRetracting_eq, same]
  split
  · exact enterParked_blind.comp beganRetract_blind s m
  · exact beganRetract_blind s m

theorem discardHeld_blind : Blind discardHeld := by
  intro s m
  obtain ⟨n, h⟩ := tellHeldEnded_blind s m
  exact ⟨n, congrArg (fun u => ({ u with pos := { u.pos with held := none } } : State)) h⟩

theorem requestRetract_blind : Blind requestRetract := by
  intro s m
  unfold requestRetract
  dsimp only
  split
  · exact discardHeld_blind s m
  · exact discardHeld_blind s m
  · exact discardHeld_blind s m
  · exact enterRetracting_blind.comp discardHeld_blind s m

theorem stopRequest_blind : Blind stopRequest := by
  intro s m
  unfold stopRequest
  dsimp only
  split
  · exact ⟨m, rfl⟩
  · exact ⟨m, rfl⟩
  · exact ⟨m, rfl⟩
  · split
    · exact ⟨m, rfl⟩
    · exact ⟨m, rfl⟩
    · exact ⟨m, rfl⟩
    · exact requestRetract_blind
        { s with spin := Spindle.enterCoasting { s.spin with pendingStart := false, spinUp := none } } m

/-! ### The end of a stage -/

@[simp] theorem itemEnded_mail (i : Item) (o : OutcomeCode) (fields : List Byte) (m : Mail) (s : State) :
    itemEnded i o fields { s with mail := m } = itemEnded i o fields s := by
  cases i <;> rfl

/-- A stage that ends its item: the answer of a command, and of an internal operation none (R177). -/
theorem settle_of_finish {i : Item} {o : OutcomeCode} {fields : List Byte} {s t : State}
    (ends : advance s = some (finish o t)) (item : t.cu.slot.item = i) (load : t.record.load = none)
    (copy : t.record.copyWrite = none) (same : ∀ e, i = .command e → resultFields e t = fields) :
    settle s = itemEnded i o fields t := by
  have left : finish o t = itemEnded i o fields t := by
    subst i
    unfold itemEnded
    split
    · rename_i e item
      rw [finish_of_command item, same e item]
    · rename_i internal
      exact finish_of_internal internal o
  have done : advance (itemEnded i o fields t) = none := by
    unfold itemEnded
    split
    · exact advance_ended load copy _ _ _
    · exact advance_finished load copy
  have clean : { itemEnded i o fields t with mail := Mail.none } = itemEnded i o fields t := by
    unfold itemEnded
    split
    · unfold ended
      dsimp only
      split <;> rfl
    · rfl
  rw [left] at ends
  rw [settle_of_one ends done, clean]

/-- With the item at its stage, the answer that has come is the item's to take (R146). -/
theorem Stage.advance_eq {i : Item} {w : Work} {s : State} (h : Stage i w s) (m : Mail) :
    advance { s with mail := m } = advanceItem { s with mail := m } := by
  obtain ⟨-, -, -, load, copy⟩ := h
  exact advance_item load copy

/-- A stage that has nothing to take leaves the state as it is. -/
theorem Stage.settle_of_none {i : Item} {w : Work} {s : State} (h : Stage i w s) (waits : advanceItem s = none) :
    settle s = s := by
  obtain ⟨-, -, mail, load, copy⟩ := h
  exact settle_still mail load copy waits

theorem losesHeads_of {c : FaultClass} (h : c ∈ classes13 ∨ c ∈ seekFailures) : c.losesHeads = true := by
  revert h
  cases c <;> decide

theorem isClass13_of {c : FaultClass} (h : c ∈ classes13) : c.isClass13 = true := by
  revert h
  cases c <;> decide

theorem endOutcome_of_class13 {c : FaultClass} (h : c ∈ classes13) : endOutcome c = .faulted := by
  revert h
  cases c <;> decide

theorem endOutcome_of_seekFailed {c : FaultClass} (h : c ∈ seekFailures) : endOutcome c = .seekFailed := by
  revert h
  cases c <;> decide

end Sys2Proof.Machine

/-! ## Proofs: the stages of SPIN UP, AUTO START, a reload, SEEK and TIMED WAKE -/

namespace Sys2Proof.Machine

section
variable {i : Item} {w : Work} {s : State} (stage : Stage i w s)
include stage

theorem Stage.told : s.mail.told = none := by
  obtain ⟨-, -, mail, -⟩ := stage
  rw [mail]
  rfl

theorem Stage.note : s.mail.note = none := by
  obtain ⟨-, -, mail, -⟩ := stage
  rw [mail]
  rfl

theorem Stage.saved : s.mail.saved = none := by
  obtain ⟨-, -, mail, -⟩ := stage
  rw [mail]
  rfl

theorem Stage.sector : s.mail.sector = none := by
  obtain ⟨-, -, mail, -⟩ := stage
  rw [mail]
  rfl

/-- A stage that ends its item with the state as it stands. -/
theorem Stage.settle_finish {o : OutcomeCode} {fields : List Byte} {m : Mail}
    (ends : advanceItem { s with mail := m } = some (finish o { s with mail := m }))
    (same : ∀ e, i = .command e → resultFields e s = fields) :
    settle { s with mail := m } = itemEnded i o fields s := by
  obtain ⟨item, -, -, load, copy⟩ := id stage
  rw [settle_of_finish (i := i) (o := o) (fields := fields) (t := { s with mail := m })
    ((stage.advance_eq m).trans ends) item load copy same, itemEnded_mail]

/-- A start that ends before a choice (R5). -/
theorem Stage.settle_endStart {o : OutcomeCode} {m : Mail} (code : ∀ e, i = .command e → e.code = 0x10#8)
    (ends : advanceItem { s with mail := m } = some (endStart o { s with mail := m })) :
    settle { s with mail := m }
      = itemEnded i o [1#8] (stopRequest { s with cart := { s.cart with state := .present } }) := by
  obtain ⟨item, -, -, load, copy⟩ := id stage
  let v : State := { s with cart := { s.cart with state := .present } }
  have cart : setCart .present { s with mail := m } = { v with mail := m } := rfl
  obtain ⟨n, stops⟩ := stopRequest_blind v m
  have next : advance { s with mail := m } = some (finish o { stopRequest v with mail := n }) := by
    rw [stage.advance_eq m, ends, endStart, cart, stops]
  rw [settle_of_finish (i := i) (fields := [1#8]) next, itemEnded_mail]
  · exact (congrArg Slot.item (stopRequest_slot v)).trans item
  · exact (congrArg Record.load (stopRequest_record v)).trans load
  · exact (congrArg Record.copyWrite (stopRequest_record v)).trans copy
  · intro e command
    have present : ({ stopRequest v with mail := n } : State).cart.state = .present :=
      congrArg Cartridge.state (stopRequest_cart v)
    rw [resultFields_spinUp _ (code e command), present]
    rfl

/-- TIMED WAKE ends, with attention WAKE (R165). -/
theorem Stage.settle_endWake {m : Mail} (wakes : i = .timedWake) {u : State} {n : Mail}
    (ends : advanceItem { s with mail := m } = some (endWake { u with mail := n }))
    (slot : u.cu.slot = s.cu.slot) (record : u.record = s.record) :
    settle { s with mail := m }
      = finished { u with cu := { u.cu with attention := u.cu.attention ||| 0x0040#16 } } := by
  obtain ⟨item, -, -, load, copy⟩ := id stage
  refine (settle_of_finish (i := .timedWake) (fields := []) ((stage.advance_eq m).trans ends) ?_ ?_ ?_ nofun).trans ?_
  · exact (congrArg Slot.item slot).trans (item.trans wakes)
  · exact (congrArg Record.load record).trans load
  · exact (congrArg Record.copyWrite record).trans copy
  · rfl

/-- A stage that hands its item on, to one that has nothing to take yet. -/
theorem Stage.settle_passes {m : Mail} {t : State} (next : advanceItem { s with mail := m } = some t)
    (waits : advance t = none) (mail : t.mail = Mail.none) : settle { s with mail := m } = t := by
  rw [settle_of_one ((stage.advance_eq m).trans next) waits, ← mail]

end

theorem requestTarget_loads {t : Target} {q : Option Requester} {s : State} (told : s.mail.told = none)
    (parked : s.pos.state = .parked) (may : Loadable s) : requestTarget t q s = loads t q s := by
  rw [requestTarget_parked told parked, requestParked_of_loadable may]

/-- A load that begins on cylinder 0 waits for its first sector (R79). -/
theorem beginLoad_there {s : State} (there : onTarget 0 0 s = true) :
    beginLoad s = { s with record := { s.record with
      image := []
      load := some { copy := 0, sector := 0, attempt := 1, offset := 0, firstPass := false, limit := s.set.active.retry
                     waiting := false, report0 := CopyReport.notRead, copy0 := none } } } := by
  unfold beginLoad
  dsimp only
  rw [there]
  rfl

theorem onTarget_following {cyl : Nat} {offset : Int} {s : State} (h : onTarget cyl offset s = true) :
    s.pos.state = .following ∧ s.pos.target = some { cyl, offset } := by
  obtain ⟨state, target⟩ := Bool.and_eq_true_iff.mp h
  exact ⟨beq_iff_eq.mp state, beq_iff_eq.mp target⟩

/-- A load that waits for its sector has nothing to take (R87). -/
theorem advance_of_load {s : State} {l : Load} (load : s.record.load = some l) (copy : s.record.copyWrite = none)
    (mail : s.mail = Mail.none) (free : s.cu.slot.abortPending = false) (still : l.waiting = false)
    (away : headsGone s = false) (item : advanceItem s = none) : advance s = none := by
  have note : s.mail.note = none := by rw [mail]; rfl
  have sector : s.mail.sector = none := by rw [mail]; rfl
  have copies : advanceCopies s = none := by simp only [advanceCopies, copy]
  have loads : advanceLoad s = none := by
    simp only [advanceLoad, load, note, free, still, away, sector, Bool.false_and, Bool.false_eq_true, if_false]
  simp only [advance, copies, loads, item]

theorem dropTold_tell {s : State} (told : s.mail.told = none) (o : TargetOutcome) : dropTold (tell o s) = s := by
  unfold dropTold tell
  dsimp only
  rw [← told]

section
variable {i : Item} {w next : Work} {s : State} (stage : Stage i w s)
include stage

/-- A stage that asks for its target with the heads on the ramp waits for it (R52, R71, R84). -/
theorem Stage.settle_loads {t : Target} {q : Option Requester}
    (asks : advanceItem s = some (setWork next (requestTarget t q s)))
    (waits : advanceItem (setWork next (loads t q s)) = none)
    (parked : s.pos.state = .parked) (may : Loadable s) : settle s = setWork next (loads t q s) := by
  obtain ⟨-, -, mail, load, copy⟩ := id stage
  rw [requestTarget_loads stage.told parked may] at asks
  exact stage.settle_passes (m := s.mail) asks
    ((advance_item (s := setWork next (loads t q s)) load copy).trans waits) mail

/-- A stage whose heads have come to cylinder 0 begins the record load (R84, R86). -/
theorem Stage.settle_beginLoad (free : s.cu.slot.abortPending = false) (there : onTarget 0 0 s = true)
    (begins : advanceItem (tell .complete s) = some (setWork next (beginLoad (dropTold (tell .complete s)))))
    (waits : ∀ u : State, u.cu.slot.work = next → u.mail.load = none → advanceItem u = none) :
    settle (tell .complete s) = setWork next { s with record := { s.record with
      image := []
      load := some { copy := 0, sector := 0, attempt := 1, offset := 0, firstPass := false, limit := s.set.active.retry
                     waiting := false, report0 := CopyReport.notRead, copy0 := none } } } := by
  obtain ⟨-, -, mail, load, copy⟩ := id stage
  obtain ⟨following, -⟩ := onTarget_following there
  rw [dropTold_tell stage.told, beginLoad_there there] at begins
  refine stage.settle_passes (m := { s.mail with told := some .complete }) begins ?_ mail
  have away : headsGone s = false := by
    unfold headsGone
    rw [following]
    rfl
  refine advance_of_load rfl copy mail free rfl away (waits _ rfl ?_)
  change s.mail.load = none
  rw [mail]
  rfl

end

end Sys2Proof.Machine

namespace Sys2Proof

open Machine

/-- Settles O55: each stage by the answer that it takes. -/
theorem startSeekAndWakeStages : Obligations.StartSeekAndWakeStages := by
  refine ⟨fun i s code => ?_, fun e s code => ?_, fun s => ?_, fun s told => ?_⟩
  · intro free lost start stays reads toHeads
    have spinUp (e : Entry) (h : i = .command e) : resultFields e s = [byte s.cart.state.code] :=
      resultFields_spinUp s (code e h)
    refine ⟨fun stage => ?_, fun stage => ?_, fun stage => ?_, fun stage => ?_, fun stage => ?_, fun stage => ?_⟩
    · obtain ⟨-, work, -⟩ := id stage
      refine ⟨fun calm slow => stage.settle_of_none ?_, fun calm parked may => stage.settle_loads ?_ ?_ parked may,
        fun c h => stage.settle_endStart code (m := { s.mail with note := some c }) ?_,
        fun h => stage.settle_endStart code (m := s.mail) ?_⟩
      · simp only [advanceItem, work, advanceStart, stage.note, free, calm, slow, Bool.false_eq_true, if_false]
      · simp only [advanceItem, work, advanceStart, stage.note, free, calm, may.1, Bool.false_eq_true, if_false, if_true]
      · simp only [advanceItem, advanceStart, setWork, loads, stage.note, stage.told, calm, free, Bool.false_eq_true, if_false]
      · simp only [advanceItem, work, advanceStart, losesHeads_of h, if_true]
      · simp only [advanceItem, work, advanceStart, stage.note, Bool.eq_true_of_not_eq_false h, if_true]
    · obtain ⟨-, work, -⟩ := id stage
      refine ⟨fun calm => stage.settle_of_none ?_, fun calm there => stage.settle_beginLoad calm there ?_ fun u w m => ?_,
        fun o calm other => stage.settle_endStart code (m := { s.mail with told := some o }) ?_,
        fun c h => stage.settle_endStart code (m := { s.mail with note := some c }) ?_,
        fun h => stage.settle_endStart code (m := s.mail) ?_⟩
      · simp only [advanceItem, work, advanceStart, stage.note, stage.told, free, calm, Bool.false_eq_true, if_false]
      · simp only [advanceItem, work, advanceStart, Machine.tell, stage.note, free, calm, Bool.false_eq_true, if_false]
      · simp only [advanceItem, w, advanceStart, m]
      · cases o with
        | complete => exact absurd rfl other
        | _ => simp only [advanceItem, work, advanceStart, stage.note, free, calm, Bool.false_eq_true, if_false]
      · simp only [advanceItem, work, advanceStart, losesHeads_of h, if_true]
      · simp only [advanceItem, work, advanceStart, stage.note, Bool.eq_true_of_not_eq_false h, if_true]
    · obtain ⟨-, work, -⟩ := id stage
      refine ⟨fun calm slow => stage.settle_of_none ?_, fun calm turning => stage.settle_finish (m := s.mail) ?_ spinUp,
        fun c h => stage.settle_finish (m := { s.mail with note := some c }) ?_ spinUp,
        fun h => stage.settle_finish (m := s.mail) ?_ spinUp⟩
      · simp only [advanceItem, work, advanceReload, stage.note, free, calm, slow, Bool.false_eq_true, if_false]
      · simp only [advanceItem, work, advanceReload, stage.note, free, calm, turning, Bool.false_eq_true, if_false, if_true]
      · simp only [advanceItem, work, advanceReload, isClass13_of h, if_true]
      · simp only [advanceItem, work, advanceReload, stage.note, Bool.eq_true_of_not_eq_false h, if_true]
    · obtain ⟨-, work, mail, load, copy⟩ := id stage
      refine ⟨stage.settle_of_none ?_, stage.settle_finish (m := { s.mail with saved := some .neither }) ?_ spinUp,
        fun r other h => stage.settle_finish (m := { s.mail with saved := some r }) ?_ spinUp,
        fun r other calm slow => ?_,
        fun c r => stage.settle_finish (m := { s.mail with saved := some r, note := some c }) ?_ spinUp⟩
      · simp only [advanceItem, work, advanceReload, stage.saved]
      · simp only [advanceItem, work, advanceReload, stage.note, Option.isSome_none, Bool.false_eq_true, if_false, if_true]
      · simp only [advanceItem, work, advanceReload, stage.note, Option.isSome_none, Bool.false_eq_true, if_false, other,
          Bool.eq_true_of_not_eq_false h, if_true]
      · refine stage.settle_passes (m := { s.mail with saved := some r }) ?_ ?_ ?_
        · simp only [advanceItem, work, advanceReload, stage.note, Option.isSome_none, Bool.false_eq_true, if_false, other,
            show s.cu.slot.abortPending = false from calm, reloadSpindle, slow]
          have taken : ({ s.mail with note := none, saved := none } : Mail) = s.mail := by rw [mail]; rfl
          exact congrArg (fun x => some (setWork .reloadSpin (startRequest { s with mail := x }))) taken
        · have slow' : (setWork .reloadSpin (startRequest s)).spin.state ≠ .atSpeed := startRequest_spin_state slow
          have quiet : (setWork .reloadSpin (startRequest s)).mail = Mail.none := by
            rw [startRequest_eq]
            exact mail
          have calm' : Calm (setWork .reloadSpin (startRequest s)) := by
            refine ⟨by rw [quiet]; rfl, ?_⟩
            exact (congrArg Slot.abortPending (startRequest_slot s)).trans calm
          refine (advance_item ?_ ?_).trans ((advanceItem_reloadSpin calm' rfl).trans (if_neg slow'))
          · exact (congrArg Record.load (startRequest_record s)).trans load
          · exact (congrArg Record.copyWrite (startRequest_record s)).trans copy
        · rw [startRequest_eq]
          exact mail
      · simp only [advanceItem, work, advanceReload, Option.isSome_some, if_true]
    · obtain ⟨-, work, -⟩ := id stage
      refine ⟨fun calm slow => stage.settle_of_none ?_, fun calm parked may => stage.settle_loads ?_ ?_ parked may,
        fun c h => stage.settle_finish (m := { s.mail with note := some c }) ?_ spinUp,
        fun h => stage.settle_finish (m := s.mail) ?_ spinUp⟩
      · simp only [advanceItem, work, advanceReload, stage.note, free, calm, slow, Bool.false_eq_true, if_false]
      · simp only [advanceItem, work, advanceReload, stage.note, free, calm, may.1, Bool.false_eq_true, if_false, if_true]
      · simp only [advanceItem, advanceReload, setWork, loads, stage.note, stage.told, calm, free, Bool.false_eq_true, if_false]
      · simp only [advanceItem, work, advanceReload, losesHeads_of h, if_true]
      · simp only [advanceItem, work, advanceReload, stage.note, Bool.eq_true_of_not_eq_false h, if_true]
    · obtain ⟨-, work, -⟩ := id stage
      refine ⟨fun calm => stage.settle_of_none ?_, fun calm there => stage.settle_beginLoad calm there ?_ fun u w m => ?_,
        fun o calm other => stage.settle_finish (m := { s.mail with told := some o }) ?_ spinUp,
        fun c h => stage.settle_finish (m := { s.mail with note := some c }) ?_ spinUp,
        fun h => stage.settle_finish (m := s.mail) ?_ spinUp⟩
      · simp only [advanceItem, work, advanceReload, stage.note, stage.told, free, calm, Bool.false_eq_true, if_false]
      · simp only [advanceItem, work, advanceReload, Machine.tell, stage.note, free, calm, Bool.false_eq_true, if_false]
      · simp only [advanceItem, w, advanceReload, m]
      · cases o with
        | complete => exact absurd rfl other
        | _ => simp only [advanceItem, work, advanceReload, stage.note, free, calm, Bool.false_eq_true, if_false]
      · simp only [advanceItem, work, advanceReload, losesHeads_of h, if_true]
      · simp only [advanceItem, work, advanceReload, stage.note, Bool.eq_true_of_not_eq_false h, if_true]
  · intro cyl free f
    have seek (c : Entry) (h : Item.command e = .command c) : resultFields c s = f := by
      cases h
      exact resultFields_seek s code
    refine ⟨fun stage => ?_, fun stage => ?_⟩
    · obtain ⟨item, work, -⟩ := id stage
      refine ⟨fun calm slow => stage.settle_of_none ?_, fun calm parked may => stage.settle_loads ?_ ?_ parked may,
        fun c h => stage.settle_finish (m := { s.mail with note := some c }) ?_ seek,
        fun h => stage.settle_finish (m := s.mail) ?_ seek⟩
      · simp only [advanceItem, work, advanceSeek, stage.note, free, calm, slow, Bool.false_eq_true, if_false]
      · simp only [advanceItem, work, advanceSeek, stage.note, free, calm, may.1, Bool.false_eq_true, if_false, if_true,
          slotParams, item]
        rfl
      · simp only [advanceItem, advanceSeek, setWork, loads, stage.note, stage.told, calm, free, Bool.false_eq_true, if_false]
      · simp only [advanceItem, work, advanceSeek, losesHeads_of (.inl h), endOutcome_of_class13 h, if_true]
      · simp only [advanceItem, work, advanceSeek, stage.note, Bool.eq_true_of_not_eq_false h, if_true]
    · obtain ⟨item, work, -⟩ := id stage
      have answers (o : TargetOutcome) : settle (tell o s) = ended e (seekOutcome o) f s := by
        refine stage.settle_finish (m := { s.mail with told := some o }) ?_ seek
        simp only [advanceItem, work, advanceSeek, stage.note]
      refine ⟨fun calm => stage.settle_of_none ?_, answers _, answers _, answers _, answers _, answers _, answers _,
        fun c h => stage.settle_finish (m := { s.mail with note := some c }) ?_ seek,
        fun c h => stage.settle_finish (m := { s.mail with note := some c }) ?_ seek⟩
      · simp only [advanceItem, work, advanceSeek, stage.note, stage.told, free, calm, Bool.false_eq_true, if_false]
      · simp only [advanceItem, work, advanceSeek, losesHeads_of (.inl h), endOutcome_of_class13 h, if_true]
      · simp only [advanceItem, work, advanceSeek, losesHeads_of (.inr h), endOutcome_of_seekFailed h, if_true]
  · intro free lost woken
    refine ⟨fun stage => ?_, fun stage => ?_⟩
    · obtain ⟨item, work, -⟩ := id stage
      refine ⟨fun calm slow => stage.settle_of_none ?_, fun calm turning idle => ?_,
        fun calm parked may active => stage.settle_loads ?_ ?_ parked may,
        fun c h => stage.settle_endWake (m := { s.mail with note := some c }) (u := s) (n := { s.mail with note := some c }) rfl ?_ rfl rfl,
        fun h => stage.settle_endWake (m := s.mail) (u := s) (n := s.mail) rfl ?_ rfl rfl⟩
      · simp only [advanceItem, work, advanceWake, stage.note, free, calm, slow, Bool.false_eq_true, if_false]
      · refine stage.settle_endWake (m := s.mail) (u := s) (n := s.mail) rfl ?_ rfl rfl
        simp only [advanceItem, work, advanceWake, stage.note, free, calm, turning, idle, Bool.false_eq_true, if_false, if_true]
      · simp only [advanceItem, work, advanceWake, stage.note, free, calm, may.1, active, Bool.false_eq_true, if_false, if_true]
      · simp only [advanceItem, advanceWake, setWork, loads, stage.note, stage.told, calm, free, Bool.false_eq_true, if_false]
      · simp only [advanceItem, work, advanceWake, isClass13_of h, if_true]
      · simp only [advanceItem, work, advanceWake, stage.note, Bool.eq_true_of_not_eq_false h, if_true]
    · obtain ⟨item, work, -⟩ := id stage
      refine ⟨fun calm => stage.settle_of_none ?_,
        fun o => stage.settle_endWake (m := { s.mail with told := some o }) (u := s) (n := { s.mail with told := some o }) rfl ?_ rfl rfl,
        fun c h => stage.settle_endWake (m := { s.mail with note := some c }) (u := s) (n := { s.mail with note := some c }) rfl ?_ rfl rfl⟩
      · simp only [advanceItem, work, advanceWake, stage.note, stage.told, free, calm, Bool.false_eq_true, if_false]
      · simp only [advanceItem, work, advanceWake, stage.note]
      · simp only [advanceItem, work, advanceWake, losesHeads_of h, if_true]
  · intro cyl st p aborts
    have ends {q : Positioner} (stops : s.mail.told = none → ∃ n, settleWhereItIs s = { s with pos := q, mail := n })
        (there : q.cylinder = cyl) : aborts q := by
      refine ⟨fun e code stage => ?_, fun stage => ?_⟩
      · obtain ⟨item, work, mail, load, copy⟩ := id stage
        obtain ⟨n, stop⟩ := stops stage.told
        have next : advance s = some (finish .aborted { { s with pos := q } with mail := n }) := by
          rw [stage.advance_eq s.mail, ← stop]
          simp only [advanceItem, work, advanceSeek, stage.note, stage.told, told, if_true]
        refine (settle_of_finish (i := .command e) next item load copy fun c h => ?_).trans (itemEnded_mail _ _ _ _ _)
        cases h
        rw [resultFields_seek _ code, ← there]
      · obtain ⟨item, work, mail, load, copy⟩ := id stage
        obtain ⟨n, stop⟩ := stops stage.told
        refine stage.settle_endWake (m := s.mail) (u := { s with pos := q }) (n := n) rfl ?_ rfl rfl
        rw [← stop]
        simp only [advanceItem, work, advanceWake, stage.note, stage.told, told, if_true]
    have state : (if |256 * (cyl : Int) + 0 - s.pos.x| ≤ 512 then PosState.settling else .seeking) = st := by
      rw [Int.add_zero]
      change _ = if 512 < |256 * (cyl : Int) - s.pos.x| then PosState.seeking else .settling
      by_cases near : |256 * (cyl : Int) - s.pos.x| ≤ 512
      · rw [if_pos near, if_neg (not_lt.mpr near)]
      · rw [if_neg near, if_pos (not_le.mp near)]
    refine ⟨fun h => ends (fun _ => ⟨s.mail, ?_⟩) rfl, fun h => ends (fun none => ⟨s.mail, ?_⟩) rfl,
      fun h => ends (fun _ => ⟨s.mail, ?_⟩) rfl, fun h => ends (fun _ => ⟨s.mail, ?_⟩) rfl⟩
    · have seeks : settleWhereItIs s = newSeek { cyl := s.pos.cylinder, offset := 0 } Option.none s := by
        obtain h | h := h <;> simp only [settleWhereItIs, h]
      rw [seeks, newSeek_eq, state]
      rfl
    · have coasts : settleWhereItIs s = requestTarget { cyl := s.pos.cylinder, offset := 0 } Option.none
          { s with pos := { s.pos with requester := Option.none } } := by
        simp only [settleWhereItIs, h]
      rw [coasts, requestTarget_coasting (by exact none) (by exact h), takenOver, if_pos (.inl rfl), state]
      rfl
    · simp only [settleWhereItIs, h]
    · obtain h | h := h <;> simp only [settleWhereItIs, h]

end Sys2Proof

/-! ## Proofs: the stages of REST, SPIN DOWN, an eject and a soft reset -/

namespace Sys2Proof.Machine

/-! ### Requests whose answer nobody in the slot waits for -/

/-- An answer to a target request is under way, or none. -/
def toldOf (x : Option TargetOutcome) (s : State) : State := { s with mail := { s.mail with told := x } }

theorem home_away {p : PosState} (h : p.home = true) (away : p ≠ .parked) : p = .retracting ∨ p = .emergency := by
  cases p <;> simp_all [PosState.home]

theorem home_of_flying {p : PosState} (h : p.flying = true) : p.home = false := by
  cases p <;> simp_all [PosState.home, PosState.flying]

/-- Flying heads with no sector in work begin their retract (R64, R65). -/
theorem requestRetract_flies {s : State} (flies : s.pos.state.flying = true) (op : s.chan.op = none)
    (out : s.pins.park = false) (held : s.pos.held = none) : ∃ x, requestRetract s = toldOf x (retracts s) := by
  have still : depart s = s := depart_of_none op
  rw [requestRetract_of_flying (home_of_flying flies) held, enterRetracting_eq, beganRetract, still,
    if_neg (by rw [out]; nofun), tellRequester_ite]
  split
  · exact ⟨s.mail.told, rfl⟩
  · exact ⟨some .ended, rfl⟩

/-- Heads on their way to the ramp discard a held request (R64). -/
theorem requestRetract_home {s : State} (home : s.pos.state.home = true) (away : s.pos.state ≠ .parked) :
    ∃ x, requestRetract s = toldOf x { s with pos := { s.pos with held := none } } := by
  have discards : requestRetract s = discardHeld s := by
    unfold requestRetract
    obtain h | h := home_away home away <;> rw [h]
  rw [discards, discardHeld, tellHeldEnded_eq]
  split
  · exact ⟨s.mail.told, rfl⟩
  · exact ⟨some .ended, rfl⟩

section
variable {i : Item} {w : Work} {s : State} (stage : Stage i w s)
include stage

/-- A stage that takes its answer and then waits. -/
theorem Stage.settle_waits {m : Mail} {t : State} (next : advanceItem { s with mail := m } = some t)
    (load : t.record.load = none) (copy : t.record.copyWrite = none) (waits : advanceItem t = none) :
    settle { s with mail := m } = { t with mail := Mail.none } :=
  settle_of_one ((stage.advance_eq m).trans next) ((advance_item load copy).trans waits)

section
variable {m : Mail} {next : Work} {u : State} (load : u.record.load = none) (copy : u.record.copyWrite = none)
  (asks : advanceItem { s with mail := m } = some (setWork next (requestRetract u)))
  (waits : ∀ v : State, v.cu.slot.work = next → v.mail.note = u.mail.note → v.pos.state ≠ .parked → advanceItem v = none)
include load copy asks waits

/-- A stage that has the flying heads retracted waits for PARKED (R64, R162, R167). -/
theorem Stage.settle_retracts (flies : u.pos.state.flying = true) (op : u.chan.op = none)
    (out : u.pins.park = false) (held : u.pos.held = none) :
    settle { s with mail := m } = { setWork next (retracts u) with mail := Mail.none } := by
  obtain ⟨x, told⟩ := requestRetract_flies flies op out held
  rw [told] at asks
  exact (stage.settle_waits asks load copy (waits _ rfl rfl nofun)).trans rfl

/-- A stage that finds the heads on their way to the ramp waits for PARKED (R64, R162, R167). -/
theorem Stage.settle_comesHome (home : u.pos.state.home = true) (away : u.pos.state ≠ .parked) :
    settle { s with mail := m }
      = { setWork next { u with pos := { u.pos with held := none } } with mail := Mail.none } := by
  obtain ⟨x, told⟩ := requestRetract_home home away
  rw [told] at asks
  exact (stage.settle_waits asks load copy (waits _ rfl rfl away)).trans rfl

end

end

/-- The item in the slot with this record result and FAULTED outcome (R162, R167). -/
def slotKept (r : RecordResult) (flt : Bool) (s : State) : State :=
  { s with cu := { s.cu with slot := { s.cu.slot with result := r, faulted := flt } } }

theorem slotFaulted_eq (c : FaultClass) (s : State) :
    slotFaulted c s = dropNote (slotKept s.cu.slot.result (s.cu.slot.faulted || decide (c ∈ classes13)) s) := by
  have same : decide (c ∈ classes13) = c.isClass13 := by cases c <;> decide
  unfold slotFaulted
  dsimp only
  rw [same]
  cases c.isClass13 with
  | true => rw [Bool.or_true]; rfl
  | false => rw [Bool.or_false]; rfl

theorem restOutcome_eq (s : State) : restOutcome s = if s.cu.slot.faulted then .faulted else
    match s.cu.slot.result with
    | .neither => .recordWriteFailed
    | .one => .recovered
    | _ => .done := by
  unfold restOutcome
  cases s.cu.slot.result <;> rfl

section
variable {s : State} {c : FaultClass} (note : s.mail.note = some c)
include note

theorem advanceItem_rest_noted (h : s.cu.slot.work = .restSave ∨ s.cu.slot.work = .restPark
    ∨ s.cu.slot.work = .restStop ∧ c ≠ .stallBrake) : advanceItem s = some (slotFaulted c s) := by
  obtain h | h | ⟨h, other⟩ := h
  · simp only [advanceItem, h, advanceRest, note]
  · simp only [advanceItem, h, advanceRest, note]
  · simp only [advanceItem, h, advanceRest, note]

theorem advanceItem_down_noted (h : s.cu.slot.work = .downSave ∨ s.cu.slot.work = .downPark
    ∨ s.cu.slot.work = .downStop ∧ c ≠ .stallBrake) : advanceItem s = some (slotFaulted c s) := by
  obtain h | h | ⟨h, other⟩ := h
  · simp only [advanceItem, h, advanceSpinDown, note]
  · simp only [advanceItem, h, advanceSpinDown, note]
  · simp only [advanceItem, h, advanceSpinDown, note]

end

/-- A fault that only fixes the outcome of REST or SPIN DOWN (R163, R167). -/
theorem Stage.settle_slotFaulted {i : Item} {w : Work} {s : State} {c : FaultClass} (stage : Stage i w s)
    (next : advanceItem (noted c s) = some (slotFaulted c (noted c s)))
    (waits : ∀ v : State, v.cu.slot.work = w → v.mail = Mail.none → v.pos = s.pos → v.spin = s.spin → advanceItem v = none) :
    settle (noted c s) = slotKept s.cu.slot.result (s.cu.slot.faulted || decide (c ∈ classes13)) s := by
  obtain ⟨-, work, mail, load, copy⟩ := id stage
  have taken : dropNote (slotKept s.cu.slot.result (s.cu.slot.faulted || decide (c ∈ classes13)) (noted c s))
      = slotKept s.cu.slot.result (s.cu.slot.faulted || decide (c ∈ classes13)) s := by
    have clean : ({ s.mail with note := none } : Mail) = s.mail := by rw [mail]; rfl
    exact congrArg (fun x => ({ slotKept s.cu.slot.result (s.cu.slot.faulted || decide (c ∈ classes13)) s with
      mail := x } : State)) clean
  rw [slotFaulted_eq] at next
  change advanceItem (noted c s)
    = some (dropNote (slotKept s.cu.slot.result (s.cu.slot.faulted || decide (c ∈ classes13)) (noted c s))) at next
  rw [taken] at next
  refine (stage.settle_waits next load copy (waits _ work mail rfl rfl)).trans ?_
  rw [← mail]
  rfl

/-- A copy write that waits for its target. -/
def seekingCopies : CopyWrite :=
  { owner := .writeBack, targeting := true, copy := 0, attempt := 1, readBack := false, sector := 0, armed := false
    timer := none, expired := false, written0 := false }

/-- A write-back with the heads on the ramp has them loaded (R89, R52). -/
theorem beginWriteBack_loads {s : State} (told : s.mail.told = none) (parked : s.pos.state = .parked) (may : Loadable s)
    (free : s.cart.wp = false) : beginWriteBack s = loads { cyl := 0, offset := 0 } (some .record)
      { s with record := { s.record with copyWrite := some seekingCopies } } := by
  have away : onTarget 0 0 s = false := by
    unfold onTarget
    rw [parked]
    rfl
  unfold beginWriteBack
  rw [free, away, if_neg nofun, if_neg nofun]
  exact requestTarget_loads (by exact told) (by exact parked) (by exact may)

/-- Copies that wait for their target, which the heads seek, have nothing to take (R92). -/
theorem advance_seekingCopies {s : State} (copies : s.record.copyWrite = some seekingCopies) (load : s.record.load = none)
    (mail : s.mail = Mail.none) (away : s.pos.state ≠ .parked) (item : advanceItem s = none) : advance s = none := by
  have note : s.mail.note = none := by rw [mail]; rfl
  have told : s.mail.told = none := by rw [mail]; rfl
  have none : advanceCopies s = none := by
    simp only [advanceCopies, copies, note, told, seekingCopies, if_true, away, if_false]
  have loads : advanceLoad s = Option.none := by simp only [advanceLoad, load]
  simp only [advance, none, loads, item]

/-- The session is discarded and the cartridge is as it came (R17, R20, R167). -/
def sessionDropped (s : State) : State :=
  { s with
    cart := { s.cart with state := stateForType s.cart.type }
    cu := { s.cu with
      pendAuto := s.cart.type.isSome && s.cu.pendAuto
      attention := s.cu.attention ||| (if s.record.unsaved then 0x0080#16 else 0#16) }
    record := { s.record with session := .absent, copyStatus := .none, unsaved := false } }

theorem setCart_discardSession (s : State) :
    setCart (stateForType s.cart.type) (discardSession s) = sessionDropped s := by
  rw [discardSession_eq, setCart, pendAuto_stateForType]
  rfl

theorem downDiscards_eq (s : State) :
    downDiscards s = finish (restOutcome (sessionDropped s)) (sessionDropped s) := by
  rw [← setCart_discardSession]
  rfl

theorem discardSession_setCart (s : State) :
    discardSession (setCart (stateForType s.cart.type) s) = sessionDropped s := by
  rw [discardSession_eq, setCart, pendAuto_stateForType]
  rfl

theorem setCart_eq (c : CartState) (s : State) :
    setCart c s = { s with
      cart := { s.cart with state := c }
      cu := { s.cu with pendAuto := s.cu.pendAuto && decide (c = .present) } } := by
  have same : (if c = .present then s.cu.pendAuto else false) = (s.cu.pendAuto && decide (c = .present)) := by
    by_cases h : c = .present
    · rw [if_pos h, decide_eq_true h, Bool.and_true]
    · rw [if_neg h, decide_eq_false h, Bool.and_false]
  rw [← same]
  rfl

theorem ejectBrakeFails_eq (s : State) : ejectBrakeFails s = finish .faulted (resetReport (sessionDropped s)) := by
  rw [← discardSession_setCart]
  rfl

/-! ### The stages of an eject (R13 to R18) -/

/-- The eject stands at this stage. -/
def ejecting (j : Eject) (st : EjectStage) (s : State) : State :=
  { s with cart := { s.cart with eject := some { j with stage := st } } }

theorem ejectStage_ejecting {s : State} {j : Eject} (eject : s.cart.eject = some j) (st : EjectStage) :
    ejectStage st s = ejecting j st s := by
  unfold ejectStage
  rw [eject]
  rfl

theorem headsGone_of_flying {s : State} (h : s.pos.state.flying = true) : headsGone s = false := by
  unfold headsGone
  cases k : s.pos.state <;> simp_all [PosState.flying]

theorem headsGone_of_home {s : State} (h : s.pos.state.home = true) : headsGone s = true := by
  unfold headsGone
  cases k : s.pos.state <;> simp_all [PosState.home]

section
variable {i : Item} {s u : State} {j : Eject} (stage : Stage i .eject s) {m : Mail}
  (load : u.record.load = none) (copy : u.record.copyWrite = none)
  (asks : advanceItem { s with mail := m } = some (ejectParks u)) (work : u.cu.slot.work = .eject)
  (eject : u.cart.eject = some j) (note : u.mail.note = none)
include stage load copy asks work eject note

/-- The park stage begins with the heads flying (R16). -/
theorem Stage.settle_ejectParks_flies (flies : u.pos.state.flying = true) (op : u.chan.op = none)
    (out : u.pins.park = false) (held : u.pos.held = none) :
    settle { s with mail := m } = { retracts (ejecting j .park u) with mail := Mail.none } := by
  obtain ⟨x, told⟩ := requestRetract_flies (s := ejecting j .park u) flies op out held
  have parks : ejectParks u = toldOf x (retracts (ejecting j .park u)) := by
    unfold ejectParks
    rw [ejectStage_ejecting eject, ← told]
    exact if_neg (by rw [headsGone_of_flying (s := ejecting j .park u) flies]; nofun)
  rw [parks] at asks
  refine (stage.settle_waits asks load copy ?_).trans rfl
  exact (advanceItem_ejectPark (s := toldOf x (retracts (ejecting j .park u))) (j := { j with stage := .park }) work rfl note
    rfl).trans (if_neg nofun)

/-- The park stage begins with the heads on their way to the ramp (R16). -/
theorem Stage.settle_ejectParks_gone (home : u.pos.state.home = true) (away : u.pos.state ≠ .parked) :
    settle { s with mail := m } = { ejecting j .park u with mail := Mail.none } := by
  have parks : ejectParks u = ejecting j .park u := by
    unfold ejectParks
    rw [ejectStage_ejecting eject]
    exact if_pos (headsGone_of_home (s := ejecting j .park u) home)
  rw [parks] at asks
  refine stage.settle_waits asks load copy ?_
  exact (advanceItem_ejectPark (s := ejecting j .park u) (j := { j with stage := .park }) work rfl note rfl).trans
    (if_neg away)

end

end Sys2Proof.Machine

namespace Sys2Proof

open Machine

/-- Settles O60: each stage by the answer that it takes or the state that it waits for. -/
theorem restAndEjectStages : Obligations.RestAndEjectStages := by
  refine ⟨fun e s code => ?_, fun e s code => ?_, fun i j s code stage eject => ?_, fun tag s stage => ?_⟩
  · intro standby outcome slot kept rests waits
    have deep (item : s.cu.slot.item = .command e) : restStandby s = true ↔ standby := by
      unfold restStandby slotParams
      rw [item]
      exact beq_iff_eq
    have enters {m n : Mail} {w : Work} (stage : waits w) (flt : Bool)
        (next : advanceItem { s with mail := m } = some (enterRest { slotKept slot.result flt s with mail := n })) :
        settle { s with mail := m } = rests flt s := by
      obtain ⟨item, -, -, load, copy⟩ := id stage
      let y : State := { slotKept slot.result flt s with
        mail := n
        rest := { state := if standby then .standby else .idle
                  wakeActive := !(byteAt e.params 0 == 1) || byteAt e.params 2 == 1
                  timer := if byteAt e.params 1 = 0 then none else some (byteAt e.params 1 * 60000000) } }
      have entered : enterRest { slotKept slot.result flt s with mail := n } = finish (outcome flt slot.result) y := by
        have params : slotParams { slotKept slot.result flt s with mail := n } = e.params := by
          unfold slotParams
          rw [show ({ slotKept slot.result flt s with mail := n } : State).cu.slot.item = _ from item]
        unfold enterRest restStandby restWakeActive restMinutes restStandby
        rw [params]
        have depth : (if (byteAt e.params 0 == 1) = true then RestState.standby else .idle)
            = if standby then .standby else .idle := if_congr beq_iff_eq rfl rfl
        dsimp only
        rw [depth]
        exact congrArg (fun o => finish o y) (restOutcome_eq y)
      rw [entered] at next
      refine (settle_of_finish (i := .command e) (fields := [byte slot.result.code])
        ((stage.advance_eq m).trans next) item load copy fun c h => ?_).trans ?_
      · cases h
        exact resultFields_rest y code
      · exact itemEnded_mail (.command e) _ _ n { y with mail := s.mail }
    refine ⟨fun stage => ?_, fun r stage flies op out held => ?_, fun r stage home away => ?_, fun stage away => ?_,
      fun stage parked idle => ?_, fun stage parked low turning => ?_, fun stage turning => ?_,
      fun stage stopped => ?_, fun stage => ?_, fun c stage => ?_⟩
    · obtain ⟨-, work, -⟩ := id stage
      refine stage.settle_of_none ?_
      simp only [advanceItem, work, advanceRest, stage.note, stage.saved]
    · obtain ⟨-, work, mail, load, copy⟩ := id stage
      refine (stage.settle_retracts (u := slotResult r (savedAs r s)) (m := (savedAs r s).mail) (next := .restPark) load copy ?_
        (fun v w note away => ?_) flies op out held).trans ?_
      · simp only [advanceItem, work, advanceRest, savedAs, stage.note, restParks]
      · rw [advanceItem_restPark (note.trans stage.note) w, if_neg away]
      · rw [← mail]
        rfl
    · obtain ⟨-, work, mail, load, copy⟩ := id stage
      refine (stage.settle_comesHome (u := slotResult r (savedAs r s)) (m := (savedAs r s).mail) (next := .restPark) load copy ?_
        (fun v w note away => ?_) home away).trans ?_
      · simp only [advanceItem, work, advanceRest, savedAs, stage.note, restParks]
      · rw [advanceItem_restPark (note.trans stage.note) w, if_neg away]
      · rw [← mail]
        rfl
    · obtain ⟨-, work, -⟩ := id stage
      exact stage.settle_of_none ((advanceItem_restPark stage.note work).trans (if_neg away))
    · obtain ⟨item, work, -⟩ := id stage
      refine enters (m := s.mail) (n := s.mail) stage slot.faulted ?_
      exact (advanceItem_restPark stage.note work).trans ((if_pos parked).trans (if_neg fun h => idle ((deep item).mp h)))
    · obtain ⟨item, work, mail, load, copy⟩ := id stage
      have stops : stopRequest s = { s with spin := brakes s.spin } := by
        rw [stopRequest_of_parked parked, Spindle.stops_of_turning (.inr (.inr (.inr turning)))]
      refine stage.settle_passes (m := s.mail) ?_ ?_ mail
      · refine (advanceItem_restPark stage.note work).trans ((if_pos parked).trans ((if_pos ((deep item).mpr low)).trans ?_))
        rw [stops]
      · refine (advance_item (by exact load) (by exact copy)).trans ((advanceItem_restStop (by exact stage.note) rfl).trans (if_neg nofun))
    · obtain ⟨-, work, -⟩ := id stage
      exact stage.settle_of_none ((advanceItem_restStop stage.note work).trans (if_neg turning))
    · obtain ⟨item, work, -⟩ := id stage
      refine enters (m := s.mail) (n := s.mail) stage slot.faulted ?_
      exact (advanceItem_restStop stage.note work).trans (if_pos stopped)
    · obtain ⟨item, work, -⟩ := id stage
      refine enters (m := { s.mail with note := some .stallBrake }) (n := { s.mail with note := none }) stage true ?_
      simp only [advanceItem, work, advanceRest]
      rfl
    · obtain stage | ⟨stage, away⟩ | ⟨stage, other, turning⟩ := stage
      · obtain ⟨-, work, -⟩ := id stage
        refine stage.settle_slotFaulted (advanceItem_rest_noted rfl (.inl work)) fun v w m _ _ => ?_
        simp only [advanceItem, w, advanceRest, m]
        rfl
      · obtain ⟨-, work, -⟩ := id stage
        refine stage.settle_slotFaulted (advanceItem_rest_noted rfl (.inr (.inl work))) fun v w m p _ => ?_
        exact (advanceItem_restPark (by rw [m]; rfl) w).trans (if_neg (by rw [p]; exact away))
      · obtain ⟨-, work, -⟩ := id stage
        refine stage.settle_slotFaulted (advanceItem_rest_noted rfl (.inr (.inr ⟨work, other⟩))) fun v w m _ q => ?_
        exact (advanceItem_restStop (by rw [m]; rfl) w).trans (if_neg (by rw [q]; exact turning))
  · intro outcome slot kept down waits
    have drops {m n : Mail} {w : Work} (stage : waits w) (flt : Bool)
        (next : advanceItem { s with mail := m } = some (downDiscards { slotKept slot.result flt s with mail := n })) :
        settle { s with mail := m } = down flt := by
      obtain ⟨item, -, -, load, copy⟩ := id stage
      let y : State := sessionDropped { slotKept slot.result flt s with mail := n }
      have discards : downDiscards { slotKept slot.result flt s with mail := n } = finish (outcome flt slot.result) y := by
        rw [downDiscards_eq]
        exact congrArg (fun o => finish o y) (restOutcome_eq y)
      rw [discards] at next
      refine (settle_of_finish (i := .command e) (fields := [byte slot.result.code])
        ((stage.advance_eq m).trans next) item load copy fun c h => ?_).trans ?_
      · cases h
        exact resultFields_spinDown y code
      · exact itemEnded_mail (.command e) _ _ n { y with mail := s.mail }
    refine ⟨fun stage slow => ?_, fun stage parked may free => ?_, fun c stage h home away => ?_,
      fun r stage flies op out held => ?_, fun stage away => ?_, fun stage parked turning => ?_, fun stage turning => ?_,
      fun stage stopped => ?_, fun stage => ?_, fun c stage => ?_⟩
    · obtain ⟨-, work, -⟩ := id stage
      exact stage.settle_of_none ((advanceItem_downSpin stage.note work).trans (if_neg slow))
    · obtain ⟨-, work, mail, load, copy⟩ := id stage
      refine stage.settle_passes (m := s.mail) ?_ ?_ mail
      · refine (advanceItem_downSpin stage.note work).trans ((if_pos may.1).trans ?_)
        rw [beginWriteBack_loads stage.told parked may free]
        rfl
      · refine advance_seekingCopies rfl load mail nofun ?_
        simp only [advanceItem, setWork, advanceSpinDown, loads, stage.note, stage.saved]
    · obtain ⟨-, work, mail, load, copy⟩ := id stage
      let u : State := { slotKept .neither true s with mail := { s.mail with note := none, saved := none } }
      have faulted : slotResult .neither (slotFaulted c (noted c s)) = u := by
        rw [slotFaulted_eq, decide_eq_true h, Bool.or_true]
        rfl
      refine (stage.settle_comesHome (u := u) (m := (noted c s).mail) (next := .downPark) load copy ?_
        (fun v w note away => ?_) home away).trans ?_
      · rw [← faulted]
        simp only [advanceItem, work, advanceSpinDown, noted, isClass13_of h, if_true, downParks]
      · rw [advanceItem_downPark note w, if_neg away]
      · rw [← mail]
        rfl
    · obtain ⟨-, work, mail, load, copy⟩ := id stage
      refine (stage.settle_retracts (u := slotResult r (savedAs r s)) (m := (savedAs r s).mail) (next := .downPark) load copy ?_
        (fun v w note away => ?_) flies op out held).trans ?_
      · simp only [advanceItem, work, advanceSpinDown, savedAs, stage.note, downParks]
      · rw [advanceItem_downPark (note.trans stage.note) w, if_neg away]
      · rw [← mail]
        rfl
    · obtain ⟨-, work, -⟩ := id stage
      exact stage.settle_of_none ((advanceItem_downPark stage.note work).trans (if_neg away))
    · obtain ⟨item, work, mail, load, copy⟩ := id stage
      have stops : stopRequest s = { s with spin := brakes s.spin } := by
        rw [stopRequest_of_parked parked, Spindle.stops_of_turning (.inr (.inr (.inr turning)))]
      refine stage.settle_passes (m := s.mail) ?_ ?_ mail
      · refine (advanceItem_downPark stage.note work).trans ((if_pos parked).trans ?_)
        rw [stops]
      · refine (advance_item (by exact load) (by exact copy)).trans ((advanceItem_downStop (by exact stage.note) rfl).trans (if_neg nofun))
    · obtain ⟨-, work, -⟩ := id stage
      exact stage.settle_of_none ((advanceItem_downStop stage.note work).trans (if_neg turning))
    · obtain ⟨item, work, -⟩ := id stage
      exact drops (m := s.mail) (n := s.mail) stage slot.faulted ((advanceItem_downStop stage.note work).trans (if_pos stopped))
    · obtain ⟨item, work, -⟩ := id stage
      refine drops (m := { s.mail with note := some .stallBrake }) (n := { s.mail with note := none }) stage true ?_
      simp only [advanceItem, work, advanceSpinDown]
      rfl
    · obtain stage | ⟨stage, away⟩ | ⟨stage, other, turning⟩ := stage
      · obtain ⟨-, work, -⟩ := id stage
        refine stage.settle_slotFaulted (advanceItem_down_noted rfl (.inl work)) fun v w m _ _ => ?_
        simp only [advanceItem, w, advanceSpinDown, m]
        rfl
      · obtain ⟨-, work, -⟩ := id stage
        refine stage.settle_slotFaulted (advanceItem_down_noted rfl (.inr (.inl work))) fun v w m p _ => ?_
        exact (advanceItem_downPark (by rw [m]; rfl) w).trans (if_neg (by rw [p]; exact away))
      · obtain ⟨-, work, -⟩ := id stage
        refine stage.settle_slotFaulted (advanceItem_down_noted rfl (.inr (.inr ⟨work, other⟩))) fun v w m _ q => ?_
        exact (advanceItem_downStop (by rw [m]; rfl) w).trans (if_neg (by rw [q]; exact turning))
  · intro on lost forced flies gone kept brakeFailed
    obtain ⟨item, work, mail, load, copy⟩ := id stage
    have ends {m n : Mail} {o : OutcomeCode} {v : State} (next : advanceItem { s with mail := m } = some (finish o { v with mail := n }))
        (slot : v.cu.slot = s.cu.slot) (record : v.record.load = s.record.load ∧ v.record.copyWrite = s.record.copyWrite) :
        settle { s with mail := m } = itemEnded i o [] v := by
      obtain ⟨loads, copies⟩ := record
      rw [settle_of_finish (i := i) (fields := []) ((stage.advance_eq m).trans next)
        ((congrArg Slot.item slot).trans item) (loads.trans load) (copies.trans copy)
        fun e h => resultFields_eject _ (code e h), itemEnded_mail]
    have takes {m : Mail} {t : State} (next : advanceItem { s with mail := m } = some t) (same : t = s)
        (waits : advanceItem s = none) : settle { s with mail := m } = s := by
      subst same
      exact stage.settle_passes next ((advance_item load copy).trans waits) mail
    have soft {o : OutcomeCode} {n : Mail} (h : ¬ forced) : ejectSaveFails o { s with mail := n }
        = finish o { setCart (s.cart.origin.getD .present) s with mail := n } := by
      have not : (j.button || j.force) = false := by
        cases b : j.button <;> cases f : j.force <;> simp_all [forced]
      simp only [ejectSaveFails, eject, not, Bool.false_eq_true, if_false]
      rfl
    have hard {o : OutcomeCode} {n : Mail} (h : forced) : ejectSaveFails o { s with mail := n } = ejectParks { lost s with mail := n } := by
      have so : (j.button || j.force) = true := Bool.or_eq_true_iff.mpr h
      simp only [ejectSaveFails, eject, so, if_true]
      rfl
    have keeps {m n : Mail} {o : OutcomeCode} (no : ¬ forced)
        (next : advanceItem { s with mail := m } = some (ejectSaveFails o { s with mail := n })) :
        settle { s with mail := m } = kept o := by
      rw [soft no, setCart_eq] at next
      exact ends (v := { s with
        cart := { s.cart with state := s.cart.origin.getD .present }
        cu := { s.cu with pendAuto := s.cu.pendAuto && decide (s.cart.origin.getD .present = .present) } }) next rfl ⟨rfl, rfl⟩
    have fails {m n : Mail} (next : advanceItem { s with mail := m } = some (ejectBrakeFails { s with mail := n })) :
        settle { s with mail := m } = brakeFailed := by
      rw [ejectBrakeFails_eq] at next
      exact ends (v := resetReport (sessionDropped s)) next rfl ⟨rfl, rfl⟩
    refine ⟨fun at' slow => stage.settle_of_none ?_, fun at' parked may free => ?_, fun c at' h => ⟨fun no => ?_, fun yes away => ?_⟩,
      fun r at' other => ⟨fun fly => ?_, fun away => ?_⟩,
      fun at' => ⟨fun no => ?_, fun c no => ?_, fun yes fly => ?_, fun yes away => ?_⟩,
      fun at' away => ?_, fun at' parked fails' => ?_, fun at' parked sound turning => ?_, fun at' parked sound braking => ?_,
      fun at' fails' => ?_, fun at' sound turning => ?_, fun at' sound stopped parked seated => ?_,
      fun at' not => ?_, fun at' => ?_, fun c at' => ?_⟩
    · simp only [advanceItem, work, advanceEject, eject, at', stage.note, slow, if_false]
    · refine stage.settle_passes (m := s.mail) ?_ ?_ mail
      · simp only [advanceItem, work, advanceEject, eject, at', stage.note, may.1, if_true, ejectSaves]
        rw [beginWriteBack_loads stage.told parked may free]
        exact congrArg some (ejectStage_ejecting (by exact eject) _)
      · refine advance_seekingCopies rfl load mail nofun ?_
        simp only [advanceItem, work, advanceEject, on, loads, stage.saved]
    · refine keeps (m := (noted c s).mail) (n := { s.mail with note := none }) no ?_
      simp only [advanceItem, work, advanceEject, eject, at', noted, isClass13_of h, if_true]
      rfl
    · refine (stage.settle_ejectParks_gone (m := (noted c s).mail) (u := { lost s with mail := { s.mail with note := none } })
        load copy ?_ work eject rfl away.1 away.2).trans ?_
      · rw [← hard yes (o := .faulted)]
        simp only [advanceItem, work, advanceEject, eject, at', noted, isClass13_of h, if_true]
        rfl
      · rw [← mail]
        rfl
    · refine (stage.settle_ejectParks_flies (m := (savedAs r s).mail)
        (u := { s with mail := { s.mail with note := none, saved := none } }) load copy ?_ work eject rfl fly.1 fly.2.1 fly.2.2.1
        fly.2.2.2).trans ?_
      · simp only [advanceItem, work, advanceEject, eject, at', savedAs, other, if_false]
        rfl
      · rw [← mail]
        rfl
    · refine (stage.settle_ejectParks_gone (m := (savedAs r s).mail)
        (u := { s with mail := { s.mail with note := none, saved := none } }) load copy ?_ work eject rfl away.1 away.2).trans ?_
      · simp only [advanceItem, work, advanceEject, eject, at', savedAs, other, if_false]
        rfl
      · rw [← mail]
        rfl
    · refine keeps (m := (savedAs .neither s).mail) (n := { s.mail with note := none, saved := none }) no ?_
      simp only [advanceItem, work, advanceEject, eject, at', savedAs, if_true, stage.note, Option.isSome_none,
        Bool.false_eq_true, if_false]
      rfl
    · refine keeps (m := (noted c (savedAs .neither s)).mail) (n := { s.mail with note := none, saved := none }) no ?_
      simp only [advanceItem, work, advanceEject, eject, at', noted, savedAs, if_true, Option.isSome_some]
      rfl
    · refine (stage.settle_ejectParks_flies (m := (savedAs .neither s).mail)
        (u := { lost s with mail := { s.mail with note := none, saved := none } }) load copy ?_ work eject rfl fly.1 fly.2.1 fly.2.2.1
        fly.2.2.2).trans ?_
      · rw [← hard yes (o := .recordWriteFailed)]
        simp only [advanceItem, work, advanceEject, eject, at', savedAs, if_true, stage.note, Option.isSome_none,
          Bool.false_eq_true, if_false]
        rfl
      · rw [← mail]
        rfl
    · refine (stage.settle_ejectParks_gone (m := (savedAs .neither s).mail)
        (u := { lost s with mail := { s.mail with note := none, saved := none } }) load copy ?_ work eject rfl away.1 away.2).trans ?_
      · rw [← hard yes (o := .recordWriteFailed)]
        simp only [advanceItem, work, advanceEject, eject, at', savedAs, if_true, stage.note, Option.isSome_none,
          Bool.false_eq_true, if_false]
        rfl
      · rw [← mail]
        rfl
    · exact stage.settle_of_none ((advanceItem_ejectPark work eject stage.note at').trans (if_neg away))
    · refine fails (m := s.mail) (n := s.mail) ?_
      exact (advanceItem_ejectPark work eject stage.note at').trans ((if_pos parked).trans (if_pos fails'))
    · have stops : ejectBrakes s = { ejecting j .brake s with spin := brakes s.spin } := by
        unfold ejectBrakes
        rw [ejectStage_ejecting eject]
        refine (if_neg (by rw [show (ejecting j .brake s).spin = s.spin from rfl, turning]; nofun)).trans ?_
        rw [stopRequest_of_parked (by exact parked), Spindle.stops_of_turning (.inr (.inr (.inr (by exact turning))))]
        rfl
      refine stage.settle_passes (m := s.mail) ?_ ?_ mail
      · exact ((advanceItem_ejectPark work eject stage.note at').trans ((if_pos parked).trans
          (if_neg (by rw [sound]; nofun)))).trans (congrArg some stops)
      · refine (advance_item (by exact load) (by exact copy)).trans ((advanceItem_ejectBrake
          (s := { ejecting j .brake s with spin := brakes s.spin }) (j := { j with stage := .brake }) work rfl stage.note rfl).trans
          ((if_neg nofun).trans (if_neg nofun)))
    · have stops : ejectBrakes s = { ejecting j .brake s with spin := s.spin.withdrawn } := by
        unfold ejectBrakes
        rw [ejectStage_ejecting eject]
        refine (if_neg (by rw [show (ejecting j .brake s).spin = s.spin from rfl, braking]; nofun)).trans ?_
        rw [stopRequest_of_braking (by exact braking)]
        rfl
      refine stage.settle_passes (m := s.mail) ?_ ?_ mail
      · exact ((advanceItem_ejectPark work eject stage.note at').trans ((if_pos parked).trans
          (if_neg (by rw [sound]; nofun)))).trans (congrArg some stops)
      · refine (advance_item (by exact load) (by exact copy)).trans ((advanceItem_ejectBrake
          (s := { ejecting j .brake s with spin := s.spin.withdrawn }) (j := { j with stage := .brake }) work rfl stage.note rfl).trans
          ((if_neg ?_).trans (if_neg ?_)))
        · change ¬ s.spin.brakeFailed = true
          rw [sound]
          nofun
        · change s.spin.state ≠ _
          rw [braking]
          nofun
    · refine fails (m := s.mail) (n := s.mail) ?_
      exact (advanceItem_ejectBrake work eject stage.note at').trans (if_pos fails')
    · exact stage.settle_of_none ((advanceItem_ejectBrake work eject stage.note at').trans
        ((if_neg (by rw [sound]; nofun)).trans (if_neg turning)))
    · have first : advance s = some (ejecting j .release s) :=
        (stage.advance_eq s.mail).trans ((advanceItem_ejectBrake work eject stage.note at').trans
          ((if_neg (by rw [sound]; nofun)).trans ((if_pos stopped).trans (congrArg some (ejectStage_ejecting eject _)))))
      have second : advance (ejecting j .release s) = some (Machine.ejectReleases (ejecting j .release s)) :=
        (advance_item (s := ejecting j .release s) load copy).trans ((advanceItem_ejectRelease
          (s := ejecting j .release s) (j := { j with stage := .release }) work rfl stage.note rfl).trans
          (if_pos ⟨stopped, parked⟩))
      have releases : Machine.ejectReleases (ejecting j .release s) = { s with
          cart := { s.cart with
            state := .released, latch := true
            eject := some { j with stage := .leaveOrJam, window := some 2000000 } }
          cu := { s.cu with pendAuto := false } } := by
        unfold Machine.ejectReleases
        exact if_pos seated
      rw [releases] at second
      refine (settle_of_two first second ((advance_item (by exact load) (by exact copy)).trans (advanceItem_ejectLeave
        (j := { j with stage := .leaveOrJam, window := some 2000000 }) work rfl stage.note rfl))).trans ?_
      rw [← mail]
    · refine stage.settle_of_none ((advanceItem_ejectRelease work eject stage.note at').trans (if_neg ?_))
      rintro ⟨stopped, parked⟩
      exact not.elim (fun h => h stopped) fun h => h parked
    · exact stage.settle_of_none (advanceItem_ejectLeave work eject stage.note at')
    · refine takes (m := (noted c s).mail) (t := dropNote (noted c s)) ?_ ?_ ?_
      · obtain ⟨at', -⟩ | ⟨at', sound, -⟩ | at' := at'
        · simp only [advanceItem, work, advanceEject, eject, at', noted, Option.isSome_some, if_true]
        · simp only [advanceItem, work, advanceEject, eject, at', noted, sound, Option.isSome_some, if_true,
            Bool.false_eq_true, if_false]
        · simp only [advanceItem, work, advanceEject, eject, at', noted, Option.isSome_some, if_true]
      · have clean : ({ s.mail with note := none } : Mail) = s.mail := by rw [mail]; rfl
        exact congrArg (fun x => ({ s with mail := x } : State)) clean
      · obtain ⟨at', away⟩ | ⟨at', sound, turning⟩ | at' := at'
        · exact (advanceItem_ejectPark work eject stage.note at').trans (if_neg away)
        · exact (advanceItem_ejectBrake work eject stage.note at').trans
            ((if_neg (by rw [sound]; nofun)).trans (if_neg turning))
        · exact advanceItem_ejectLeave work eject stage.note at'
  · obtain ⟨item, work, mail, load, copy⟩ := id stage
    have waits (away : s.pos.state ≠ .parked) : advanceItem s = none :=
      (advanceItem_resetPark stage.note work).trans (if_neg away)
    refine ⟨fun away => ⟨stage.settle_of_none (waits away), fun c => ?_⟩, fun parked => ?_⟩
    · have clean : dropNote (noted c s) = s := by
        have none : ({ s.mail with note := none } : Mail) = s.mail := by rw [mail]; rfl
        exact congrArg (fun x => ({ s with mail := x } : State)) none
      refine stage.settle_passes (m := (noted c s).mail) ?_ ((advance_item load copy).trans (waits away)) mail
      refine .trans ?_ (congrArg some clean)
      simp only [advanceItem, work, advanceReset, noted, Option.isSome_some, if_true]
    · have restores : restore s = cleared { s with
          cu := { s.cu with
            slot := Slot.free, resets := s.cu.resets.tail
            attention := s.cu.attention &&& 0xFDFF#16 }
          set := { s.set with active := s.set.image, trims := (s.cart.type.getD .a).factoryTrims }
          link := { s.link with outbox := s.link.outbox ++ [{
            tag, code := 0x35#8, outcome := .done, fields := [], queued := false }] } } := by
        unfold restore
        rw [item]
        rfl
      refine (stage.settle_waits (m := s.mail) ((advanceItem_resetPark stage.note work).trans ((if_pos parked).trans
        (congrArg some restores))) load copy rfl).trans rfl

end Sys2Proof

/-! ## Proofs: the waits that run out -/

namespace Sys2Proof.Machine

theorem hasEnded_iff (t : Transfer) : t.hasEnded = true ↔ t.phase = .save ∨ t.phase = .drain := by
  unfold Transfer.hasEnded
  rw [Bool.or_eq_true, beq_iff_eq, beq_iff_eq]

theorem hasEnded_of_working {t : Transfer} (save : t.phase ≠ .save) (drain : t.phase ≠ .drain) :
    t.hasEnded = false := Bool.eq_false_iff.mpr fun h => ((hasEnded_iff t).mp h).elim save drain

@[simp] theorem setSlotOf_op (i : Nat) (b : BufSlot) (s : State) : (setSlotOf i b s).chan.op = s.chan.op := by
  unfold setSlotOf
  split
  · rfl
  · split <;> rfl

theorem withdrawOldest_of_cons {s : State} {o : Outstanding} {rest : List Outstanding}
    (h : s.chan.outstanding = o :: rest) :
    withdrawOldest s = setSlotOf o.idx .free { s with chan := { s.chan with outstanding := rest } } := by
  unfold withdrawOldest
  rw [h]

theorem timeOut_of_idle {t : Transfer} {s : State} (h : s.chan.op = none) :
    timeOut t s = endTransfer t .dataTimeout true s := if_neg (by rw [h]; nofun)

theorem timeOut_of_busy {t : Transfer} {s : State} (h : s.chan.op ≠ none) :
    timeOut t s = setTransfer { t with timedOut := true } s := if_pos (Option.isSome_iff_ne_none.mpr h)

section
variable {s : State} {t : Transfer} (work : s.chan.transfer = some t)
include work

theorem dataTimerExpires_of_write (write : t.cmd = .write) (waits : s.chan.outstanding ≠ []) :
    dataTimerExpires s = if t.hasEnded then withdrawOldest s else timeOut t (withdrawOldest s) := by
  obtain ⟨o, rest, waits⟩ := List.exists_cons_of_ne_nil waits
  simp only [dataTimerExpires, work, write, waits]

theorem dataTimerExpires_of_read (read : t.cmd = .read) (ready : s.chan.readyTimer ≠ none) :
    dataTimerExpires s = if t.hasEnded then setTransfer { t with outcome := drainTimeout t.outcome } (dropFrames s)
      else timeOut t (dropFrames s) := by
  have runs : s.chan.readyTimer.isNone = false := by
    cases h : s.chan.readyTimer with
    | none => exact absurd h ready
    | some n => rfl
  simp only [dataTimerExpires, work, read, runs, Bool.false_eq_true, if_false]

theorem gateWaitEnds_of_transfer (waits : s.chan.gateWait ≠ none) :
    gateWaitEnds s = endTransfer t .dataTimeout true (stopGateWait s) := by
  obtain ⟨n, wait⟩ := Option.ne_none_iff_exists'.mp waits
  simp only [gateWaitEnds, wait, work]

end

theorem gateWaitEnds_of_reassign {s : State} {r : Reassign} (work : s.chan.reassign = some r)
    (waits : s.chan.gateWait ≠ none) (none : s.chan.transfer = none) :
    gateWaitEnds s = if s.chan.op.isSome then setReassign { r with timedOut := true } (stopGateWait s)
      else writeStageEnds r .dataTimeout s := by
  obtain ⟨n, wait⟩ := Option.ne_none_iff_exists'.mp waits
  simp only [gateWaitEnds, wait, none, work]

/-- The frames that a data timeout leaves are those that the handshake is sending (R127). -/
theorem dropHolding_eq (sending : Option Outbound) (b : BufSlot) :
    dropHolding sending b = match b with
      | .holding i d => if (match sending with | some (.data j _) => decide (j = i) | _ => false) then .holding i d else .free
      | b => b := by
  cases b with
  | free => rfl
  | awaiting i => rfl
  | holding i d =>
    rcases sending with _ | f
    · rfl
    · cases f with
      | data j x => exact if_congr decide_eq_true_iff.symm rfl rfl
      | _ => rfl

theorem copyTimerExpires_eq {s : State} {c : CopyWrite} (work : s.record.copyWrite = some c) (timer : c.timer ≠ none) :
    copyTimerExpires s = if s.chan.op.isSome then
        { s with record := { s.record with copyWrite := some { c with expired := true, timer := none } } }
      else copyAttemptFails c s := by
  obtain ⟨n, runs⟩ := Option.ne_none_iff_exists'.mp timer
  simp only [copyTimerExpires, work, runs, Option.isNone_some, Bool.false_eq_true, if_false]

theorem readWaitExpires_of_verifying {s : State} {f : Format} (work : s.fmt = some f) (h : f.phase = .verifying) :
    readWaitExpires s = settle (expireWait s) := by
  simp only [readWaitExpires, work, h, if_true]

theorem advanceFormat_waitExpired {s : State} {f : Format} (work : s.fmt = some f) (mail : s.mail = Mail.none)
    (step : f.step ≠ .copies) (calm : f.abortPending = false) (idle : s.chan.op = none) (out : waitExpired f = true) :
    advanceFormat s = some (finish .dataTimeout s) := by
  have note : s.mail.note = none := by rw [mail]; rfl
  have sector : s.mail.sector = none := by rw [mail]; rfl
  simp only [advanceFormat, work, step, note, sector, calm, idle, out, Bool.false_eq_true, false_and, true_and, if_false, if_true]

/-- The shortest wait of a FORMAT has run out (R135, R136). -/
theorem expireWait_expired {s : State} {f : Format} (work : s.fmt = some f) (some' : f.waits ≠ []) :
    ∃ l, expireWait s = setFormat { f with waits := l } s ∧ (l.any fun w => w.2 == 0) = true := by
  have waits : f.waits.map Prod.snd ≠ [] := fun h => some' (List.map_eq_nil_iff.mp h)
  obtain ⟨m, least⟩ := Option.ne_none_iff_exists'.mp fun h => waits (List.min?_eq_none_iff.mp h)
  have member : m ∈ f.waits.map Prod.snd := List.min?_mem least
  obtain ⟨w, mem, snd⟩ := List.mem_map.mp member
  refine ⟨f.waits.map fun w => (w.1, w.2 - m), ?_, List.any_eq_true.mpr ⟨(w.1, w.2 - m), List.mem_map_of_mem mem, ?_⟩⟩
  · simp only [expireWait, work, least]
  · rw [← snd, Nat.sub_self]
    rfl

end Sys2Proof.Machine

namespace Sys2Proof

open Machine

/-- Settles O52: each wait by what waits. -/
theorem waitsExpire : Obligations.WaitsExpire := by
  intro s rst
  have data : exec .dataTimerExpiry s = .next (dataTimes s) := next_of_released (f := dataTimes) rst rfl
  have gate : exec .gateWaitTimerExpiry s = .next (gateWaitExpires s) := next_of_released (f := gateWaitExpires) rst rfl
  have read : exec .formatReadWaitExpiry s = .next (readWaitExpires s) := next_of_released (f := readWaitExpires) rst rfl
  have copy : exec .copyAttemptTimerExpiry s = .next (copyAttemptExpires s) :=
    next_of_released (f := copyAttemptExpires) rst rfl
  rw [data, gate, read, copy]
  refine ⟨fun quiet => ?_, fun t work o rest waits write => ?_, fun t work reads ready => ?_, fun t work waits => ?_,
    fun r work waits none => ?_, fun f work none writing => ?_, fun f work verifying => ?_,
    fun f work e verifying waits step calm idle stage code place => ?_, fun c work timer => ?_⟩
  · obtain ⟨-, -, copies, transfer, -, fmt, -, -, -, -, -, wait, -⟩ := id quiet
    have one : dataTimerExpires s = s := by simp only [dataTimerExpires, transfer]
    have two : gateWaitEnds s = s := by simp only [gateWaitEnds, wait, fmt]
    have three : readWaitExpires s = s := by simp only [readWaitExpires, fmt]
    have four : copyTimerExpires s = s := by simp only [copyTimerExpires, copies]
    rw [dataTimes, gateWaitExpires, copyAttemptExpires, one, two, three, four, settle_quiet quiet]
    exact ⟨rfl, rfl, rfl, rfl⟩
  · intro w
    have expires : dataTimes s = settle (if t.hasEnded then w else timeOut t w) := by
      rw [dataTimes, dataTimerExpires_of_write work write (by rw [waits]; nofun), withdrawOldest_of_cons waits]
    have op : w.chan.op = s.chan.op := setSlotOf_op _ _ _
    rw [expires]
    refine ⟨fun ended => ?_, fun save drain idle => ?_, fun save drain busy => ?_⟩
    · rw [if_pos ((hasEnded_iff t).mpr ended)]
    · rw [if_neg (by rw [hasEnded_of_working save drain]; nofun), timeOut_of_idle (op.trans idle)]
    · rw [if_neg (by rw [hasEnded_of_working save drain]; nofun), timeOut_of_busy (by rw [op]; exact busy)]
  · intro keeps left w
    have drops : dropFrames s = w := by
      rw [dropFrames, dropHolding_eq, dropHolding_eq] <;> rfl
    have expires : dataTimes s = settle (if t.hasEnded then setTransfer { t with outcome := drainTimeout t.outcome } w
        else timeOut t w) := by
      rw [dataTimes, dataTimerExpires_of_read work reads ready, drops]
    rw [expires]
    refine ⟨fun save drain idle => ?_, fun save drain busy => ?_, fun drain fine => ?_, fun drain done recovered => ?_⟩
    · rw [if_neg (by rw [hasEnded_of_working save drain]; nofun), timeOut_of_idle (by exact idle)]
    · rw [if_neg (by rw [hasEnded_of_working save drain]; nofun), timeOut_of_busy (by exact busy)]
    · rw [if_pos ((hasEnded_iff t).mpr (.inr drain)), drainTimeout, if_pos fine]
    · have same : setTransfer { t with outcome := t.outcome } w = w :=
        congrArg (fun x => ({ w with chan := { w.chan with transfer := x } } : State)) work.symm
      rw [if_pos ((hasEnded_iff t).mpr (.inr drain)), drainTimeout, if_neg (not_or.mpr ⟨done, recovered⟩), same]
  · rw [gateWaitExpires, gateWaitEnds_of_transfer work waits]
    rfl
  · refine ⟨fun idle => ?_, fun busy => ?_⟩
    · rw [gateWaitExpires, gateWaitEnds_of_reassign work waits none, if_neg (by rw [idle]; nofun)]
    · rw [gateWaitExpires, gateWaitEnds_of_reassign work waits none, if_pos (Option.isSome_iff_ne_none.mpr busy)]
      rfl
  · simp only [gateWaitExpires, gateWaitEnds, none, work, writing, if_true]
  · rw [readWaitExpires_of_verifying work verifying]
  · obtain ⟨item, format, mail, load, copies⟩ := id stage
    obtain ⟨l, expires, out⟩ := expireWait_expired work waits
    let v := setFormat { f with waits := l } s
    have next : advance v = some (finish .dataTimeout v) :=
      (advance_item (s := v) load copies).trans ((advanceItem_format (s := v) format).trans
        (advanceFormat_waitExpired (f := { f with waits := l }) rfl mail step calm idle out))
    have fields : formatFields v = formatFields s := by
      unfold formatFields
      rw [work]
      rfl
    have answer : settle v = ended e .dataTimeout (formatFields s) v :=
      settle_of_finish (i := .command e) next item load copies fun c h => by
        cases h
        rw [resultFields_format _ code, fields]
    refine ⟨ended e .dataTimeout (formatFields s) v, ?_, ?_⟩
    · rw [readWaitExpires_of_verifying work verifying, expires]
      exact congrArg Host.Outcome.next answer
    · unfold ended
      dsimp only
      rw [if_pos (by exact place)]
      exact ⟨rfl, rfl, rfl⟩
  · rw [copyAttemptExpires, copyTimerExpires_eq work timer]
    refine ⟨fun busy => ?_, fun idle few => ?_, fun idle last first => ?_, fun idle last second => ?_⟩
    · rw [if_pos (Option.isSome_iff_ne_none.mpr busy)]
    · rw [if_neg (by rw [idle]; nofun), copyAttemptFails, if_neg (by exact Nat.not_le.mpr few)]
    · rw [if_neg (by rw [idle]; nofun), copyAttemptFails, if_pos (by exact last), copyDone, if_pos first]
      rfl
    · rw [if_neg (by rw [idle]; nofun), copyAttemptFails, if_pos (by exact last), copyDone, if_neg second]

end Sys2Proof

/-! ## Proofs: the stages of a write-back and of the copy write -/

namespace Sys2Proof.Machine

theorem advance_of_copies {s t : State} (h : advanceCopies s = some t) : advance s = some t := by
  unfold advance
  rw [h]

theorem rightpad_zero (l : List Byte) (n : Nat) :
    l.rightpad n 0#8 = l ++ List.replicate (n - l.length) 0#8 := by
  simp only [List.rightpad]

theorem copiesResult_eq (w0 w1 : Bool) : copiesResult w0 w1 = match w0, w1 with
    | true, true => .both
    | false, false => .neither
    | _, _ => .one := by
  cases w0 <;> cases w1 <;> rfl

/-! ### The start of a sector -/

theorem sectorStart_of_copies {s : State} {c : CopyWrite} (work : s.record.copyWrite = some c)
    (idle : s.chan.op = none) (n : Nat) : sectorStart n s = copyStart c n s := by
  unfold sectorStart
  rw [idle, work]
  rfl

/-- An attempt that is armed begins with its own 250 ms (R90). -/
def CopyWrite.begun (c : CopyWrite) : CopyWrite :=
  { c with armed := false, timer := if c.armed then some 250000 else c.timer }

theorem copyStart_pass {s : State} {c : CopyWrite} {n : Nat}
    (pass : ¬ (c.targeting = false ∧ if c.armed then n = 0 else n = c.sector)) : copyStart c n s = s := by
  unfold copyStart
  cases targets : c.targeting
  · rw [if_neg nofun]
    cases armed : c.armed
    · rw [if_neg nofun, if_neg fun h => pass ⟨targets, by rw [armed]; exact h⟩]
    · rw [if_pos rfl, if_neg fun h => pass ⟨targets, by rw [armed]; exact h⟩]
  · rw [if_pos rfl]

theorem copyStart_turn {s : State} {c : CopyWrite} {n : Nat} (work : s.record.copyWrite = some c)
    (targets : c.targeting = false) (turn : if c.armed then n = 0 else n = c.sector) :
    copyStart c n s
      = copySectorStart c.begun { s with record := { s.record with copyWrite := some c.begun } } := by
  unfold copyStart
  rw [if_neg (by rw [targets]; nofun)]
  cases armed : c.armed
  · rw [armed] at turn
    have same : c.begun = c := by
      cases c
      subst armed
      rfl
    rw [if_neg nofun, if_pos (by exact turn), same, ← work]
  · rw [armed] at turn
    have same : c.begun = { c with armed := false, timer := some Config.copyAttemptTime } := by
      cases c
      subst armed
      rfl
    rw [if_pos rfl, if_pos (by exact turn), same]

/-! ### The end of a sector -/

section
variable {s : State} {c : CopyWrite} (work : s.record.copyWrite = some c) (mail : s.mail = Mail.none)
include work mail

theorem advanceCopies_sector (targets : c.targeting = false) (flies : headsGone s = false) (r : SectorResult) :
    advance (sectorIs r s) = some (copySectorEnds c r s) := by
  refine advance_of_copies ?_
  have gone : headsGone (sectorIs r s) = false := flies
  unfold advanceCopies
  rw [show (sectorIs r s).record.copyWrite = some c from work]
  dsimp only
  rw [targets, gone]
  cases s
  subst mail
  rfl

theorem advanceCopies_spoilt {x : FaultClass} (stays : x.losesHeads = false) :
    advance (noted x s) = some (copyAttemptFails c s) := by
  refine advance_of_copies ?_
  unfold advanceCopies
  rw [show (noted x s).record.copyWrite = some c from work]
  dsimp only [noted]
  rw [stays]
  cases s
  subst mail
  rfl

theorem advanceCopies_lost {x : FaultClass} (lost : x.losesHeads = true) :
    advance (noted x s) = some (abandonCopies c { s with mail := { Mail.none with note := some x } }) := by
  refine advance_of_copies ?_
  unfold advanceCopies
  rw [show (noted x s).record.copyWrite = some c from work]
  dsimp only [noted]
  rw [lost]
  cases s
  subst mail
  rfl

theorem advanceCopies_gone (targets : c.targeting = false) (gone : headsGone s = true) :
    advance s = some (abandonCopies c s) := by
  refine advance_of_copies ?_
  unfold advanceCopies
  rw [work]
  dsimp only
  rw [targets, gone]
  cases s
  subst mail
  rfl

theorem advanceCopies_told (targets : c.targeting = true) {o : TargetOutcome} (fails : o ≠ .complete) :
    advance (tell o s) = some (abandonCopies c s) := by
  refine advance_of_copies ?_
  unfold advanceCopies
  rw [show (tell o s).record.copyWrite = some c from work]
  dsimp only
  rw [targets]
  cases s
  subst mail
  cases o
  case complete => exact absurd rfl fails
  all_goals rfl

theorem advanceCopies_complete (targets : c.targeting = true) :
    advance (tell .complete s) = some (beginSessionCopies s) := by
  refine advance_of_copies ?_
  unfold advanceCopies
  rw [show (tell .complete s).record.copyWrite = some c from work]
  dsimp only
  rw [targets]
  cases s
  subst mail
  rfl

theorem advanceCopies_waits (targets : c.targeting = true) :
    advanceCopies s = if s.pos.state = .parked then some (abandonCopies c s) else none := by
  unfold advanceCopies
  rw [work]
  dsimp only
  rw [targets, mail]
  rfl

end

theorem abandonCopies_eq {c : CopyWrite} (none' : c.copy = 1 ∨ c.written0 = false) (s : State) :
    abandonCopies c s = endCopies c.owner c.written0 false s := by
  unfold abandonCopies
  have first : (c.written0 && c.copy == 1) = c.written0 := by
    cases none' with
    | inl copy => rw [copy]; exact Bool.and_true _
    | inr written => rw [written]; rfl
  rw [first]

theorem endCopies_format (w0 w1 : Bool) (s : State) : endCopies .format w0 w1 s = { s with
    record := { s.record with copyWrite := none }, mail := { s.mail with copies := some (w0, w1) } } := rfl

/-- What a write-back leaves of a full session (R91). -/
theorem endCopies_writeBack {s : State} {r : Session} (full : s.record.session = .full r) (w0 w1 : Bool) :
    endCopies .writeBack w0 w1 s = { s with
      record := { s.record with
        copyWrite := none
        session := .full (match copiesResult w0 w1 with
          | .neither => r
          | _ => { r with generation := r.generation + 1 })
        unsaved := match copiesResult w0 w1 with
          | .neither => s.record.unsaved
          | _ => false
        copyStatus := match copiesResult w0 w1 with
          | .both => .good
          | _ => .degraded }
      mail := { s.mail with saved := some (copiesResult w0 w1) } } := by
  unfold endCopies applyWriteBack
  dsimp only
  rw [full]
  cases w0 <;> cases w1 <;> rfl

end Sys2Proof.Machine

namespace Sys2Proof

open Machine

/-- Settles O57: one transition of the copy writes for each answer. -/
theorem copyWriteStages : Obligations.CopyWriteStages := by
  refine ⟨fun s protected' => ?_, fun s r full writable => ⟨fun there => ?_, fun away => ?_, fun work mail => ?_⟩, ?_⟩
  · rw [beginWriteBack, if_pos protected']
    rfl
  · rw [beginWriteBack, writable, if_neg nofun, if_pos there, beginSessionCopies, fullSession, full]
    rfl
  · rw [beginWriteBack, writable, if_neg nofun, away, if_neg nofun]
    rfl
  · rw [advanceCopies_complete work mail rfl, beginSessionCopies, fullSession, full]
    rfl
  · intro s c work mail goes place data gate now result reports copyEnds fails passes writes
    have reported (w1 : Bool) (m : Mail) :
        reports w1 m (some (endCopies c.owner c.written0 w1 { s with mail := m })) := by
      refine ⟨fun owner => ?_, fun r full owner => ?_⟩
      · rw [owner, endCopies_format]
      · rw [owner, endCopies_writeBack (s := { s with mail := m }) full, copiesResult_eq] <;> rfl
    have clean : { s with mail := Mail.none } = s := congrArg (fun m => { s with mail := m }) mail.symm
    have ended (ok : Bool) : copyEnds ok Mail.none (some (copyDone c ok s)) := by
      unfold copyDone
      refine ⟨fun first => ?_, fun second => ?_⟩
      · rw [if_pos first]
        exact congrArg some (congrArg (fun u : State => { goes _ with mail := u.mail }) clean.symm)
      · rw [if_neg second]
        have same := reported ok Mail.none
        rwa [clean] at same
    have failed : fails Mail.none (some (copyAttemptFails c s)) := by
      unfold copyAttemptFails
      refine ⟨fun few => ?_, fun last => ?_⟩
      · rw [if_neg (by exact Nat.not_le.mpr few)]
        exact congrArg some (congrArg (fun u : State => { goes _ with mail := u.mail }) clean.symm)
      · rw [if_pos (by exact last)]
        exact ended false
    have passed : passes (some (copyPassGoesOn c s)) := by
      unfold copyPassGoesOn
      refine ⟨fun more => ?_, fun last writing => ?_, fun last reading => ?_⟩
      · rw [if_pos (by exact Nat.not_le.mp more)]
      · rw [if_neg (by exact Nat.not_lt.mpr last), writing, if_neg nofun]
      · rw [if_neg (by exact Nat.not_lt.mpr last), if_pos reading]
        exact ended true
    have padded : data = imageSector s.record.image c.sector := (rightpad_zero _ _).symm
    have lost : ∀ x : FaultClass, x ∉ classes13 → x ∉ seekFailures → x.losesHeads = false := by
      intro x
      cases x <;> decide
    refine ⟨fun n idle => ?_, ?_, ?_, ?_, ?_, ?_, ?_, ?_, ?_, ?_, ?_, ?_⟩
    · rw [sectorStart_of_copies work idle]
      refine ⟨copyStart_pass, fun ⟨targets, turn⟩ writing open' => ?_, fun ⟨targets, turn⟩ writing shut => ?_,
        fun ⟨targets, turn⟩ reading there locked => ?_, fun ⟨targets, turn⟩ reading away => ?_⟩
      all_goals rw [copyStart_turn work targets turn, copySectorStart]
      · rw [if_neg (by rw [CopyWrite.begun, writing]; nofun), if_pos (by exact (copyGate_iff 0 s).mpr open'), padded]
        rfl
      · rw [if_neg (by rw [CopyWrite.begun, writing]; nofun), if_neg (by exact fun h => shut ((copyGate_iff 0 s).mp h))]
        rfl
      · rw [if_pos (by exact reading), if_pos (by exact Bool.and_eq_true_iff.mpr ⟨there, locked⟩)]
        rfl
      · have lost : ¬ (onTarget 0 0 s && s.clk.locked) = true := by
          rw [Bool.and_eq_true_iff]
          rintro ⟨there, locked⟩
          cases away with
          | inl off => exact Bool.false_ne_true (off.symm.trans there)
          | inr free => exact Bool.false_ne_true (free.symm.trans locked)
        rw [if_pos (by exact reading), if_neg (by exact lost)]
        rfl
    · intro ⟨targets, flies⟩ fresh
      rw [advanceCopies_sector work mail targets flies, copySectorEnds, if_neg (by rw [fresh]; nofun)]
      exact passed
    · intro ⟨targets, flies⟩ fresh
      rw [advanceCopies_sector work mail targets flies, copySectorEnds, if_neg (by rw [fresh]; nofun)]
      rw [if_pos padded]
      exact passed
    · intro d ⟨targets, flies⟩ fresh other
      rw [advanceCopies_sector work mail targets flies, copySectorEnds, if_neg (by rw [fresh]; nofun)]
      rw [if_neg (padded ▸ other)]
      exact failed
    · intro ⟨targets, flies⟩ fresh
      rw [advanceCopies_sector work mail targets flies, copySectorEnds, if_neg (by rw [fresh]; nofun)]
      exact failed
    · intro ⟨targets, flies⟩ fresh
      constructor <;> rw [advanceCopies_sector work mail targets flies, copySectorEnds, if_neg (by rw [fresh]; nofun)]
    · intro r ⟨targets, flies⟩ late
      rw [advanceCopies_sector work mail targets flies, copySectorEnds.eq_def, if_pos late]
      exact failed
    · intro x high low
      rw [advanceCopies_spoilt work mail (lost x high low)]
      exact failed
    · intro x loses none'
      rw [advanceCopies_lost work mail (losesHeads_of loses), abandonCopies_eq none']
      exact reported false { Mail.none with note := some x }
    · intro targets gone none'
      have same := reported false Mail.none
      rw [advanceCopies_gone work mail targets gone, abandonCopies_eq none']
      rwa [clean] at same
    · intro o targets first fault
      have same := reported false Mail.none
      rw [advanceCopies_told work mail targets fault, abandonCopies_eq (.inr first)]
      rwa [clean] at same
    · intro targets first
      have same := reported false Mail.none
      rw [clean] at same
      refine ⟨fun parked => ?_, fun away => ?_⟩
      · rw [advance_of_copies ((advanceCopies_waits work mail targets).trans (if_pos parked)),
          abandonCopies_eq (.inr first)]
        exact same
      · rw [advanceCopies_waits work mail targets, if_neg away]

end Sys2Proof

/-! ## Proofs: the stages of the record load -/

namespace Sys2Proof.Machine

/-- A transition that another one follows, and nothing after it. -/
theorem settle_step {s t u : State} (h : advance s = some t) (k : advance t = some u) (l : advance u = none) :
    settle s = settle t := by
  rw [settle_of_two h k l, settle_of_one k l]

/-- An item that has ended leaves nothing to work out. -/
theorem advance_finish {o : OutcomeCode} {s : State} (load : s.record.load = none)
    (copy : s.record.copyWrite = none) : advance (finish o s) = none := by
  cases item : s.cu.slot.item
  case command e =>
    rw [finish_of_command item]
    exact advance_ended load copy _ _ _
  all_goals
    rw [finish_of_internal (by rw [item]; nofun)]
    exact advance_finished load copy

/-- The load has ended, and its result has come to the item. -/
def loadOver (m : Mail) (s : State) : State := { s with record := { s.record with load := none }, mail := m }

section
variable {s : State} {l : Load} (work : s.record.load = some l) (copy : s.record.copyWrite = none)
include work copy

theorem advance_load_noted (mail : s.mail = Mail.none) (c : FaultClass) :
    advance (noted c s) = some (loadOver { Mail.none with note := some c, load := some .failed } s) := by
  unfold advance advanceCopies advanceLoad noted
  dsimp only
  rw [copy, work]
  cases s
  subst mail
  rfl

theorem advance_load_aborted (mail : s.mail = Mail.none) (abort : s.cu.slot.abortPending = true)
    (idle : s.chan.op = none) : advance s = some (loadOver { Mail.none with load := some .stopped } s) := by
  unfold advance advanceCopies advanceLoad
  rw [copy, work]
  dsimp only
  rw [abort, idle]
  cases s
  subst mail
  rfl

variable (mail : s.mail = Mail.none) (free : s.cu.slot.abortPending = false)
include mail free

theorem advance_load_told (waits : l.waiting = true) {o : TargetOutcome} (fails : o ≠ .complete) :
    advance (tell o s) = some (loadOver { Mail.none with load := some .failed } s) := by
  unfold advance advanceCopies advanceLoad Machine.tell
  dsimp only
  rw [copy, work]
  dsimp only
  rw [free, waits]
  cases s
  subst mail
  cases o
  case complete => exact absurd rfl fails
  all_goals rfl

theorem advance_load_complete (waits : l.waiting = true) :
    advance (tell .complete s)
      = some { s with record := { s.record with load := some { l with waiting := false } } } := by
  unfold advance advanceCopies advanceLoad Machine.tell
  dsimp only
  rw [copy, work]
  dsimp only
  rw [free, waits]
  cases s
  subst mail
  rfl

theorem advance_load_gone (reads : l.waiting = false) (gone : headsGone s = true) :
    advance s = some (loadOver { Mail.none with load := some .failed } s) := by
  unfold advance advanceCopies advanceLoad
  rw [copy, work]
  dsimp only
  rw [free, reads, gone]
  cases s
  subst mail
  rfl

theorem advance_load_sector (reads : l.waiting = false) (flies : headsGone s = false) (r : SectorResult) :
    advance (sectorIs r s) = some (match r with
      | .readOk d => loadSectorRead l d s
      | _ => loadAttemptFails l s) := by
  have near : headsGone (sectorIs r s) = false := flies
  unfold advance advanceCopies advanceLoad
  rw [show (sectorIs r s).record.copyWrite = none from copy, show (sectorIs r s).record.load = some l from work]
  dsimp only
  rw [show (sectorIs r s).cu.slot.abortPending = false from free, reads, near]
  cases s
  subst mail
  cases r <;> rfl

end

/-- A load that waits for its target, or for its sector, has nothing to take. -/
theorem advance_loading {s : State} {l : Load} (work : s.record.load = some l) (copy : s.record.copyWrite = none)
    (mail : s.mail = Mail.none) (busy : s.cu.slot.abortPending = false ∨ s.chan.op ≠ none)
    (still : l.waiting = true ∨ headsGone s = false)
    (item : s.cu.slot.work = .startLoad ∨ s.cu.slot.work = .reloadLoad) : advance s = none := by
  have waits : advanceItem s = none := by
    unfold advanceItem
    cases item with
    | inl h => rw [h]; simp only [advanceStart, h, mail, Mail.none]
    | inr h => rw [h]; simp only [advanceReload, h, mail, Mail.none]
  have abort : (s.cu.slot.abortPending && s.chan.op.isNone) = false := by
    cases busy with
    | inl free => rw [free]; rfl
    | inr op => rw [Option.isNone_eq_false_iff.mpr (Option.isSome_iff_ne_none.mpr op)]; exact Bool.and_false _
  unfold advance advanceCopies advanceLoad
  rw [copy, work, mail]
  dsimp only [Mail.none]
  rw [abort]
  cases waiting : l.waiting
  · have flies : headsGone s = false := still.resolve_left (by rw [waiting]; nofun)
    rw [flies]
    exact waits
  · exact waits

/-- The choice does not bring a cartridge back to PRESENT (R83). -/
theorem choiceFinding_ne_present (n : CartType) (r0 r1 : CopyReport) (c0 c1 : Option RecordCopy) :
    (choiceFinding n r0 r1 c0 c1).1 ≠ .present := by
  unfold choiceFinding
  split
  · split
    · nofun
    · split <;> nofun
  · split <;> nofun

/-! ### A sector of a copy -/

/-- The image store once a sector has been read into it (R79). -/
def readImage (l : Load) (d : List Byte) (s : State) : List Byte :=
  (s.record.image.take (512 * l.sector) ++ d).take 3248

/-- A sector has been read into the image store (R79). -/
def imaged (l : Load) (d : List Byte) (s : State) : State :=
  { s with record := { s.record with image := readImage l d s } }

theorem loadSectorRead_found {l : Load} {d : List Byte} {s : State} {rep : CopyReport}
    (bad : (if l.sector = 0 then headerFinding (readImage l d s) else none) = some rep) :
    loadSectorRead l d s = copyClassified l rep none (imaged l d s) := by
  unfold loadSectorRead
  dsimp only
  split
  · rename_i rep' found
    cases Option.some.inj (found.symm.trans bad)
    rfl
  · rename_i none'
    exact absurd (none'.symm.trans bad) nofun

theorem loadSectorRead_good {l : Load} {d : List Byte} {s : State}
    (good : (if l.sector = 0 then headerFinding (readImage l d s) else none) = none) :
    loadSectorRead l d s = if l.sector + 1 < (word16At (readImage l d s) 12 + 511) / 512 then
        loadSector { l with sector := l.sector + 1, attempt := 1, firstPass := false } (imaged l d s)
      else copyClassified l (finalFinding (readImage l d s)).1 (finalFinding (readImage l d s)).2 (imaged l d s) := by
  unfold loadSectorRead
  dsimp only
  split
  · rename_i rep found
    exact absurd (found.symm.trans good) nofun
  · rfl

/-! ### The end of a load -/

section
variable {i : Item} {w : Work} {s v : State} (code : ∀ e, i = .command e → e.code = 0x10#8)
    (item : s.cu.slot.item = i) (stage : s.cu.slot.work = w) (mail : s.mail = Mail.none)
    (copy : s.record.copyWrite = none)
include code item stage mail copy

/-- A load that ends without a choice ends its start or its reload (R84, R86, R87). -/
theorem settle_load_failed {m : Mail} {r : LoadResult} {o : OutcomeCode} (ends : advance v = some (loadOver m s))
    (result : m.load = some r) (gives : r = .failed ∧ o = .faulted ∨ r = .stopped ∧ o = .aborted) :
    (w = .startLoad → settle v = itemEnded i o [1#8] (stopRequest
      { s with record := { s.record with load := none }, cart := { s.cart with state := .present } }))
    ∧ (w = .reloadLoad → settle v = itemEnded i o [byte s.cart.state.code]
      { s with record := { s.record with load := none } }) := by
  let u : State := { s with record := { s.record with load := none } }
  have at' : Stage i w u := ⟨item, stage, mail, rfl, copy⟩
  constructor <;> intro kind <;> subst kind
  · have next : advanceItem { u with mail := m } = some (endStart o { u with mail := m }) := by
      simp only [advanceItem, u, stage, advanceStart, result]
      obtain ⟨rfl, rfl⟩ | ⟨rfl, rfl⟩ := gives <;> rfl
    have done : advance (endStart o { u with mail := m }) = none :=
      advance_finish ((congrArg Record.load (stopRequest_record _)).trans rfl)
        ((congrArg Record.copyWrite (stopRequest_record _)).trans copy)
    rw [settle_step ends ((at'.advance_eq m).trans next) done]
    exact at'.settle_endStart code next
  · have next : advanceItem { u with mail := m } = some (finish o { u with mail := m }) := by
      simp only [advanceItem, u, stage, advanceReload, result]
      obtain ⟨rfl, rfl⟩ | ⟨rfl, rfl⟩ := gives <;> rfl
    rw [settle_step ends ((at'.advance_eq m).trans next) (advance_finish rfl copy)]
    exact at'.settle_finish next fun e h => resultFields_spinUp _ (code e h)

/-- The load report that the choice leaves (R82). -/
def chosenReport (r0 r1 : CopyReport) (c0 c1 : Option RecordCopy) : LoadReport :=
  { copy0 := r0, copy1 := r1, chosen := (chooseCopy c0 c1).map Prod.fst }

theorem settle_load_chosen {r0 r1 : CopyReport} {c0 c1 : Option RecordCopy} {n : CartType}
    (type : s.cart.type = some n)
    (ends : advance v = some (loadOver { Mail.none with load := some (.chosen r0 r1 c0 c1) } s))
    (kind : w = .startLoad ∨ w = .reloadLoad ∧ chooseCopy c0 c1 ≠ none) :
    settle v = itemEnded i
      (choiceOutcome (choiceFinding n r0 r1 c0 c1).1 (choiceFinding n r0 r1 c0 c1).2.2)
      [byte (choiceFinding n r0 r1 c0 c1).1.code]
      { s with
        cart := { s.cart with state := (choiceFinding n r0 r1 c0 c1).1 }
        cu := { s.cu with pendAuto := false }
        record := { s.record with
          load := none, report := chosenReport r0 r1 c0 c1, session := (choiceFinding n r0 r1 c0 c1).2.1
          copyStatus := (choiceFinding n r0 r1 c0 c1).2.2, unsaved := false } } := by
  let m : Mail := { Mail.none with load := some (.chosen r0 r1 c0 c1) }
  have result : m.load = some (.chosen r0 r1 c0 c1) := rfl
  let f := choiceFinding n r0 r1 c0 c1
  let t : State := { s with
    cart := { s.cart with state := f.1 }
    cu := { s.cu with pendAuto := false }
    record := { s.record with
      load := none, report := chosenReport r0 r1 c0 c1, session := f.2.1, copyStatus := f.2.2, unsaved := false } }
  have at' : Stage i w { s with record := { s.record with load := none } } := ⟨item, stage, mail, rfl, copy⟩
  have applied : applyChoice r0 r1 c0 c1 (loadOver m s) = { t with mail := m } := by
    unfold applyChoice loadOver setCart
    dsimp only
    have notch : s.cart.type.getD .a = n := by rw [type]; rfl
    rw [notch, if_neg (by exact choiceFinding_ne_present n r0 r1 c0 c1)]
    rfl
  have next : advanceItem (loadOver m s) = some (finish (choiceOutcome f.1 f.2.2) { t with mail := m }) := by
    obtain rfl | ⟨rfl, chosen⟩ := kind
    · simp only [advanceItem, loadOver, stage, advanceStart, result]
      exact congrArg some (congrArg (fun u => finish (choiceOutcome u.cart.state u.record.copyStatus) u) applied)
    · obtain ⟨x, some'⟩ := Option.ne_none_iff_exists'.mp chosen
      simp only [advanceItem, loadOver, stage, advanceReload, result, some']
      exact congrArg some (congrArg (fun u => finish (choiceOutcome u.cart.state u.record.copyStatus) u) applied)
  have step := (at'.advance_eq m).trans next
  rw [settle_step ends step (advance_finish rfl copy)]
  exact (settle_of_finish (s := loadOver m s) step item rfl copy fun e h =>
    resultFields_spinUp _ (code e h)).trans (itemEnded_mail i _ _ m t)

theorem settle_reload_damaged {r0 r1 : CopyReport} {c0 c1 : Option RecordCopy}
    (ends : advance v = some (loadOver { Mail.none with load := some (.chosen r0 r1 c0 c1) } s))
    (kind : w = .reloadLoad) (chosen : chooseCopy c0 c1 = none) :
    settle v = itemEnded i .recordDamaged [byte s.cart.state.code]
      { s with record := { s.record with load := none, report := chosenReport r0 r1 c0 c1 } } := by
  subst kind
  let m : Mail := { Mail.none with load := some (.chosen r0 r1 c0 c1) }
  have result : m.load = some (.chosen r0 r1 c0 c1) := rfl
  let t : State := { s with record := { s.record with load := none, report := chosenReport r0 r1 c0 c1 } }
  have at' : Stage i .reloadLoad { s with record := { s.record with load := none } } :=
    ⟨item, stage, mail, rfl, copy⟩
  have next : advanceItem (loadOver m s) = some (finish .recordDamaged { t with mail := m }) := by
    have report : chosenReport r0 r1 c0 c1 = { copy0 := r0, copy1 := r1, chosen := none } := by
      rw [chosenReport, chosen]
      rfl
    simp only [advanceItem, loadOver, stage, advanceReload, result, chosen, t, report]
    rfl
  have step := (at'.advance_eq m).trans next
  rw [settle_step ends step (advance_finish rfl copy)]
  exact (settle_of_finish (s := loadOver m s) step item rfl copy fun e h =>
    resultFields_spinUp _ (code e h)).trans (itemEnded_mail i _ _ m t)

end

end Sys2Proof.Machine

namespace Sys2Proof

open Machine

/-- Settles O56: the load's own transition, and then that of the start or reload. -/
theorem loadStages : Obligations.LoadStages := by
  intro i w l s code item stage mail copy work first again free flying with' none' failed classified
  have fails {v : State} {m : Mail} {r : LoadResult} {o : OutcomeCode} (ends : advance v = some (loadOver m s))
      (result : m.load = some r) (gives : r = .failed ∧ o = .faulted ∨ r = .stopped ∧ o = .aborted) :
      failed o (settle v) := settle_load_failed code item stage mail copy ends result gives
  have classify {image : List Byte} {rep : CopyReport} {c : Option RecordCopy} {v : State}
      (kind : first ∨ again) (calm : free) (reads : l.waiting = false) (flies : flying) (plain : l.offset = 0)
      (level : Level s)
      (step : advance v = some (copyClassified l rep c { s with record := { s.record with image } })) :
      classified image rep c (settle v) := by
    let seen : State := { s with record := { s.record with image } }
    refine ⟨fun first => ?_, fun n type second chosen => ?_, fun second re chosen => ?_⟩
    · rw [copyClassified, if_pos first, loadSector, if_pos plain] at step
      rw [settle_of_one step (advance_loading rfl copy mail (.inl calm) (.inr flies) (stage ▸ kind)), ← mail]
    · have ends : advance v = some (loadOver { Mail.none with load := some (.chosen l.report0 rep l.copy0 c) }
          seen) := by
        rw [step, copyClassified, if_neg (by rw [second]; nofun), restoreOffset_of_level (by exact level), mail]
        rfl
      exact settle_load_chosen (s := seen) code item stage mail copy type ends
        (kind.elim .inl fun re => chosen.imp_right fun some' => ⟨re, some'⟩)
    · have ends : advance v = some (loadOver { Mail.none with load := some (.chosen l.report0 rep l.copy0 c) }
          seen) := by
        rw [step, copyClassified, if_neg (by rw [second]; nofun), restoreOffset_of_level (by exact level), mail]
        rfl
      exact settle_reload_damaged (s := seen) code item stage mail copy ends re chosen
  refine ⟨fun n idle => ?_, fun kind calm reads flies plain level => ⟨fun d => ?_, fun r bad => ?_⟩,
    fun kind calm waits flies => ?_, fun o calm waits other => ?_, fun calm reads gone => ?_, fun c => ?_,
    fun abort idle => ?_, fun kind busy still => ?_⟩
  · have starts : sectorStart n s = loadStart l n s := by
      unfold sectorStart
      rw [idle, copy, work]
      rfl
    refine ⟨fun pass => ?_, fun ⟨reads, turn, there⟩ locked => ?_, fun ⟨reads, turn, there⟩ free' one first => ?_,
      fun ⟨reads, turn, there⟩ free' later few same => ?_⟩
    all_goals rw [starts, loadStart]
    · have miss : l.waiting = true ∨ n ≠ l.sector ∨ onTarget 0 l.offset s = false := by
        by_contra none'
        rw [not_or, not_or, not_not, Bool.not_eq_true, Bool.not_eq_false] at none'
        exact pass none'
      rw [if_pos miss]
    all_goals rw [if_neg (by rw [reads, ← turn, there]; simp)]
    · rw [if_pos locked]
      rfl
    · rw [if_neg (by rw [free']; nofun), if_pos ⟨one, first⟩]
    · have passed : ¬ (l.attempt = 1 ∧ l.firstPass = false) := by
        rintro ⟨one, first⟩
        rw [one, first] at later
        simp at later
      rw [if_neg (by rw [free']; nofun), if_neg passed, loadAttemptFails, if_neg (Nat.not_lt.mpr few), if_pos same]
  · have step := advance_load_sector work copy mail calm reads flies (.readOk d)
    dsimp only at step
    refine ⟨fun good long => ?_, fun rep finding => ?_, fun good short => ?_⟩
    · rw [loadSectorRead_good (by exact good), if_pos (by exact long), loadSector, if_pos (by exact plain)] at step
      rw [settle_of_one step (advance_loading rfl copy mail (.inl calm) (.inr flies) (stage ▸ kind)), ← mail]
      rfl
    · rw [loadSectorRead_found (by exact finding)] at step
      exact classify kind calm reads flies plain level step
    · rw [loadSectorRead_good (by exact good), if_neg (by exact short)] at step
      exact classify kind calm reads flies plain level step
  · have step : advance (sectorIs r s) = some (loadAttemptFails l s) := by
      rw [advance_load_sector work copy mail calm reads flies r]
      cases r
      case readOk d => exact absurd rfl (bad d)
      all_goals rfl
    unfold loadAttemptFails at step
    refine ⟨fun last first => ?_, fun last later => ?_, fun few same => ?_, fun few other follows target idle => ?_⟩
    · rw [if_pos last, if_pos first] at step
      exact classify kind calm reads flies plain level step
    · rw [if_pos last, if_neg later] at step
      exact classify kind calm reads flies plain level step
    · rw [if_neg (Nat.not_lt.mpr few), if_pos (same.trans plain.symm)] at step
      rw [settle_of_one step (advance_loading rfl copy mail (.inl calm) (.inr flies) (stage ▸ kind)), ← mail]
    · rw [if_neg (Nat.not_lt.mpr few), if_neg (plain ▸ other), requestTarget_following_away (by exact congrArg Mail.told mail)
        (by exact follows) (by exact target ▸ fun h => other (congrArg Target.offset (Option.some.inj h)).symm),
        depart_of_none (by exact idle)] at step
      rw [settle_of_one step (advance_loading rfl copy mail (.inl calm) (.inl rfl) (stage ▸ kind))]
      exact ⟨rfl, rfl, rfl⟩
  · rw [settle_of_one (advance_load_complete work copy mail calm waits)
      (advance_loading rfl copy mail (.inl calm) (.inr flies) (stage ▸ kind)), ← mail]
  · exact fails (advance_load_told work copy mail calm waits other) rfl (.inl ⟨rfl, rfl⟩)
  · exact fails (advance_load_gone work copy mail calm reads gone) rfl (.inl ⟨rfl, rfl⟩)
  · exact fails (advance_load_noted work copy mail c) rfl (.inl ⟨rfl, rfl⟩)
  · exact fails (advance_load_aborted work copy mail (Bool.eq_true_of_not_eq_false abort) idle) rfl (.inr ⟨rfl, rfl⟩)
  · rw [settle_of_done (advance_loading work copy mail (.inr busy) still (stage ▸ kind)), ← mail]

end Sys2Proof

/-! ## Proofs: the stages of REASSIGN -/

namespace Sys2Proof.Machine

/-! ### A write-back from FOLLOWING -/

theorem seekState_ne_parked (r : Int) : seekState r ≠ .parked := by
  unfold seekState
  split <;> nofun

/-- What a write-back that has just begun leaves as it was, with nothing yet to take (R89). -/
structure BackBegun (s t : State) : Prop where
  chan : t.chan = s.chan
  cu : t.cu = s.cu
  fmt : t.fmt = s.fmt
  mail : t.mail = s.mail
  load : t.record.load = s.record.load
  session : t.record.session = s.record.session
  copies : t.record.copyWrite ≠ none
  waits : advanceCopies t = none

theorem beginWriteBack_begun {s : State} {n : Session} (full : s.record.session = .full n)
    (writable : s.cart.wp = false) (follows : s.pos.state = .following) (idle : s.chan.op = none)
    (mail : s.mail = Mail.none) : BackBegun s (beginWriteBack s) := by
  have flies : headsGone s = false := headsGone_of_flying (by rw [follows]; rfl)
  unfold beginWriteBack
  rw [writable, if_neg nofun]
  cases there : onTarget 0 0 s
  · have away : s.pos.target ≠ some { cyl := 0, offset := 0 } := by
      intro target
      unfold onTarget at there
      rw [follows, target] at there
      exact absurd there nofun
    rw [if_neg nofun, requestTarget_following_away (by exact congrArg Mail.told mail) (by exact follows)
      (by exact away), depart_of_none (by exact idle)]
    refine ⟨rfl, rfl, rfl, rfl, rfl, rfl, nofun, ?_⟩
    unfold advanceCopies newSeek
    dsimp only
    rw [mail]
    dsimp only [Mail.none]
    rw [if_pos rfl, if_neg (seekState_ne_parked _)]
  · rw [if_pos rfl, beginSessionCopies, fullSession, full]
    refine ⟨rfl, rfl, rfl, rfl, rfl, rfl, nofun, ?_⟩
    unfold advanceCopies beginCopies
    dsimp only
    rw [mail, if_neg nofun, if_neg (by exact fun h => Bool.false_ne_true (flies.symm.trans h))]
    rfl

theorem BackBegun.advance {s t : State} (h : BackBegun s t) (load : s.record.load = none)
    (item : advanceItem t = none) : advance t = none := by
  have loads : advanceLoad t = none := by simp only [advanceLoad, h.load.trans load]
  simp only [Machine.advance, h.waits, loads, item]

/-! ### The transition of each answer -/

/-- An abort does not reach a REASSIGN, or not any more (R106). -/
abbrev Reassign.Free (r : Reassign) : Prop := r.abortPending = false ∨ r.allocated = true

theorem Reassign.Free.not_aborts {r : Reassign} (h : r.Free) (p : Prop) :
    ¬ (r.abortPending = true ∧ r.allocated = false ∧ p) := by
  rintro ⟨abort, early, -⟩
  cases h with
  | inl free => exact Bool.false_ne_true (free.symm.trans abort)
  | inr begun => exact Bool.false_ne_true (early.symm.trans begun)

/-- A REASSIGN that waits for its answer has nothing to take. -/
theorem advance_reassigning {s : State} {r : Reassign} (stage : s.cu.slot.work = .reassign)
    (load : s.record.load = none) (copy : s.record.copyWrite = none) (mail : s.mail = Mail.none)
    (work : s.chan.reassign = some r) (free : r.phase = .save ∨ r.Free)
    (slow : r.phase = .spin → s.spin.state ≠ .atSpeed) : advance s = none := by
  rw [advance_item load copy, advanceItem_reassign stage]
  unfold advanceReassign
  rw [work]
  dsimp only
  rw [mail]
  by_cases save : r.phase = .save
  · rw [if_pos save]
    rfl
  · rw [if_neg save]
    dsimp only [Mail.none]
    rw [if_neg ((free.resolve_left save).not_aborts _)]
    cases phase : r.phase
    case spin => exact if_neg (slow phase)
    all_goals rfl

section
variable {i : Item} {r : Reassign} {s : State} (stage : Stage i .reassign s) (work : s.chan.reassign = some r)
include stage work

theorem Stage.reassign_noted (early : r.phase ≠ .save) (c : FaultClass) :
    advance (noted c s) = some (reassignFault r c (noted c s)) := by
  obtain ⟨-, item, mail, load, copy⟩ := stage
  rw [advance_item (by exact load) (by exact copy), advanceItem_reassign (by exact item)]
  unfold advanceReassign
  rw [show (noted c s).chan.reassign = some r from work]
  exact if_neg early

theorem Stage.reassign_saved (save : r.phase = .save) {m : Mail} {res : RecordResult} (saved : m.saved = some res) :
    advance { s with mail := m } = some (finish (reassignOutcome r.outcome res { s with mail := m })
      (setReassign { r with result := res } { s with mail := m })) := by
  obtain ⟨-, item, mail, load, copy⟩ := stage
  rw [advance_item (by exact load) (by exact copy), advanceItem_reassign (by exact item)]
  unfold advanceReassign
  dsimp only
  rw [work]
  dsimp only
  rw [if_pos save, saved]

theorem Stage.reassign_aborted (early : r.phase ≠ .save) (abort : r.abortPending = true)
    (fresh : r.allocated = false) (idle : s.chan.op = none) : advance s = some (endReassignEarly .aborted s) := by
  obtain ⟨-, item, mail, load, copy⟩ := stage
  rw [advance_item load copy, advanceItem_reassign item]
  unfold advanceReassign
  rw [work]
  dsimp only
  rw [if_neg early, mail]
  exact if_pos ⟨abort, fresh, idle⟩

variable (free : r.abortPending = false ∨ r.allocated = true)
include free

theorem Stage.reassign_sector (early : r.phase ≠ .save) (x : SectorResult) :
    advance (sectorIs x s) = some (reassignSectorEnds r x s) := by
  obtain ⟨-, item, mail, load, copy⟩ := stage
  have taken : dropSector (sectorIs x s) = s := by
    cases s
    subst mail
    rfl
  have note : (sectorIs x s).mail.note = none := congrArg Mail.note mail
  rw [advance_item (by exact load) (by exact copy), advanceItem_reassign (by exact item)]
  unfold advanceReassign
  rw [show (sectorIs x s).chan.reassign = some r from work]
  dsimp only
  rw [if_neg early, note, taken]
  exact if_neg (Reassign.Free.not_aborts free _)

theorem Stage.reassign_spins (spin : r.phase = .spin) (turns : s.spin.state = .atSpeed) :
    advance s = some (beginReadStage r s) := by
  obtain ⟨-, item, mail, load, copy⟩ := stage
  rw [advance_item load copy, advanceItem_reassign item]
  unfold advanceReassign
  rw [work]
  dsimp only
  rw [if_neg (by rw [spin]; nofun), mail]
  dsimp only [Mail.none]
  rw [if_neg (Reassign.Free.not_aborts free _), spin]
  exact if_pos turns

theorem Stage.reassign_read_told (target : r.phase = .readTarget) (o : TargetOutcome) :
    advance (tell o s) = some (match o with
      | .complete => setReassign { r with phase := .read } s
      | .notLoaded .faultHeld => endReassignEarly .faultPending (tell o s)
      | _ => endReassignEarly .faulted (tell o s)) := by
  obtain ⟨-, item, mail, load, copy⟩ := stage
  have taken : dropTold (tell .complete s) = s := dropTold_tell (congrArg Mail.told mail) .complete
  have note : (tell o s).mail.note = none := congrArg Mail.note mail
  have sector : (tell o s).mail.sector = none := congrArg Mail.sector mail
  rw [advance_item (by exact load) (by exact copy), advanceItem_reassign (by exact item)]
  unfold advanceReassign
  rw [show (tell o s).chan.reassign = some r from work]
  dsimp only
  rw [if_neg (by rw [target]; nofun), note]
  dsimp only
  rw [if_neg (Reassign.Free.not_aborts free _), sector, target]
  cases o
  case complete => exact congrArg (fun u => some (setReassign { r with phase := .read } u)) taken
  case notLoaded why => cases why <;> rfl
  all_goals rfl

theorem Stage.reassign_write_told (target : r.phase = .writeTarget) (o : TargetOutcome) :
    advance (tell o s) = some (if o = .complete then startGateWait (setReassign { r with phase := .write } s)
      else writeStageEnds r .faulted (tell o s)) := by
  obtain ⟨-, item, mail, load, copy⟩ := stage
  have taken : dropTold (tell .complete s) = s := dropTold_tell (congrArg Mail.told mail) .complete
  have note : (tell o s).mail.note = none := congrArg Mail.note mail
  have sector : (tell o s).mail.sector = none := congrArg Mail.sector mail
  rw [advance_item (by exact load) (by exact copy), advanceItem_reassign (by exact item)]
  unfold advanceReassign
  rw [show (tell o s).chan.reassign = some r from work]
  dsimp only
  rw [if_neg (by rw [target]; nofun), note]
  dsimp only
  rw [if_neg (Reassign.Free.not_aborts free _), sector, target]
  cases o
  case complete => exact congrArg (fun u => some (startGateWait (setReassign { r with phase := .write } u))) taken
  all_goals rfl

end

/-! ### The allocation and the end of the write stage -/

/-- The context once a spare has been given to the block (R104). -/
def Reassign.given (r : Reassign) (k : Nat) (p : Place) (ph : ReassignPhase) : Reassign :=
  { r with allocated := true, spare := some k, offset := 0, place := p, phase := ph }

/-- The write stage is at its spare's track, and its gate wait runs (R104). -/
def sparesAt (g : Reassign) (n : Session) (zones : List Zone) (s : State) : State :=
  { s with
    record := { s.record with session := .full { n with zones }, unsaved := true }
    chan := { s.chan with reassign := some g, gateWait := some (s.set.active.timeout * 1000000) } }

/-- The write stage seeks its spare's track (R104). -/
def sparesAway (g : Reassign) (n : Session) (zones : List Zone) (cyl : Nat) (s : State) : State :=
  newSeek { cyl, offset := 0 } (some .channel) { s with
    record := { s.record with session := .full { n with zones }, unsaved := true }
    chan := { s.chan with reassign := some g, gateWait := none } }

section
variable {r : Reassign} {s : State} {n : Session} (full : s.record.session = .full n)
include full

theorem sessionTable_full : sessionTable s = (n.type, n.zones) := sessionTable_of_full (by rw [fullSession, full])

variable {k : Nat} {zones : List Zone} (moved : reassignLba s.cart.wp n.type n.zones r.lba = .moved k zones)
include moved

theorem allocateSpare_there (there : onTarget (slotPlace (r.lba / n.type.userSlots) (n.type.userSlots + k)).cyl 0 s = true) :
    allocateSpare r s = sparesAt
      (r.given k (slotPlace (r.lba / n.type.userSlots) (n.type.userSlots + k)) .write) n zones s := by
  have table := sessionTable_full full
  unfold allocateSpare
  rw [table]
  dsimp only
  rw [moved]
  dsimp only
  rw [changeZones, full]
  dsimp only
  rw [if_pos (by exact there)]
  rfl

theorem allocateSpare_away (mail : s.mail = Mail.none) (follows : s.pos.state = .following) (idle : s.chan.op = none)
    (away : onTarget (slotPlace (r.lba / n.type.userSlots) (n.type.userSlots + k)).cyl 0 s = false) :
    allocateSpare r s = sparesAway
      (r.given k (slotPlace (r.lba / n.type.userSlots) (n.type.userSlots + k)) .writeTarget) n zones
      (slotPlace (r.lba / n.type.userSlots) (n.type.userSlots + k)).cyl s := by
  have table := sessionTable_full full
  have off : s.pos.target ≠ some { cyl := (slotPlace (r.lba / n.type.userSlots) (n.type.userSlots + k)).cyl, offset := 0 } := by
    intro target
    unfold onTarget at away
    rw [follows, target] at away
    simp at away
  unfold allocateSpare
  rw [table]
  dsimp only
  rw [moved]
  dsimp only
  rw [changeZones, full]
  dsimp only
  rw [if_neg (by exact fun h => Bool.false_ne_true (away.symm.trans h)),
    requestTarget_following_away (by exact congrArg Mail.told mail) (by exact follows) (by exact off),
    depart_of_none (by exact idle)]
  rfl

end

theorem writeGate_iff (cyl : Nat) (s : State) : writeGate cyl s = true ↔
    onTarget cyl 0 s = true ∧ s.clk.locked = true ∧ s.spin.state = .atSpeed ∧ s.spin.deviating = false
    ∧ s.cart.wp = false ∧ (s.cart.state = .ready ∨ s.fmt ≠ none) := by
  simp [writeGate, copyGate, and_assoc, Option.isSome_iff_ne_none]

theorem startGateWait_eq (s : State) : startGateWait s = { s with chan := { s.chan with
    gateWait := if s.chan.gateWait.isSome then s.chan.gateWait else some (s.set.active.timeout * 1000000) } } := by
  unfold startGateWait
  split
  · rename_i t runs
    rw [runs]
    exact congrArg (fun w => { s with chan := { s.chan with gateWait := w } }) runs
  · rename_i still
    rw [still]
    rfl

theorem not_reads {cyl : Nat} {offset : Int} {s : State} (miss : onTarget cyl offset s = false ∨ s.clk.locked = false) :
    ¬ (onTarget cyl offset s && s.clk.locked) = true := by
  rw [Bool.and_eq_true_iff]
  rintro ⟨there, locked⟩
  cases miss with
  | inl off => exact Bool.false_ne_true (off.symm.trans there)
  | inr free => exact Bool.false_ne_true (free.symm.trans locked)

theorem isClass13_of_not {c : FaultClass} (h : c ∉ classes13) : c.isClass13 = false := by
  revert h
  cases c <;> decide

theorem isClass13_of_low {c : FaultClass} (h : c ∈ seekFailures) : c.isClass13 = false := by
  revert h
  cases c <;> decide

section
variable {r : Reassign} {s : State}

theorem reassignEnd_untold (told : s.mail.told = none) (c : FaultClass) : reassignEnd c s = endOutcome c :=
  if_neg (by rw [told]; nofun)

theorem reassignOutcome_plain {o : OutcomeCode} {res : RecordResult} (note : s.mail.note = none) :
    reassignOutcome o res s = if o = .done then res.outcome else o := by
  unfold reassignOutcome
  rw [note]

theorem reassignOutcome_noted {o : OutcomeCode} {res : RecordResult} {c : FaultClass} (note : s.mail.note = some c)
    (told : s.mail.told = none) : reassignOutcome o res s
      = if c.isClass13 then .faulted else if o = .done then endOutcome c else o := by
  unfold reassignOutcome
  rw [note]
  dsimp only
  rw [reassignEnd_untold told]

theorem reassignSectorEnds_written (writes : r.phase = .write) : reassignSectorEnds r .written s
    = if r.timedOut then writeStageEnds r .dataTimeout s
      else setReassign { r with phase := .back } (stopGateWait s) := by
  unfold reassignSectorEnds
  rw [writes]

theorem reassignSectorEnds_cut (writes : r.phase = .write) : reassignSectorEnds r .cut s
    = if r.timedOut then writeStageEnds r .dataTimeout s else s := by
  unfold reassignSectorEnds
  rw [writes]

theorem reassignSectorEnds_back (back : r.phase = .back) {d : List Byte} : reassignSectorEnds r (.readOk d) s
    = if holdingData 0 s = some d then writeStageEnds r .done s else allocateSpare r s := by
  unfold reassignSectorEnds
  rw [back]

end

/-- A read attempt with another offset seeks it (R103, R116). -/
theorem reassignAttemptFails_other {r : Reassign} {s : State} (told : s.mail.told = none)
    (there : onTarget r.place.cyl r.offset s = true) (idle : s.chan.op = none) (few : r.attempt ≤ r.limit)
    (other : attemptOffset (r.attempt + 1) ≠ r.offset) :
    reassignAttemptFails r s = newSeek { cyl := r.place.cyl, offset := attemptOffset (r.attempt + 1) } (some .channel)
      (setReassign { r with attempt := r.attempt + 1, offset := attemptOffset (r.attempt + 1), phase := .readTarget } s) := by
  obtain ⟨follows, target⟩ := onTarget_following there
  have away : s.pos.target ≠ some { cyl := r.place.cyl, offset := attemptOffset (r.attempt + 1) } := by
    rw [target]
    exact fun h => other (congrArg Target.offset (Option.some.inj h)).symm
  rw [reassignAttemptFails, if_neg (Nat.not_lt.mpr few), if_neg other,
    requestTarget_following_away (by exact told) (by exact follows) (by exact away), depart_of_none (by exact idle)]

/-- A write stage that ends from FOLLOWING leaves its write-back begun (R104, R105). -/
theorem settle_writeStageEnds {i : Item} {r : Reassign} {o : OutcomeCode} {s v : State} {m : Mail} {n : Session}
    (stage : Stage i .reassign s) (full : s.record.session = .full n) (writable : s.cart.wp = false)
    (follows : s.pos.state = .following) (idle : s.chan.op = none)
    (quiet : { m with sector := none, told := none, note := none } = Mail.none)
    (ends : advance v = some (writeStageEnds r o { s with mail := m })) :
    (settle v).chan.reassign = some { r with outcome := o, phase := .save } ∧ (settle v).chan.gateWait = none
    ∧ (settle v).record.copyWrite ≠ none ∧ (settle v).record.session = s.record.session ∧ (settle v).cu = s.cu := by
  obtain ⟨-, item, -, load, -⟩ := stage
  let w : State := setReassign { r with outcome := o, phase := .save }
    (stopGateWait (dropRequester { s with mail := Mail.none }))
  have begun : BackBegun w (beginWriteBack w) := beginWriteBack_begun full writable follows idle rfl
  have eq : writeStageEnds r o { s with mail := m } = beginWriteBack w := by
    unfold writeStageEnds
    dsimp only
    rw [quiet]
  have saved : (beginWriteBack w).mail.saved = none := congrArg Mail.saved begun.mail
  have context : (beginWriteBack w).chan.reassign = some { r with outcome := o, phase := .save } :=
    congrArg Channel.reassign begun.chan
  have waits : advanceItem (beginWriteBack w) = none := by
    rw [advanceItem_reassign (by rw [begun.cu]; exact item)]
    unfold advanceReassign
    rw [context]
    dsimp only
    rw [if_pos rfl, saved]
  rw [eq] at ends
  rw [settle_of_one ends (begun.advance load waits)]
  refine ⟨?_, ?_, begun.copies, begun.session, begun.cu⟩
  · exact context
  · exact congrArg Channel.gateWait begun.chan

/-! ### The reply -/

/-- The result fields of a REASSIGN with this context, its record result as a byte (R106). -/
def reassignReply (r : Reassign) (res : Byte) : List Byte :=
  be32 r.lba ++ [match r.spare with
    | some k => byte k
    | none => 0xFF#8, byte ((if r.dataLost then 1 else 0) + (if r.torn then 2 else 0)), res]

theorem reassignFields_of {s : State} {r : Reassign} (work : s.chan.reassign = some r) (p : List Byte) :
    reassignFields p s = reassignReply r (byte r.result.code) := by
  unfold reassignFields reassignReply
  rw [work]
  dsimp only
  rw [List.append_assoc]
  congr 1
  cases r.spare <;> cases r.dataLost <;> cases r.torn <;> rfl

/-- A REASSIGN that ends is answered with its context (R106). -/
theorem Stage.settle_reassign {e : Entry} {r : Reassign} {s v : State} (stage : Stage (.command e) .reassign s)
    (code : e.code = 0x16#8) (work : s.chan.reassign = some r) {o : OutcomeCode} {m : Mail}
    (ends : advance v = some (finish o { s with mail := m })) :
    settle v = ended e o (reassignReply r (byte r.result.code)) s := by
  obtain ⟨item, -, -, load, copy⟩ := stage
  refine (settle_of_finish (i := .command e) ends item load copy fun e' h => ?_).trans (itemEnded_mail _ _ _ m s)
  cases h
  rw [resultFields_reassign _ code, reassignFields_of (by exact work)]

theorem Stage.settle_reassign_saved {e : Entry} {r : Reassign} {s : State} (stage : Stage (.command e) .reassign s)
    (code : e.code = 0x16#8) (work : s.chan.reassign = some r) (save : r.phase = .save) {res : RecordResult}
    {m : Mail} (saved : m.saved = some res) :
    settle { s with mail := m }
      = ended e (reassignOutcome r.outcome res { s with mail := m }) (reassignReply r (byte res.code)) s := by
  let w : State := setReassign { r with result := res } s
  have at' : Stage (.command e) .reassign w := stage
  exact (at'.settle_reassign (m := m) code rfl (stage.reassign_saved (m := m) work save saved)).trans rfl

end Sys2Proof.Machine

namespace Sys2Proof

open Machine

/-- Settles O58: each stage by the answer that it takes. -/
theorem reassignStages : Obligations.ReassignStages := by
  intro e r s n code stage work full data format to' flags fields level early begun moves saves free
  obtain ⟨item, at', mail, load, copy⟩ := id stage
  have ends {o : OutcomeCode} {m : Mail} {v : State} (step : advance v = some (finish o { s with mail := m })) :
      settle v = early o := stage.settle_reassign code work step
  have calm (flat : level) (m : Mail) : restoreOffset { s with mail := m } = { s with mail := m } :=
    restoreOffset_of_level (by exact flat)
  have same : { s with mail := Mail.none } = s := congrArg (fun m => { s with mail := m }) mail.symm
  have endsEarly {o : OutcomeCode} {m : Mail} {v : State} (flat : level)
      (step : advance v = some (endReassignEarly o { s with mail := m })) : settle v = early o :=
    ends (step.trans (by rw [endReassignEarly, calm flat m]))
  -- a state that only differs in the context waits for its answer
  have rests {g : Reassign} {v u : State} (step : advance v = some u) (slot : u.cu.slot.work = .reassign)
      (load' : u.record.load = none) (copy' : u.record.copyWrite = none) (mail' : u.mail = Mail.none)
      (work' : u.chan.reassign = some g) (free' : g.phase = .save ∨ g.Free) (slow : g.phase ≠ .spin) :
      settle v = u := by
    rw [settle_of_one step (advance_reassigning slot load' copy' mail' work' free' fun h => absurd h slow), ← mail']
  have allocated (g : Reassign) (b : BufSlot) (lba : g.lba = r.lba) (follows : s.pos.state = .following)
      (idle : s.chan.op = none) : moves (allocateSpare g { s with chan := { s.chan with slot0 := b } }) g
        { s with chan := { s.chan with slot0 := b } } := by
    intro k zones moved place g'
    refine ⟨fun there => ?_, fun away => ?_⟩
    · exact allocateSpare_there (r := g) (s := { s with chan := { s.chan with slot0 := b } }) full
        (by rw [lba]; exact moved) (by rw [lba]; exact there) |>.trans (by rw [lba]; rfl)
    · rw [allocateSpare_away (r := g) (s := { s with chan := { s.chan with slot0 := b } }) full
        (by rw [lba]; exact moved) mail follows idle (by rw [lba]; exact away), lba]
      exact ⟨rfl, rfl, rfl, rfl, rfl, rfl⟩
  have allocates {g : Reassign} {b : BufSlot} {v : State} (lba : g.lba = r.lba) (follows : s.pos.state = .following)
      (idle : s.chan.op = none)
      (step : advance v = some (allocateSpare g { s with chan := { s.chan with slot0 := b } })) :
      moves (settle v) g { s with chan := { s.chan with slot0 := b } } := by
    intro k zones moved
    have given := allocated g b lba follows idle k zones moved
    suffices same' : settle v = allocateSpare g { s with chan := { s.chan with slot0 := b } } by
      rw [same']
      exact given
    cases there : onTarget (slotPlace (r.lba / n.type.userSlots) (n.type.userSlots + k)).cyl 0 s
    · rw [allocateSpare_away (r := g) (s := { s with chan := { s.chan with slot0 := b } }) full
        (by rw [lba]; exact moved) mail follows idle (by rw [lba]; exact there)] at step ⊢
      exact rests step at' load copy mail rfl (.inr (.inr rfl)) nofun
    · rw [allocateSpare_there (r := g) (s := { s with chan := { s.chan with slot0 := b } }) full
        (by rw [lba]; exact moved) (by rw [lba]; exact there)] at step ⊢
      exact rests step at' load copy mail rfl (.inr (.inr rfl)) nofun
  have fails {x : SectorResult} (reads : r.phase = .read) (bad : ∀ d, x ≠ .readOk d) :
      reassignSectorEnds r x s = reassignAttemptFails r s := by
    unfold reassignSectorEnds
    rw [reads]
    cases x
    case readOk d => exact absurd rfl (bad d)
    all_goals rfl
  refine ⟨fun spin waits slow => ?_, fun spin go turns => ⟨fun there => ?_, fun parked may => ?_⟩,
    fun target calm' flat => ?_, fun d reads follows idle go => ?_, fun x reads follows idle go bad last => ?_,
    fun x reads go bad few equal => ?_, fun x reads follows idle go there bad few other => ?_,
    fun k idle => ?_, fun target go => ?_, fun writes go time => ?_,
    fun d back follows idle go other => ?_, fun back follows idle go => ?_, ?_, fun res save => ?_,
    fun before abort fresh idle flat => ?_, fun c before high => ?_, fun c before fresh flat low => ?_⟩
  · rw [settle_of_done (advance_reassigning at' load copy mail work (.inr waits) fun _ => slow)]
    exact same
  · have step := stage.reassign_spins work go spin turns
    rw [beginReadStage, sessionTable_full full, if_pos there] at step
    exact rests step at' load copy mail rfl (.inr go) nofun
  · have away : onTarget (translate n.type n.zones r.lba).1.cyl 0 s = false := by
      unfold onTarget
      rw [parked]
      rfl
    have step := stage.reassign_spins work go spin turns
    rw [beginReadStage, sessionTable_full full, if_neg (by rw [away]; nofun),
      requestTarget_loads (by exact stage.told) (by exact parked) (by exact may)] at step
    exact rests step at' load copy mail rfl (.inr go) nofun
  · have told := stage.reassign_read_told work (.inl calm') target
    refine ⟨?_, endsEarly flat (told _), endsEarly flat (told _), endsEarly flat (told _), endsEarly flat (told _),
      endsEarly flat (told _)⟩
    exact rests (told _) at' load copy mail rfl (.inr (.inl calm')) nofun
  · have step := stage.reassign_sector work (.inl go) (by rw [reads]; nofun) (.readOk d)
    unfold reassignSectorEnds at step
    rw [reads] at step
    exact allocates rfl follows idle step
  · have step := stage.reassign_sector work (.inl go) (by rw [reads]; nofun) x
    rw [fails reads bad, reassignAttemptFails, if_pos last] at step
    exact allocates rfl follows idle step
  · have step := stage.reassign_sector work (.inl go) (by rw [reads]; nofun) x
    rw [fails reads bad, reassignAttemptFails, if_neg (Nat.not_lt.mpr few), if_pos equal] at step
    exact rests step at' load copy mail rfl (.inr (.inl go)) (by rw [reads]; nofun)
  · have step := stage.reassign_sector work (.inl go) (by rw [reads]; nofun) x
    rw [fails reads bad, reassignAttemptFails_other (told := stage.told) there idle few other] at step
    have left := rests step at' load copy mail rfl (.inr (.inl go)) nofun
    intro u
    rw [show u = _ from left]
    exact ⟨rfl, rfl, rfl⟩
  · have starts : sectorStart k s = reassignStart r k s := by
      unfold sectorStart
      rw [idle, copy, load, data, work]
      rfl
    have writing : writeGate r.place.cyl s = true ↔ onTarget r.place.cyl 0 s = true ∧ s.clk.locked = true
        ∧ s.spin.state = .atSpeed ∧ s.spin.deviating = false ∧ s.cart.wp = false ∧ s.cart.state = .ready := by
      rw [writeGate_iff, format]
      simp
    intro u begins mine on fresh lost next gate
    rw [show u = reassignStart r k s from starts]
    refine ⟨fun pass => ?_, fun turn reads off => ?_, fun ⟨turn, reads, there⟩ locked => ?_,
      fun ⟨turn, reads, there⟩ reference first => ?_,
      fun ⟨⟨turn, reads, there⟩, reference, later⟩ few equal => ?_,
      fun ⟨⟨turn, reads, there⟩, reference, later⟩ few other => ?_,
      fun ⟨⟨turn, reads, there⟩, reference, later⟩ last => ?_, fun d turn writes held => ⟨fun open' => ?_, fun shut => ?_⟩,
      fun turn writes empty => ?_, fun turn back there locked => ?_, fun turn back miss => ?_⟩
    all_goals unfold reassignStart
    · by_cases turn : k = r.place.sector
      · obtain ⟨noRead, noWrite, noBack⟩ := pass.resolve_left fun h => h turn
        rw [if_neg (not_not.mpr turn)]
        cases phase : r.phase
        case read => exact absurd phase noRead
        case write => exact absurd phase noWrite
        case back => exact absurd phase noBack
        all_goals rfl
      · rw [if_pos turn]
    all_goals rw [if_neg (not_not.mpr turn)]
    · rw [reads]
      exact if_pos off
    · rw [reads]
      dsimp only
      rw [if_neg (by rw [there]; nofun), if_pos locked]
      rfl
    · rw [reads]
      dsimp only
      rw [if_neg (by rw [there]; nofun), if_neg (by rw [reference]; nofun), if_pos first]
      rfl
    · rw [reads]
      dsimp only
      rw [if_neg (by rw [there]; nofun), if_neg (by rw [reference]; nofun), if_neg later, reassignAttemptFails,
        if_neg (Nat.not_lt.mpr few), if_pos equal]
      exact congrArg (fun ph => to' { r with attempt := r.attempt + 1, phase := ph } s) reads
    · rw [reads]
      dsimp only
      rw [if_neg (by rw [there]; nofun), if_neg (by rw [reference]; nofun), if_neg later,
        reassignAttemptFails_other stage.told there idle few other]
      exact ⟨rfl, rfl, rfl, rfl⟩
    · rw [reads]
      dsimp only
      rw [if_neg (by rw [there]; nofun), if_neg (by rw [reference]; nofun), if_neg later, reassignAttemptFails,
        if_pos last]
      exact allocated { r with dataLost := true } _ rfl (onTarget_following there).1 idle
    · rw [writes]
      dsimp only
      rw [held]
      exact if_pos (writing.mpr open')
    · rw [writes]
      dsimp only
      rw [held]
      exact if_neg fun h => shut (writing.mp h)
    · rw [writes]
      dsimp only
      rw [empty]
    · rw [back]
      dsimp only
      rw [there, locked]
      rfl
    · rw [back]
      exact if_neg (not_reads miss)
  · have step := stage.reassign_write_told work go target .complete
    rw [if_pos rfl, startGateWait_eq] at step
    exact rests step at' load copy mail rfl (.inr go) nofun
  · have step := stage.reassign_sector work go (by rw [writes]; nofun)
    have written := step .written
    have cut := step .cut
    rw [reassignSectorEnds_written writes, if_neg (by rw [time]; nofun)] at written
    rw [reassignSectorEnds_cut writes, if_neg (by rw [time]; nofun)] at cut
    exact ⟨rests written at' load copy mail rfl (.inr go) nofun,
      rests cut at' load copy mail work (.inr go) (by rw [writes]; nofun)⟩
  · have step := stage.reassign_sector work (.inr go) (by rw [back]; nofun) (.readOk d)
    rw [reassignSectorEnds_back back, if_neg other] at step
    exact allocates rfl follows idle step
  · have step := stage.reassign_sector work (.inr go) (by rw [back]; nofun) .readFailed
    unfold reassignSectorEnds at step
    rw [back] at step
    exact allocates rfl follows idle step
  · intro goes none'
    have back' (h : goes) {o : OutcomeCode} {m : Mail} {v : State}
        (quiet : { m with sector := none, told := none, note := none } = Mail.none)
        (step : advance v = some (writeStageEnds r o { s with mail := m })) : saves o (settle v) := by
      obtain ⟨-, writable, follows, idle⟩ := h
      exact settle_writeStageEnds stage full writable follows idle quiet step
    have quiet : { s.mail with sector := none, told := none, note := none } = Mail.none := by rw [mail]; rfl
    refine ⟨fun d h back held => ?_, fun h back exhausted => ?_, fun h writes time => ?_, fun o h target fails' => ?_,
      fun h before => ?_⟩
    · have step := stage.reassign_sector work (.inr h.1) (by rw [back]; nofun) (.readOk d)
      rw [reassignSectorEnds_back back, if_pos held] at step
      exact back' h quiet step
    · have step := stage.reassign_sector work (.inr h.1) (by rw [back]; nofun) .readFailed
      have refused : reassignLba s.cart.wp n.type n.zones r.lba = .refused .sparesExhausted := by
        rw [reassignLba, reassignZone, h.2.1, if_neg nofun, if_pos exhausted]
      have ends' : reassignSectorEnds r .readFailed s = writeStageEnds r .sparesExhausted s := by
        unfold reassignSectorEnds
        rw [back]
        unfold allocateSpare
        rw [sessionTable_full full, refused]
      rw [ends'] at step
      exact back' h quiet step
    · have step := stage.reassign_sector work (.inr h.1) (by rw [writes]; nofun)
      have written := step .written
      have cut := step .cut
      rw [reassignSectorEnds_written writes, if_pos time] at written
      rw [reassignSectorEnds_cut writes, if_pos time] at cut
      exact ⟨back' h quiet written, back' h quiet cut⟩
    · have step := stage.reassign_write_told work (.inr h.1) target o
      rw [if_neg fails'] at step
      exact back' h (by rw [mail]; rfl) step
    · have faults (c : FaultClass) (o : OutcomeCode) (low : c.isClass13 = false) (gives : endOutcome c = o) :
          saves o (settle (noted c s)) := by
        have step := stage.reassign_noted work before c
        have answer : reassignEnd c (noted c s) = o := by
          rw [reassignEnd_untold (by exact stage.told), gives]
        rw [reassignFault, if_neg (by rw [low]; nofun), if_pos h.1, answer] at step
        exact back' h (by rw [mail]; rfl) step
      exact ⟨faults _ _ rfl rfl, faults _ _ rfl rfl, faults _ _ rfl rfl⟩
  · intro reply u
    have plain : u = reply (if r.outcome = .done then res.outcome else r.outcome) :=
      (stage.settle_reassign_saved (m := { s.mail with saved := some res }) code work save rfl).trans
        (congrArg reply (reassignOutcome_plain (by exact stage.note)))
    have faulted (c : FaultClass) : settle (noted c (savedAs res s)) = reply
        (if c.isClass13 then .faulted else if r.outcome = .done then endOutcome c else r.outcome) :=
      (stage.settle_reassign_saved (m := { s.mail with saved := some res, note := some c }) code work save rfl).trans
        (congrArg reply (reassignOutcome_noted rfl (by exact stage.told)))
    refine ⟨fun done both => ?_, fun done one => ?_, fun done neither => ?_, fun other => ?_, fun c high => ?_,
      fun c low other => ?_, fun c low done => ?_⟩
    · rw [plain, if_pos done, both]
      rfl
    · rw [plain, if_pos done, one]
      rfl
    · rw [plain, if_pos done, neither]
      rfl
    · rw [plain, if_neg other]
    · rw [faulted, if_pos (isClass13_of high)]
    · rw [faulted, if_neg (by rw [isClass13_of_not low]; nofun), if_neg other]
    · rw [faulted, if_neg (by rw [isClass13_of_low low]; nofun), if_pos done, endOutcome_of_seekFailed low]
  · exact endsEarly flat (stage.reassign_aborted work before abort (Bool.eq_false_iff.mpr fresh) idle)
  · have step := stage.reassign_noted work before c
    rw [reassignFault, if_pos (isClass13_of high)] at step
    exact ends step
  · have step := stage.reassign_noted work before c
    have early' : r.allocated = false := Bool.eq_false_iff.mpr fresh
    have answer : reassignEnd c (noted c s) = .seekFailed := by
      rw [reassignEnd_untold (by exact stage.told), endOutcome_of_seekFailed low]
    rw [reassignFault, if_neg (by rw [isClass13_of_low low]; nofun), early', if_neg nofun, answer] at step
    exact endsEarly flat step

end Sys2Proof

/-! ## Proofs: the phases of FORMAT -/

namespace Sys2Proof.Machine

/-! ### The transition of each answer -/

/-- A FORMAT that waits for its answer has nothing to take. -/
theorem advance_formatting {s : State} {f : Format} (slot : s.cu.slot.work = .format) (load : s.record.load = none)
    (copies : advanceCopies s = none) (mail : s.mail = Mail.none) (work : s.fmt = some f)
    (calm : f.step = .copies ∨ f.abortPending = false ∧ f.waits = [])
    (slow : f.step = .spin → s.spin.state ≠ .atSpeed) : advance s = none := by
  have loads : advanceLoad s = none := by simp only [advanceLoad, load]
  have item : advanceItem s = none := by
    rw [advanceItem_format slot]
    unfold advanceFormat
    rw [work]
    dsimp only
    rw [mail]
    by_cases step : f.step = .copies
    · rw [if_pos step]
      rfl
    · obtain ⟨free, waits⟩ := calm.resolve_left step
      rw [if_neg step]
      dsimp only [Mail.none]
      rw [if_neg (by rw [free]; exact fun h => nomatch h.1), if_neg (by rw [waitExpired, waits]; exact fun h => nomatch h.1),
        formatStage]
      cases kind : f.step
      case spin => exact if_neg (slow kind)
      case copies => exact absurd kind step
      case target =>
        dsimp only
        rw [mail]
        rfl
      all_goals rfl
  simp only [advance, copies, loads, item]

section
variable {i : Item} {f : Format} {s : State} (stage : Stage i .format s) (work : s.fmt = some f)
include stage work

theorem Stage.format_copied (step : f.step = .copies) {m : Mail} {w0 w1 : Bool} (copied : m.copies = some (w0, w1)) :
    advance { s with mail := m } = some (formatCopied f w0 w1 { s with mail := m }) := by
  obtain ⟨-, item, -, load, copy⟩ := stage
  rw [advance_item (by exact load) (by exact copy), advanceItem_format (by exact item)]
  unfold advanceFormat
  dsimp only
  rw [work]
  dsimp only
  rw [if_pos step, copied]

theorem Stage.format_noted (step : f.step ≠ .copies) {c : FaultClass} (ends : f.phase ≠ .preparing ∨ c.losesHeads = true) :
    advance (noted c s) = some (finish (endOutcome c) (noted c s)) := by
  obtain ⟨-, item, -, load, copy⟩ := stage
  have reaches : ¬ (f.phase = .preparing ∧ c.losesHeads = false) := by
    rintro ⟨preparing, keeps⟩
    cases ends with
    | inl other => exact other preparing
    | inr loses => exact Bool.false_ne_true (keeps.symm.trans loses)
  rw [advance_item (by exact load) (by exact copy), advanceItem_format (by exact item)]
  unfold advanceFormat
  rw [show (noted c s).fmt = some f from work]
  dsimp only
  rw [if_neg step]
  exact if_neg reaches

theorem Stage.format_sector (step : f.step ≠ .copies) (x : SectorResult) :
    advance (sectorIs x s) = some (formatSectorEnds f x s) := by
  obtain ⟨-, item, mail, load, copy⟩ := stage
  have taken : dropSector (sectorIs x s) = s := by
    cases s
    subst mail
    rfl
  have note : (sectorIs x s).mail.note = none := congrArg Mail.note mail
  rw [advance_item (by exact load) (by exact copy), advanceItem_format (by exact item)]
  unfold advanceFormat
  rw [show (sectorIs x s).fmt = some f from work]
  dsimp only
  rw [if_neg step, note, taken]
  rfl

theorem Stage.format_aborted (step : f.step ≠ .copies) (abort : f.abortPending = true) (idle : s.chan.op = none)
    (safe : f.phase.abortable = true) : advance s = some (finish .aborted s) := by
  obtain ⟨-, item, mail, load, copy⟩ := stage
  rw [advance_item load copy, advanceItem_format item]
  unfold advanceFormat
  rw [work]
  dsimp only
  rw [if_neg step, mail]
  exact if_pos ⟨abort, safe, idle⟩

variable (free : f.abortPending = false) (waits : f.waits = [])
include free waits

theorem Stage.format_spins (spin : f.step = .spin) (turns : s.spin.state = .atSpeed) :
    advance s = some (formatTarget f s) := by
  obtain ⟨-, item, mail, load, copy⟩ := stage
  rw [advance_item load copy, advanceItem_format item]
  unfold advanceFormat
  rw [work]
  dsimp only
  rw [if_neg (by rw [spin]; nofun), mail]
  dsimp only [Mail.none]
  rw [if_neg (by rw [free]; exact fun h => nomatch h.1), if_neg (by rw [waitExpired, waits]; exact fun h => nomatch h.1),
    formatStage, spin]
  exact if_pos turns

theorem Stage.format_told (target : f.step = .target) (o : TargetOutcome) :
    advance (tell o s) = formatStage f (tell o s) := by
  obtain ⟨-, item, mail, load, copy⟩ := stage
  have note : (tell o s).mail.note = none := congrArg Mail.note mail
  have sector : (tell o s).mail.sector = none := congrArg Mail.sector mail
  rw [advance_item (by exact load) (by exact copy), advanceItem_format (by exact item)]
  unfold advanceFormat
  rw [show (tell o s).fmt = some f from work]
  dsimp only
  rw [if_neg (by rw [target]; nofun), note, sector]
  dsimp only
  rw [if_neg (by rw [free]; exact fun h => nomatch h.1), if_neg (by rw [waitExpired, waits]; exact fun h => nomatch h.1)]

end

section
variable {f : Format} {s : State} (target : f.step = .target)
include target

theorem formatStage_failed {o : TargetOutcome} (fails : o ≠ .complete) :
    formatStage f (tell o s) = some (finish (targetEnd o) (tell o s)) := by
  unfold formatStage
  rw [target]
  cases o
  case complete => exact absurd rfl fails
  all_goals rfl

variable (told : s.mail.told = none)
include told

theorem formatStage_preparing (phase : f.phase = .preparing) :
    formatStage f (tell .complete s) = some (enterMarking f s) := by
  rw [← dropTold_tell told .complete]
  simp only [formatStage, target, phase, Machine.tell, dropTold]

theorem formatStage_writing (phase : f.phase = .writing) :
    formatStage f (tell .complete s) = some (setFormat { f with step := .track } s) := by
  rw [← dropTold_tell told .complete]
  simp only [formatStage, target, phase, Machine.tell, dropTold]

theorem formatStage_verifying (phase : f.phase = .verifying) : formatStage f (tell .complete s)
    = some (setFormat { f with step := if f.userPart then .users else .spares } s) := by
  rw [← dropTold_tell told .complete]
  simp only [formatStage, target, phase, Machine.tell, dropTold]

theorem formatStage_finishing (phase : f.phase = .finishing) :
    formatStage f (tell .complete s) = some (beginFinal f s) := by
  rw [← dropTold_tell told .complete]
  simp only [formatStage, target, phase, Machine.tell, dropTold]

end

theorem enterMarking_eq (f : Format) (s : State) : enterMarking f s = beginCopies .format (markingImage f) { s with
    fmt := some { f with phase := .marking, step := .copies, zones := emptyZones f.type }
    cart := { s.cart with state := .blank }
    cu := { s.cu with
      pendAuto := false
      attention := s.cu.attention ||| (if s.record.unsaved then 0x0080#16 else 0#16) }
    record := { s.record with session := .typeOnly f.type, copyStatus := .none, unsaved := false
                              report := LoadReport.none } } := by
  unfold enterMarking
  rw [discardSession_eq]
  rfl

section
variable {f : Format} {s : State}

theorem formatCopied_marking (phase : f.phase = .marking) (note : s.mail.note = none) {w0 w1 : Bool} :
    formatCopied f w0 w1 s = if (w0 && w1) = false then finish .recordWriteFailed s
      else if f.abortPending then finish .aborted s
      else enterWriting f { s with mail := { s.mail with copies := none } } := by
  unfold formatCopied
  rw [if_pos phase, note]

theorem formatCopied_marking_noted (phase : f.phase = .marking) {c : FaultClass} (note : s.mail.note = some c)
    {w0 w1 : Bool} : formatCopied f w0 w1 s = finish (endOutcome c) s := by
  unfold formatCopied
  rw [if_pos phase, note]

theorem formatCopied_finishing (phase : f.phase = .finishing) {w0 w1 : Bool} :
    formatCopied f w0 w1 s = finish (match s.mail.note with
      | some c => endOutcome c
      | none => finalOutcome w0 w1) (applyFinal f w0 w1 s) := by
  unfold formatCopied
  rw [if_neg (by rw [phase]; nofun)]
  cases s.mail.note <;> rfl

theorem formatSectorEnds_writing (phase : f.phase = .writing) {x : SectorResult} : formatSectorEnds f x s
    = if x = .written ∧ f.abortPending = false then trackWritten f.index f s else s := by
  unfold formatSectorEnds
  rw [phase]

theorem formatSectorEnds_verifying (phase : f.phase = .verifying) {x : SectorResult} :
    formatSectorEnds f x s = verifyRead f.index x f s := by
  unfold formatSectorEnds
  rw [phase]

theorem lastCylinder_pos (t : CartType) : 0 < t.lastCylinder := by cases t <;> decide

theorem verifyRead_ok {n : Nat} {d : List Byte} : verifyRead n (.readOk d) f s
    = if f.userPart then userRead n (d == zeroSector) f s else spareRead (d == zeroSector) f s := rfl

theorem verifyRead_failed {n : Nat} : verifyRead n .readFailed f s
    = if f.userPart then userRead n false f s else spareRead false f s := rfl

/-- The next spare, or the user check, once a spare has been read through (R136). -/
def spareChecked (f : Format) (k : Nat) (zs : List Zone) (s : State) : State :=
  if f.abortPending = true ∨ f.index + 1 < f.type.spareWidth then
    setFormat { f with retired := k, zones := zs, index := f.index + 1, waits := [] } s
  else beginUsers { f with retired := k, zones := zs, index := f.index + 1, waits := [] } s

theorem spareRead_good : spareRead true f s = spareChecked f f.retired f.zones s := rfl

theorem spareRead_bad : spareRead false f s
    = spareChecked f (f.retired + 1) (f.zones.set f.zone ((zoneAt f.zones f.zone).markSet f.index)) s := rfl

theorem userChecked_eq (waits : f.waits = []) {k : Nat} {zs : List Zone} :
    userChecked f.index { f with reassigned := k, zones := zs } s
      = if f.abortPending = true ∨ f.seen.length + 1 < trackUsers f then
          setFormat { f with reassigned := k, zones := zs, seen := f.index :: f.seen } s
        else nextUserTrack { f with reassigned := k, zones := zs, seen := f.index :: f.seen } s := by
  unfold userChecked
  dsimp only
  rw [waits, List.filter_nil]
  rfl

/-- What FINISHING leaves once a copy of the final image has been written (R138). -/
def formatted (f : Format) (st : CopyStatus) (s : State) : State := { s with
  cart := { s.cart with state := .ready }
  cu := { s.cu with pendAuto := false }
  record := { s.record with
    session := .full { type := f.type, lock := f.lock, generation := 2, serial := f.serial, zones := f.zones }
    copyStatus := st, unsaved := false } }

theorem applyFinal_eq (w0 w1 : Bool) : applyFinal f w0 w1 s
    = if w0 || w1 then formatted f (if w0 && w1 then .good else .degraded) s else s := by
  unfold applyFinal
  split <;> rfl

end

section
variable {f : Format} {n : Nat} {s : State}

theorem formatStart_track (step : f.step = .track) : formatStart f n s =
    if f.seen.contains n then s
    else if writeGate f.cylinder s then
      beginWrite { cyl := f.cylinder, head := f.head, sector := n } zeroSector
        (setFormat { f with index := n, waits := f.waits.filter fun w => w.1 != n } s)
    else startWait n f s := by
  unfold formatStart
  rw [step]

theorem formatStart_spares (step : f.step = .spares) : formatStart f n s =
    if n ≠ (slotPlace f.zone (f.type.userSlots + f.index)).sector then s
    else if onTarget f.cylinder 0 s && s.clk.locked then
      beginRead (slotPlace f.zone (f.type.userSlots + f.index)) s
    else startWait n f s := by
  unfold formatStart
  rw [step]

theorem formatStart_users (step : f.step = .users) : formatStart f n s =
    if f.seen.contains n ∨ f.type.userSlots ≤ userSlot f n then s
    else if onTarget f.cylinder 0 s && s.clk.locked then
      beginRead { cyl := f.cylinder, head := f.head, sector := n } (setFormat { f with index := n } s)
    else startWait n f s := by
  unfold formatStart
  rw [step]

end

/-! ### Targets, copies and the reply -/

theorem formatTarget_follows {g : Format} {s : State} (told : s.mail.told = none) (follows : s.pos.state = .following)
    (idle : s.chan.op = none) (away : s.pos.target ≠ some { cyl := g.cylinder, offset := 0 }) :
    formatTarget g s = newSeek { cyl := g.cylinder, offset := 0 } (some .format)
      (setFormat { g with step := .target } s) := by
  rw [formatTarget, requestTarget_following_away (by exact told) (by exact follows) (by exact away),
    depart_of_none (by exact idle)]

/-- Copies that have just begun with the heads on the track wait for their first sector (R90). -/
theorem advanceCopies_begun {owner : CopyOwner} {image : List Byte} {s : State} (mail : s.mail = Mail.none)
    (flies : headsGone s = false) : advanceCopies (beginCopies owner image s) = none := by
  unfold advanceCopies beginCopies
  dsimp only
  rw [mail, if_neg nofun, if_neg (by exact fun h => Bool.false_ne_true (flies.symm.trans h))]
  rfl

theorem advanceCopies_none {s : State} (copy : s.record.copyWrite = none) : advanceCopies s = none := by
  simp only [advanceCopies, copy]

/-- The result fields of a FORMAT with this context (R139). -/
def formatReply (f : Format) : List Byte :=
  (match f.phase with
    | .preparing => 1#8
    | .marking => 2#8
    | .writing => 3#8
    | .verifying => 4#8
    | .finishing => 5#8) :: be16 f.cylinder ++ be16 f.retired ++ be16 f.reassigned
  ++ [match f.exhausted with
    | some z => byte z
    | none => 0xFF#8]
  ++ (match f.torn with
    | some p => be16 p.cyl ++ [byte p.head, byte p.sector]
    | none => [0xFF#8, 0xFF#8, 0xFF#8, 0xFF#8])

theorem formatFields_of {s : State} {f : Format} (work : s.fmt = some f) : formatFields s = formatReply f := by
  unfold formatFields formatReply
  rw [work]
  dsimp only
  simp only [List.append_assoc]
  congr 1
  · cases f.phase <;> rfl
  · congr 3
    · cases f.exhausted <;> rfl
    · cases f.torn <;> rfl

/-- A FORMAT that ends is answered with its context (R139). -/
theorem Stage.settle_format {e : Entry} {f : Format} {t v : State} {o : OutcomeCode} (code : e.code = 0x17#8)
    (item : t.cu.slot.item = .command e) (load : t.record.load = none) (copy : t.record.copyWrite = none)
    (work : t.fmt = some f) (ends : advance v = some (finish o t)) : settle v = ended e o (formatReply f) t := by
  refine settle_of_finish (i := .command e) ends item load copy fun e' h => ?_
  cases h
  rw [resultFields_format _ code, formatFields_of work]

end Sys2Proof.Machine

namespace Sys2Proof

open Machine

/-- Settles O59: each phase by the answer that it takes. -/
theorem formatPhases : Obligations.FormatPhases := by
  intro e f s code stage work to' fields ends free level targets copies empty read copied zero
  obtain ⟨item, at', mail, load, copy⟩ := id stage
  have same : { s with mail := Mail.none } = s := congrArg (fun m => { s with mail := m }) mail.symm
  have answer {g : Format} {m : Mail} {v u : State} {o : OutcomeCode} (eq : u = { s with fmt := some g, mail := m })
      (step : advance v = some (finish o u)) : settle v = ended e o (fields g) s := by
    subst eq
    let t : State := { s with fmt := some g, mail := m }
    exact (Stage.settle_format (t := t) code item load copy rfl step).trans (itemEnded_mail (.command e) _ _ m _)
  have noted' (m : Mail) : { s with mail := m } = { s with fmt := some f, mail := m } := by rw [← work]
  have rests {g : Format} {v u : State} (step : advance v = some u) (slot : u.cu.slot.work = .format)
      (load' : u.record.load = none) (copies' : advanceCopies u = none) (mail' : u.mail = Mail.none)
      (work' : u.fmt = some g) (calm : g.step = .copies ∨ g.abortPending = false ∧ g.waits = [])
      (spin : g.step ≠ .spin) : settle v = u := by
    rw [settle_of_one step (advance_formatting slot load' copies' mail' work' calm fun h => absurd h spin), ← mail']
  have sought {g : Format} {v : State} (flat : level) (calm : g.abortPending = false) (waits : g.waits = [])
      (away : s.pos.target ≠ some { cyl := g.cylinder, offset := 0 })
      (step : advance v = some (formatTarget g s)) : targets g (settle v) := by
    obtain ⟨follows, idle⟩ := flat
    rw [formatTarget_follows (congrArg Mail.told mail) follows idle away] at step
    have left := rests step at' load (advanceCopies_none copy) mail rfl
      (.inr ⟨calm, waits⟩) nofun
    rw [left]
    exact ⟨rfl, rfl, rfl, rfl, rfl⟩
  have stays {g : Format} {v : State} (step : advance v = some (to' g s))
      (calm : g.step = .copies ∨ g.abortPending = false ∧ g.waits = []) (spin : g.step ≠ .spin) :
      settle v = to' g s := rests step at' load (advanceCopies_none copy) mail rfl calm spin
  refine ⟨fun phase spin calm waits => ⟨fun slow => ?_, fun parked may => ?_⟩, fun target calm waits flat => ?_,
    fun phase step => ?_, fun phase step => ?_, fun phase step calm waits => ?_, fun n step idle => ?_,
    fun n idle data reassign => ?_, fun phase step user calm => ?_, fun phase step user calm waits => ?_,
    fun step abort idle noMark noFinish => ?_, fun step abort idle writes => ?_, fun step calm idle out => ?_,
    fun c step high => ?_, fun c step low => ?_, fun phase step => ?_⟩
  · rw [settle_of_done (advance_formatting at' load (advanceCopies_none copy) mail work (.inr ⟨calm, waits⟩) fun _ => slow)]
    exact same
  · have step := stage.format_spins work calm waits spin may.1
    rw [formatTarget, requestTarget_loads (by exact stage.told) (by exact parked) (by exact may)] at step
    exact rests step at' load (advanceCopies_none (by exact copy)) mail rfl (.inr ⟨calm, waits⟩) nofun
  · obtain ⟨follows, idle⟩ := id flat
    have flies : headsGone s = false := headsGone_of_flying (by rw [follows]; rfl)
    have told := stage.format_told work calm waits target
    have arrived := told .complete
    have failed (o : TargetOutcome) (fails : o ≠ .complete) : settle (tell o s) = ends (targetEnd o) :=
      answer (noted' _) ((told o).trans (formatStage_failed target fails))
    refine ⟨fun phase => ?_, fun phase => ?_, fun phase => ?_, fun phase => ?_, failed _ nofun, failed _ nofun,
      failed _ nofun, failed _ nofun⟩
    · rw [formatStage_preparing target stage.told phase, enterMarking_eq] at arrived
      exact rests arrived at' load (advanceCopies_begun (by exact mail) (by exact flies)) mail rfl (.inl rfl) nofun
    · rw [formatStage_writing target stage.told phase] at arrived
      exact stays arrived (.inr ⟨calm, waits⟩) nofun
    · rw [formatStage_verifying target stage.told phase] at arrived
      exact stays arrived (.inr ⟨calm, waits⟩) (by dsimp only; split <;> nofun)
    · rw [formatStage_finishing target stage.told phase] at arrived
      exact rests arrived at' load (advanceCopies_begun (by exact mail) (by exact flies)) mail rfl (.inl rfl) nofun
  · have done (w : Bool × Bool) (m : Option FaultClass) :=
      stage.format_copied work step (m := { Mail.none with copies := some w, note := m }) (w0 := w.1) (w1 := w.2) rfl
    intro next
    refine ⟨fun calm flat home => ?_, fun w lost => ?_, fun abort => ?_, fun w c high => ?_, fun w c low => ?_⟩
    · have go := done (true, true) none
      rw [formatCopied_marking phase rfl, if_neg nofun, if_neg (by rw [calm]; nofun)] at go
      refine sought (g := next) flat calm rfl (by rw [home]; nofun) (go.trans (congrArg some ?_))
      exact congrArg (fun m => enterWriting f { s with mail := m }) mail.symm
    · have go := done w none
      have few : (w.1 && w.2) = false := by
        obtain ⟨w0, w1⟩ := w
        cases w0 <;> cases w1
        case true.true => exact absurd rfl lost
        all_goals rfl
      rw [formatCopied_marking phase rfl, if_pos few] at go
      exact answer (noted' _) go
    · have go := done (true, true) none
      rw [formatCopied_marking phase rfl, if_neg nofun, if_pos (Bool.eq_true_of_not_eq_false abort)] at go
      exact answer (noted' _) go
    · have go := done w (some c)
      rw [formatCopied_marking_noted phase rfl, endOutcome_of_class13 high] at go
      exact answer (noted' _) go
    · have go := done w (some c)
      rw [formatCopied_marking_noted phase rfl, endOutcome_of_seekFailed low] at go
      exact answer (noted' _) go
  · have done (w : Bool × Bool) (m : Option FaultClass) :=
      stage.format_copied work step (m := { Mail.none with copies := some w, note := m }) (w0 := w.1) (w1 := w.2) rfl
    intro ready
    have kept {w : Bool × Bool} {m : Option FaultClass} {st : CopyStatus} {o : OutcomeCode}
        (go : formatCopied f w.1 w.2 { s with mail := { Mail.none with copies := some w, note := m } }
          = finish o (formatted f st { s with mail := { Mail.none with copies := some w, note := m } })) :
        copied w m = ended e o (fields f) (ready st) := by
      have step := (done w m).trans (congrArg some go)
      refine (Stage.settle_format (t := formatted f st { s with mail := _ }) code item load copy work step).trans ?_
      exact itemEnded_mail (.command e) _ _ _ (ready st)
    have lost {m : Option FaultClass} {o : OutcomeCode}
        (go : formatCopied f false false { s with mail := { Mail.none with copies := some (false, false), note := m } }
          = finish o { s with mail := { Mail.none with copies := some (false, false), note := m } }) :
        copied (false, false) m = ends o :=
      answer (noted' _) ((done (false, false) m).trans (congrArg some go))
    simp only [formatCopied_finishing phase, applyFinal_eq] at kept lost
    refine ⟨kept rfl, kept rfl, kept rfl, lost rfl, fun c high => ⟨?_, ?_⟩⟩
    · exact lost (congrArg (fun o => finish o _) (endOutcome_of_class13 high))
    · exact kept (congrArg (fun o => finish o _) (endOutcome_of_class13 high))
  · intro g last u
    have near : f.step ≠ .copies := by rw [step]; nofun
    have written := stage.format_sector work near .written
    have cut := stage.format_sector work near .cut
    rw [formatSectorEnds_writing phase, if_pos ⟨rfl, calm⟩] at written
    rw [formatSectorEnds_writing phase, if_neg (by exact fun h => nomatch h.1)] at cut
    have lastTrack : f.type.lastCylinder = last := rfl
    have toNext (whole : f.seen.length + 1 = 16) : advance (sectorIs .written s) = some (nextTrack g s) :=
      written.trans (by rw [trackWritten, if_pos whole])
    unfold nextTrack writingDone beginSpares enterFinishing at toNext
    dsimp only [g] at toNext
    rw [lastTrack, ← waits] at toNext
    refine ⟨fun few => ?_, fun whole first => ?_, fun whole second more flat home => ?_,
      fun whole second done verify flat home away => ?_, fun whole second done verify flat home => ?_, ?_⟩
    · rw [trackWritten, if_neg (Nat.ne_of_lt few)] at written
      exact stays written (.inr ⟨calm, waits⟩) (by rw [step]; nofun)
    · have go := toNext whole
      rw [if_pos first] at go
      exact stays go (.inr ⟨calm, waits⟩) (by rw [step]; nofun)
    · have go := toNext whole
      rw [if_neg second, if_pos more] at go
      refine sought flat calm waits ?_ go
      rw [home]
      simp
    · have go := toNext whole
      rw [if_neg second, if_neg (Nat.not_lt.mpr done), if_pos verify] at go
      refine sought flat calm waits ?_ go
      rw [home]
      simpa using away
    · have go := toNext whole
      rw [if_neg second, if_neg (Nat.not_lt.mpr done), if_neg (by rw [verify]; nofun)] at go
      refine sought flat calm waits ?_ go
      have far : 0 < f.cylinder := Nat.lt_of_lt_of_le (lastCylinder_pos f.type) done
      rw [home]
      simpa using far.ne'
    · exact (rests cut at' load (advanceCopies_none copy) mail work (.inr ⟨calm, waits⟩) (by rw [step]; nofun))
  · intro gate u quiet
    have starts (h : quiet) : u = formatStart f n s := by
      obtain ⟨data, reassign⟩ := h
      have eq : sectorStart n s = formatStart f n s := by
        unfold sectorStart
        rw [idle, copy, load, data, reassign, work]
        rfl
      exact eq
    have writing : writeGate f.cylinder s = true ↔ gate := by
      rw [writeGate_iff, work]
      simp only [ne_eq, reduceCtorEq, not_false_eq_true, or_true, and_true]
      rfl
    have runs' : (f.waits.any fun w => w.1 == n) = true ↔ ∃ w ∈ f.waits, w.1 = n := by
      simp only [List.any_eq_true, beq_iff_eq]
    refine ⟨fun h seen => ?_, fun h new open' => ?_, fun h new shut fresh => ?_, fun h new shut runs => ?_⟩
    all_goals rw [starts h, formatStart_track step]
    · rw [if_pos (List.contains_iff_mem.mpr seen)]
    all_goals rw [if_neg (by rw [List.contains_iff_mem]; exact new)]
    · rw [if_pos (writing.mpr open')]
      rfl
    · rw [if_neg (fun h => shut (writing.mp h)), startWait, if_neg fun k => let ⟨w, member, same⟩ := runs'.mp k; fresh w member same]
      rfl
    · rw [if_neg (fun h => shut (writing.mp h)), startWait, if_pos (runs'.mpr runs)]
  · intro on u waits' starts perZone spare none'
    have begins : u = formatStart f n s := by
      have eq : sectorStart n s = formatStart f n s := by
        unfold sectorStart
        rw [idle, copy, load, data, reassign, work]
        rfl
      exact eq
    have there : (onTarget f.cylinder 0 s && s.clk.locked) = true ↔ on := Bool.and_eq_true_iff
    have waited : waits' (startWait n f s) := rfl
    refine ⟨fun step other => ?_, fun step turn h => ?_, fun step turn h => ?_, fun step pass => ?_,
      fun step turn h => ?_, fun step turn h => ?_, fun track spares users => ?_⟩
    all_goals rw [begins]
    · rw [formatStart_spares step]
      exact if_pos other
    · rw [formatStart_spares step, if_neg (by exact not_not.mpr turn), if_pos (there.mpr h)]
      rfl
    · rw [formatStart_spares step, if_neg (by exact not_not.mpr turn), if_neg fun k => h (there.mp k)]
      exact waited
    · rw [formatStart_users step]
      exact if_pos (pass.imp_left List.contains_iff_mem.mpr)
    · rw [formatStart_users step, if_neg (fun k => turn (k.imp_left List.contains_iff_mem.mp)), if_pos (there.mpr h)]
      rfl
    · rw [formatStart_users step, if_neg (fun k => turn (k.imp_left List.contains_iff_mem.mp)),
        if_neg fun k => h (there.mp k)]
      exact waited
    · unfold formatStart
      cases kind : f.step
      case track => exact absurd kind track
      case spares => exact absurd kind spares
      case users => exact absurd kind users
      all_goals rfl
  · intro w retired on
    have zeroed : (zero == zeroSector) = true := beq_self_eq_true zeroSector
    have other' (d : List Byte) (h : d ≠ zero) : (d == zeroSector) = false := beq_eq_false_iff_ne.mpr h
    have near : f.step ≠ .copies := by rw [step]; nofun
    have reads (x : SectorResult) : advance (sectorIs x s) = some (verifyRead f.index x f s) := by
      rw [stage.format_sector work near, formatSectorEnds_verifying phase]
    have checked {k : Nat} {zs : List Zone} {v : State} (go : advance v = some (spareChecked f k zs s)) :
        on { f with retired := k, zones := zs } (settle v) := by
      unfold spareChecked at go
      refine ⟨fun few => ?_, fun last flat home away => ?_⟩
      · rw [if_pos (.inr (by exact few))] at go
        exact stays go (.inr ⟨calm, rfl⟩) (by rw [step]; nofun)
      · have done : ¬ (f.abortPending = true ∨ f.index + 1 < f.type.spareWidth) := by
          rw [calm]
          exact fun h => absurd (h.resolve_left nofun) (Nat.not_lt.mpr last)
        rw [if_neg done, beginUsers] at go
        refine sought flat calm rfl ?_ go
        rw [home]
        simpa using away
    refine ⟨checked (k := f.retired) (zs := f.zones) ((reads (.readOk zero)).trans ?_),
      checked ((reads .readFailed).trans ?_), fun d other => checked ((reads (.readOk d)).trans ?_), fun waits => ?_⟩
    · rw [verifyRead_ok, if_neg (by rw [user]; nofun), zeroed, spareRead_good]
    · rw [verifyRead_failed, if_neg (by rw [user]; nofun), spareRead_bad]
      rfl
    · rw [verifyRead_ok, if_neg (by rw [user]; nofun), other' d other, spareRead_bad]
      rfl
    · exact rests (reads .interrupted) at' load (advanceCopies_none copy) mail work (.inr ⟨calm, waits⟩)
        (by rw [step]; nofun)
  · intro perZone zones slot g on bad
    have zeroed : (zero == zeroSector) = true := beq_self_eq_true zeroSector
    have other' (d : List Byte) (h : d ≠ zero) : (d == zeroSector) = false := beq_eq_false_iff_ne.mpr h
    have near : f.step ≠ .copies := by rw [step]; nofun
    have reads (x : SectorResult) : advance (sectorIs x s) = some (verifyRead f.index x f s) := by
      rw [stage.format_sector work near, formatSectorEnds_verifying phase]
    have checked {k : Nat} {zs : List Zone} {v : State}
        (go : advance v = some (userChecked f.index { f with reassigned := k, zones := zs } s)) :
        on { g with reassigned := k, zones := zs } (settle v) := by
      rw [userChecked_eq waits] at go
      have toNext (done : ¬ f.seen.length + 1 < trackUsers f) : advance v
          = some (nextUserTrack { f with reassigned := k, zones := zs, seen := f.index :: f.seen } s) := by
        rwa [if_neg (by rw [calm]; exact fun h => done (h.resolve_left nofun))] at go
      unfold nextUserTrack zoneDone beginSpares enterFinishing at toNext
      dsimp only at toNext
      rw [← waits] at toNext
      refine ⟨fun few => ?_, fun done goes first => ?_, fun done goes second h => ?_, fun done ends' further h away => ?_,
        fun done ends' last h away => ?_⟩
      · rw [if_pos (.inr (by exact few))] at go
        exact stays go (.inr ⟨calm, waits⟩) (by rw [step]; nofun)
      · have go := toNext done
        rw [if_neg (by exact Nat.not_le.mpr goes), if_pos first] at go
        exact stays go (.inr ⟨calm, waits⟩) (by rw [step]; nofun)
      · have go := toNext done
        rw [if_neg (by exact Nat.not_le.mpr goes), if_neg second] at go
        refine sought h.1 calm waits ?_ go
        rw [h.2]
        simp
      · have go := toNext done
        rw [if_pos (by exact Nat.not_lt.mp ends'), if_pos (by exact further)] at go
        have cylinder : 20 + 20 * (f.zone + 1) = 40 + 20 * f.zone := by omega
        rw [cylinder, ← phase] at go
        refine sought h.1 calm waits ?_ go
        rw [h.2]
        simpa using away
      · have go := toNext done
        rw [if_pos (by exact Nat.not_lt.mp ends'), if_neg (by exact Nat.not_lt.mpr last)] at go
        refine sought h.1 calm waits ?_ go
        rw [h.2]
        simpa using away
    have failed {x : SectorResult} (go : advance (sectorIs x s) = some (userRead f.index false f s)) : bad x := by
      unfold userRead at go
      rw [if_neg nofun] at go
      refine ⟨fun k z moved => ?_, fun writable full => ?_⟩
      · rw [show userSlot f f.index = slot + f.index from rfl, moved] at go
        exact checked go
      · have refused : reassignZone s.cart.wp f.type (userSlot f f.index) (zoneAt f.zones f.zone)
            = .refused .sparesExhausted := by
          rw [reassignZone, writable, if_neg nofun, if_pos full]
        rw [refused] at go
        exact answer rfl go
    refine ⟨checked (k := f.reassigned) (zs := f.zones) ((reads (.readOk zero)).trans ?_),
      failed ((reads .readFailed).trans ?_), fun d other => failed ((reads (.readOk d)).trans ?_), ?_⟩
    · rw [verifyRead_ok, if_pos user, zeroed, userRead, if_pos rfl]
    · rw [verifyRead_failed, if_pos user]
    · rw [verifyRead_ok, if_pos user, other' d other]
    · exact rests (reads .interrupted) at' load (advanceCopies_none copy) mail work (.inr ⟨calm, waits⟩)
        (by rw [step]; nofun)
  · exact answer (noted' s.mail) (stage.format_aborted work step (Bool.eq_true_of_not_eq_false abort) idle (by
      cases phase : f.phase
      case marking => exact absurd phase noMark
      case finishing => exact absurd phase noFinish
      all_goals rfl))
  · have abort' : f.abortPending = true := Bool.eq_true_of_not_eq_false abort
    have written := stage.format_sector work step .written
    rw [formatSectorEnds_writing writes, if_neg (by rw [abort']; exact fun h => nomatch h.2)] at written
    have halts := stage.format_aborted work step abort' idle (by rw [writes]; rfl)
    refine (settle_step written halts (advance_finish load copy)).trans ?_
    exact answer (noted' s.mail) halts
  · have halts : advance s = some (finish .dataTimeout s) := by
      rw [advance_item load copy, advanceItem_format at']
      refine advanceFormat_waitExpired work mail step calm idle ?_
      obtain ⟨w, member, zero⟩ := out
      exact List.any_eq_true.mpr ⟨w, member, beq_iff_eq.mpr zero⟩
    exact answer (noted' s.mail) halts
  · have go := stage.format_noted work step (.inr (losesHeads_of (.inl high)))
    rw [endOutcome_of_class13 high] at go
    exact answer (noted' _) go
  · have go := stage.format_noted work step (.inr (losesHeads_of (.inr low)))
    rw [endOutcome_of_seekFailed low] at go
    exact answer (noted' _) go
  · have writes : f.phase ≠ .preparing := by rw [phase]; nofun
    exact ⟨answer (noted' _) (stage.format_noted (c := .offTrack) work step (.inl writes)),
      answer (noted' _) (stage.format_noted (c := .writeFault) work step (.inl writes)),
      answer (noted' _) (stage.format_noted (c := .speedDeviation) work step (.inl writes))⟩

end Sys2Proof

/-! ## Proofs: no sector begins while an event is worked out -/

namespace Sys2Proof.Machine

theorem Shut.of_same {s t : State} (ok : Shut s) (mech : SameMech s t) (holder : t.fault.holder = s.fault.holder) :
    Shut t := by
  obtain ⟨-, -, -, -, -, op, gate, current, -, -⟩ := mech
  obtain ⟨noOp, off, zero, none⟩ := ok
  exact ⟨op.trans noOp, gate.trans off, current.trans zero, holder.trans none⟩

theorem finishWith_holder (o : OutcomeCode) (fields : List Byte) (s : State) :
    (finishWith o fields s).fault.holder = s.fault.holder := by
  obtain ⟨r, -, -, ⟨-, eq⟩ | eq⟩ | ⟨-, eq⟩ := finishWith_cases o fields s <;> rw [eq] <;> rfl

theorem restore_holder (s : State) : (restore s).fault.holder = s.fault.holder := by
  unfold restore
  split <;> rfl

theorem Move.shut {s t : State} (h : Move false s t) (ok : Shut s) : Shut t := by
  cases h with
  | aside h =>
    obtain ⟨mech, -, -, -, -, -, -, -, -, -, holder⟩ := h
    exact ok.of_same mech holder
  | acts _ tame => exact (tame rfl).shut ok
  | start => exact ok.startRequest
  | request => exact ok
  | withdraw => exact ok
  | work => exact ok
  | finish => exact ok.of_same (finishWith_same _ _ s) (finishWith_holder _ _ s)
  | restore => exact ok.of_same (restore_same s) (restore_holder s)
  | cart => exact ok
  | eject => exact ok
  | latch => exact ok
  | unlatch => exact ok
  | shell => exact ok

theorem Moves.shut {s t : State} (h : Moves false s t) (ok : Shut s) : Shut t := by
  induction h with
  | refl => exact ok
  | tail _ move ih => exact move.shut ih

/-- Working out an event begins no sector and defers no SPEED DEVIATION. -/
theorem Shut.settle {s : State} (h : Shut s) : Shut (settle s) := Moves.shut (settle_moves s) h

end Sys2Proof.Machine

/-! ## Proofs: the transitions of a READ, VERIFY or WRITE -/

namespace Sys2Proof.Machine

/-! ### What is taken at each phase -/

/-- Neither a data timeout nor an abort ends the command now (R127, R128). -/
def Transfer.Undue (t : Transfer) (s : State) : Prop :=
  (t.timedOut = false ∨ s.chan.op ≠ none) ∧ (t.abortPending = false ∨ s.chan.op ≠ none ∨ t.chain = true)

theorem Transfer.Undue.of_clear {t : Transfer} (s : State) (time : t.timedOut = false) (abort : t.abortPending = false) :
    t.Undue s := ⟨.inl time, .inl abort⟩

section
variable {s : State} {t : Transfer} (stage : s.cu.slot.work = .data) (load : s.record.load = none)
  (copies : advanceCopies s = none) (work : s.chan.transfer = some t)
include stage load copies

theorem advance_data : advance s = advanceData s := by
  have loads : advanceLoad s = none := by simp only [advanceLoad, load]
  simp only [advance, copies, loads, advanceItem_data stage]

include work

/-- Where no answer waits, the phase tells what comes next (R112 to R126). -/
theorem advance_blocks (save : t.phase ≠ .save) (drain : t.phase ≠ .drain) (note : s.mail.note = none)
    (sector : s.mail.sector = none) (undue : t.Undue s) : advance s = advanceBlocks t s := by
  obtain ⟨time, abort⟩ := undue
  have late : ¬ (t.timedOut = true ∧ s.chan.op = none) := fun ⟨yes, idle⟩ =>
    time.elim (fun no => nomatch no.symm.trans yes) fun busy => busy idle
  have abort' : ¬ (t.abortPending = true ∧ s.chan.op = none ∧ t.chain = false) := fun ⟨yes, idle, free⟩ =>
    abort.elim (fun no => nomatch no.symm.trans yes) fun k => k.elim (fun busy => busy idle) fun chain =>
      nomatch free.symm.trans chain
  rw [advance_data stage load copies]
  unfold advanceData
  rw [work]
  dsimp only
  rw [if_neg save, if_neg drain, note]
  dsimp only
  rw [sector]
  dsimp only
  rw [if_neg late, if_neg abort']

/-- A command that waits for its answer has nothing to take. -/
theorem advance_blocks_waits (mail : s.mail = Mail.none)
    (phase : t.phase = .save ∨ t.Undue s
      ∧ (t.phase = .target ∨ t.phase = .sector ∨ t.phase = .back ∨ t.phase = .spin ∧ s.spin.state ≠ .atSpeed)) :
    advance s = none := by
  obtain save | ⟨undue, phase⟩ := phase
  · rw [advance_data stage load copies]
    simp only [advanceData, work, save, mail, Mail.none, if_true]
  · have early : t.phase ≠ .save ∧ t.phase ≠ .drain := by
      obtain h | h | h | ⟨h, -⟩ := phase <;> rw [h] <;> exact ⟨nofun, nofun⟩
    rw [advance_blocks stage load copies work early.1 early.2 (by rw [mail]; rfl) (by rw [mail]; rfl) undue]
    unfold advanceBlocks
    obtain h | h | h | ⟨h, slow⟩ := phase <;> rw [h]
    · rw [mail]
      rfl
    · exact if_neg slow

end

section
variable {i : Item} {s : State} {t : Transfer} (stage : Stage i .data s) (work : s.chan.transfer = some t)
  (save : t.phase ≠ .save) (drain : t.phase ≠ .drain)
include stage work save drain

theorem Stage.data_blocks (undue : t.Undue s) : advance s = advanceBlocks t s := by
  obtain ⟨-, slot, -, load, copy⟩ := id stage
  exact advance_blocks slot load (advanceCopies_none copy) work save drain stage.note stage.sector undue

/-- The result of the sector in work comes before a data timeout and an abort (R127, R128). -/
theorem Stage.data_sector (r : SectorResult) : advance (sectorIs r s)
    = some (if t.phase = .back then readBackEnds t r s else blockSectorEnds t r s) := by
  have note := stage.note
  obtain ⟨-, slot, mail, load, copy⟩ := stage
  have taken : dropSector (sectorIs r s) = s := by
    cases s
    subst mail
    rfl
  rw [advance_data (s := sectorIs r s) slot load (advanceCopies_none copy)]
  unfold advanceData
  rw [show (sectorIs r s).chan.transfer = some t from work]
  dsimp only
  rw [if_neg save, if_neg drain, show (sectorIs r s).mail.note = none from note, taken]
  exact (apply_ite some _ _ _).symm

theorem Stage.data_target (undue : t.Undue s) (o : TargetOutcome) :
    advance (tell o s) = advanceBlocks t (tell o s) := by
  have note := stage.note
  have sector := stage.sector
  obtain ⟨-, slot, -, load, copy⟩ := stage
  exact advance_blocks (s := tell o s) slot load (advanceCopies_none copy) work save drain note sector undue

theorem Stage.data_arrived (target : t.phase = .target) (undue : t.Undue s) :
    advance (tell .complete s) = some (setTransfer { t with phase := .sector } s) := by
  rw [stage.data_target work save drain undue, advanceBlocks, target]
  exact congrArg (fun v => some (setTransfer _ v)) (dropTold_tell stage.told _)

theorem Stage.data_told (target : t.phase = .target) (undue : t.Undue s) {o : TargetOutcome} (other : o ≠ .complete) :
    advance (tell o s) = some (endTransfer t (targetEnd o) true (tell o s)) := by
  rw [stage.data_target work save drain undue, advanceBlocks, target]
  cases o with
  | complete => exact absurd rfl other
  | _ => rfl

/-- With no answer under way a data timeout comes first, and then an abort (R127, R128). -/
theorem Stage.data_ends : advance s
    = if t.timedOut = true ∧ s.chan.op = none then some (endTransfer t .dataTimeout true s)
      else if t.abortPending = true ∧ s.chan.op = none ∧ t.chain = false then some (endTransfer t .aborted true s)
      else advanceBlocks t s := by
  have note := stage.note
  have sector := stage.sector
  obtain ⟨-, slot, -, load, copy⟩ := stage
  rw [advance_data slot load (advanceCopies_none copy)]
  unfold advanceData
  rw [work]
  dsimp only
  rw [if_neg save, if_neg drain, note]
  dsimp only
  rw [sector]

theorem Stage.data_aborted (abort : t.abortPending = true) (time : t.timedOut = false) (idle : s.chan.op = none)
    (chain : t.chain = false) : advance s = some (endTransfer t .aborted true s) := by
  rw [stage.data_ends work save drain, if_neg fun h => Bool.false_ne_true (time.symm.trans h.1), if_pos ⟨abort, idle, chain⟩]

theorem Stage.data_late (time : t.timedOut = true) (idle : s.chan.op = none) :
    advance s = some (endTransfer t .dataTimeout true s) := by
  rw [stage.data_ends work save drain, if_pos ⟨time, idle⟩]

end

/-! ### The offset in use goes back to 0 -/

/-- The positioner once the offset in use is given back from FOLLOWING (R114). -/
def flattened (s : State) : Positioner :=
  match s.pos.target with
  | some g => if g.offset = 0 then s.pos else (newSeek { cyl := g.cyl, offset := 0 } none s).pos
  | none => s.pos

theorem flattened_level (s : State) : Level { s with pos := flattened s } := by
  intro g target
  change (flattened s).target = some g at target
  unfold flattened at target
  split at target
  · rename_i h _
    split at target
    · rename_i k flat
      rw [k] at target
      cases target
      exact flat
    · cases target
      rfl
  · rename_i k
    rw [k] at target
    cases target

theorem seekState_cases (r : Int) : seekState r = .seeking ∨ seekState r = .settling := by
  unfold seekState
  split
  · exact .inl rfl
  · exact .inr rfl

theorem flattened_state {s : State} (follows : s.pos.state = .following) :
    (flattened s).state = .following ∨ (flattened s).state = .seeking ∨ (flattened s).state = .settling := by
  unfold flattened
  split
  · split
    · exact .inl follows
    · exact .inr (seekState_cases _)
  · exact .inl follows

theorem restoreOffset_following {s : State} (follows : s.pos.state = .following) (idle : s.chan.op = none) :
    ∃ told, restoreOffset s = { s with pos := flattened s, mail := { s.mail with told } } := by
  unfold restoreOffset flattened
  cases target : s.pos.target with
  | none => exact ⟨s.mail.told, rfl⟩
  | some g =>
    dsimp only
    by_cases flat : g.offset = 0
    · rw [if_neg fun h => h.1 flat, if_pos flat]
      exact ⟨s.mail.told, rfl⟩
    · rw [if_pos ⟨flat, headsGone_of_flying (by rw [follows]; rfl)⟩, if_neg flat]
      refine ⟨none, ?_⟩
      unfold requestTarget
      dsimp only
      rw [follows]
      dsimp only
      rw [target, if_neg fun h => flat (congrArg Target.offset (Option.some.inj h)), depart_of_none (by exact idle)]
      rfl

/-- The end of a command reaches the buffer and the outbound line at first (R126, R127). -/
theorem endBuffers_frame (t : Transfer) (o : OutcomeCode) (s : State) : ∃ a b r k, endBuffers t o s
    = { s with chan := { s.chan with slot0 := a, slot1 := b, readyTimer := r }, link := k } := by
  unfold endBuffers
  cases t.cmd with
  | write => exact ⟨_, _, s.chan.readyTimer, _, rfl⟩
  | read => dsimp only; split <;> exact ⟨_, _, _, _, rfl⟩
  | verify => dsimp only; split <;> exact ⟨_, _, _, _, rfl⟩

/-- From FOLLOWING an end works as from the positioner without an offset (R114). -/
theorem endTransfer_flattened {t : Transfer} {o : OutcomeCode} {save : Bool} {s : State}
    (follows : s.pos.state = .following) (idle : s.chan.op = none) :
    endTransfer t o save s = endTransfer t o save { s with pos := flattened s } := by
  have buffers (q : Positioner) : endBuffers t o { s with pos := q } = { endBuffers t o s with pos := q } := by
    unfold endBuffers
    cases t.cmd with
    | write => rfl
    | read => dsimp only; split <;> rfl
    | verify => dsimp only; split <;> rfl
  obtain ⟨pos, op⟩ : (endBuffers t o s).pos = s.pos ∧ (endBuffers t o s).chan.op = s.chan.op := by
    obtain ⟨a, b, r, k, frame⟩ := endBuffers_frame t o s
    rw [frame]
    exact ⟨rfl, rfl⟩
  have aim : flattened (endBuffers t o s) = flattened s := by
    unfold flattened newSeek
    rw [pos]
  obtain ⟨told, back⟩ := restoreOffset_following (s := endBuffers t o s) (by rw [pos]; exact follows)
    (by rw [op]; exact idle)
  have still : restoreOffset { endBuffers t o s with pos := flattened s } = { endBuffers t o s with pos := flattened s } :=
    aim ▸ restoreOffset_of_level (flattened_level (endBuffers t o s))
  unfold endTransfer
  rw [buffers (flattened s), still, back, aim]
  rfl

/-! ### The write-back at the end of a command -/

/-- A write-back begins from a steady positioner with no request outstanding (R89, R126). -/
theorem beginWriteBack_steady {s : State} {n : Session} (full : s.record.session = .full n)
    (writable : s.cart.wp = false) (idle : s.chan.op = none) (mail : s.mail = Mail.none)
    (steady : s.pos.state = .following ∨ s.pos.state = .seeking ∨ s.pos.state = .settling)
    (unasked : s.pos.requester = none) : BackBegun s (beginWriteBack s) := by
  obtain follows | seeks := steady
  · exact beginWriteBack_begun full writable follows idle mail
  have off : onTarget 0 0 s = false := by
    unfold onTarget
    obtain h | h := seeks <;> rw [h] <;> rfl
  have waits (q : Positioner) (c : CopyWrite) (targets : c.targeting = true)
      (away : q.state = .seeking ∨ q.state = .settling) :
      advanceCopies { s with pos := q, record := { s.record with copyWrite := some c } } = none := by
    unfold advanceCopies
    dsimp only
    rw [mail, targets]
    dsimp only [Mail.none]
    rw [if_pos rfl, if_neg]
    obtain h | h := away <;> rw [h] <;> nofun
  unfold beginWriteBack
  rw [writable, if_neg nofun, off, if_neg nofun]
  have told : s.mail.told = none := congrArg Mail.told mail
  by_cases there : s.pos.target = some { cyl := 0, offset := 0 }
  · rw [requestTarget_seeking_there (by exact told) (by exact seeks) (by exact there), takenOver,
      if_pos (.inl (by exact unasked))]
    exact ⟨rfl, rfl, rfl, rfl, rfl, rfl, nofun, waits _ _ rfl seeks⟩
  · rw [requestTarget_seeking_away (by exact told) (by exact seeks) (by exact there), takenOver,
      if_pos (.inl (by exact unasked))]
    refine ⟨rfl, rfl, rfl, rfl, rfl, rfl, nofun, waits _ _ rfl ?_⟩
    dsimp only
    split
    · exact .inr rfl
    · exact .inl rfl

/-- A command whose reassignment mark is set makes its write-back (R126). -/
theorem endTransfer_saves {i : Item} {t : Transfer} {o : OutcomeCode} {s : State} {m : Mail}
    (stage : Stage i .data s) (mark : t.mark = true) (writable : s.cart.wp = false) (full : isFull s = true)
    (idle : s.chan.op = none)
    (steady : s.pos.state = .following ∨ s.pos.state = .seeking ∨ s.pos.state = .settling)
    (level : Unshifted s) (clean : { m with sector := none, told := none, note := none } = Mail.none) :
    let u := endTransfer t o true { s with mail := m }
    WorksOut 0 u u ∧ savesData t o s { u with mail := Mail.none } := by
  obtain ⟨-, slot, -, load, -⟩ := stage
  obtain ⟨n, full⟩ : ∃ n, s.record.session = .full n := by
    unfold isFull fullSession at full
    split at full
    · exact ⟨_, ‹_›⟩
    · cases full
  intro u
  obtain ⟨a, b, r, k, frame⟩ := endBuffers_frame t o { s with mail := m }
  let v : State := { s with
    mail := Mail.none, link := k, pos := { s.pos with requester := none, held := s.pos.held.map fun h => (h.1, none) }
    chan := { s.chan with slot0 := a, slot1 := b, readyTimer := r, gateWait := none
                          transfer := some { t with outcome := o, phase := .save } } }
  have begins : u = beginWriteBack v := by
    have still : restoreOffset (endBuffers t o { s with mail := m }) = endBuffers t o { s with mail := m } :=
      restoreOffset_of_unshifted (by rw [frame]; exact level)
    change endTransfer t o true { s with mail := m } = _
    unfold endTransfer
    rw [still, frame]
    refine (if_pos (by rw [mark]; rfl)).trans ?_
    refine congrArg beginWriteBack ?_
    change ({ v with mail := { m with sector := none, told := none, note := none } } : State) = v
    rw [clean]
  have back : BackBegun v u := begins ▸ beginWriteBack_steady full writable idle rfl steady rfl
  obtain ⟨chan, cu, fmt, mail, load', session, copies, waits⟩ := back
  refine ⟨.zero ?_, ?_⟩
  · exact advance_blocks_waits (by rw [cu]; exact slot) (load'.trans load) waits
      (by rw [chan]) mail (.inl rfl)
  · refine ⟨by rw [chan], by rw [chan], copies, session, cu⟩

/-! ### The next place of a block -/

/-- A command goes to the place of its block from FOLLOWING with no sector in work (R114). -/
theorem goToPlace_follows {t : Transfer} {s : State} (follows : s.pos.state = .following) (idle : s.chan.op = none)
    (told : s.mail.told = none) : ∃ q ph, (ph = .sector ∨ ph = .target)
      ∧ goToPlace t s = { s with pos := q, chan := { s.chan with transfer := some { t with phase := ph } } } := by
  unfold goToPlace
  cases there : onTarget t.place.cyl 0 s
  · have away : s.pos.target ≠ some { cyl := t.place.cyl, offset := 0 } := by
      intro target
      unfold onTarget at there
      rw [follows, target] at there
      simp at there
    rw [if_neg nofun, requestTarget_following_away (by exact told) (by exact follows) (by exact away),
      depart_of_none (by exact idle)]
    exact ⟨_, .target, .inr rfl, rfl⟩
  · rw [if_pos rfl]
    exact ⟨s.pos, .sector, .inl rfl, rfl⟩

end Sys2Proof.Machine

/-! ## Proofs: the blocks of a READ, VERIFY or WRITE -/

namespace Sys2Proof.Machine

/-! ### The sector in work ends -/

theorem sectorEnds_read {s : State} {p : Place} {q : Nat} {sig : ReadSignal} (op : s.chan.op = some (.read p))
    (ends : endsAt q (.read p) = true) : sectorEnds q sig s = sectorIs
      (if sig.ident = some (p.cyl, p.head, p.sector) ∧ sig.checkOk = true ∧ sig.data.length = 512 then .readOk sig.data
        else .readFailed) (closeOp s) := by
  unfold sectorEnds endSector
  rw [op]
  dsimp only
  rw [if_pos ends]
  split <;> rfl

/-- A WRITE's block is written whole, and no longer torn (R122, R124). -/
def blockWhole (s : State) (t : Transfer) : State := { closeOp s with
  chan := { (closeOp s).chan with
    transfer := some { t with torn := if t.torn = some (t.first + t.idx) then none else t.torn }
    reassign := s.chan.reassign.map fun r => { r with torn := false } }
  fmt := s.fmt.map fun f => if f.torn = s.chan.op.map SectorOp.place then { f with torn := none } else f }

theorem clearTorn_closed {s : State} {t : Transfer} {p : Place} {d : List Byte} (op : s.chan.op = some (.write p d))
    (copy : s.record.copyWrite = none) (work : s.chan.transfer = some t) :
    clearTorn p (closeOp s) = blockWhole s t := by
  unfold clearTorn blockWhole closeOp
  rw [copy, work, op]
  dsimp only [Option.isSome_none, Option.map_some, SectorOp.place]
  rw [if_neg nofun]
  split <;> rfl

theorem sectorEnds_write {s : State} {t : Transfer} {p : Place} {d : List Byte} {q : Nat} {sig : ReadSignal}
    (op : s.chan.op = some (.write p d)) (ends : endsAt q (.write p d) = true) (copy : s.record.copyWrite = none)
    (work : s.chan.transfer = some t) :
    sectorEnds q sig s = releaseHolder (sectorIs .written (blockWhole s t)) := by
  unfold sectorEnds endSector
  rw [op]
  dsimp only
  rw [if_pos ends, clearTorn_closed op copy work]
  rfl

/-! ### The requests of a WRITE -/

theorem fillFree_frame (b : BufSlot) (s : State) : ∃ x y, fillFree b s
    = { s with chan := { s.chan with slot0 := x, slot1 := y } } := by
  unfold fillFree
  split
  · exact ⟨_, _, rfl⟩
  · split <;> exact ⟨_, _, rfl⟩

theorem requestNext_frame {s : State} {t : Transfer} (work : s.chan.transfer = some t) : ∃ a b n l, requestNext s
    = { s with chan := { s.chan with slot0 := a, slot1 := b, transfer := some { t with nextRequest := n } }
               link := { s.link with line := l } } := by
  unfold requestNext
  rw [work]
  dsimp only
  split
  · obtain ⟨a, b, filled⟩ := fillFree_frame (.awaiting t.nextRequest)
      (setTransfer { t with nextRequest := t.nextRequest + 1 } s)
    rw [filled]
    exact ⟨_, _, _, _, rfl⟩
  · exact ⟨s.chan.slot0, s.chan.slot1, t.nextRequest, s.link.line, by rw [← work]⟩

theorem requestData_frame {s : State} {t : Transfer} (work : s.chan.transfer = some t) : ∃ a b n l, requestData s
    = { s with chan := { s.chan with slot0 := a, slot1 := b, transfer := some { t with nextRequest := n } }
               link := { s.link with line := l } } := by
  obtain ⟨a, b, n, l, first⟩ := requestNext_frame work
  obtain ⟨a', b', n', l', second⟩ := requestNext_frame (s := requestNext s) (t := { t with nextRequest := n })
    (by rw [first])
  refine ⟨a', b', n', l', ?_⟩
  unfold requestData
  rw [second, first]

/-- A block of a WRITE is done (R122). -/
theorem blockWritten_frame (t : Transfer) (s : State) : ∃ a b n l, blockWritten t s
    = { s with chan := { s.chan with slot0 := a, slot1 := b, transfer := some { t with
                  done := t.done + 1, idx := t.idx + 1, phase := .begin, chain := false, nextRequest := n } }
               link := { s.link with line := l } } := by
  obtain ⟨a, b, n, l, asks⟩ := requestData_frame (s := setTransfer { t with
    done := t.done + 1, idx := t.idx + 1, phase := .begin, chain := false } (setSlotOf t.idx .free s)) rfl
  refine ⟨a, b, n, l, asks.trans ?_⟩
  unfold setTransfer setSlotOf
  split
  · rfl
  · split <;> rfl

/-! ### The end of a command from FOLLOWING -/

theorem ended_replies {e : Entry} {o : OutcomeCode} {fields : List Byte} {s : State} (place : placesUsed s < 8) :
    (ended e o fields s).cu.slot = Slot.free ∧ (ended e o fields s).chan.transfer = none
      ∧ (ended e o fields s).link.outbox = s.link.outbox ++ [{
          tag := e.tag, code := e.code, outcome := o, fields, queued := true }] := by
  unfold ended
  dsimp only
  rw [if_pos place]
  exact ⟨rfl, rfl, rfl⟩

theorem ended_fault (e : Entry) (o : OutcomeCode) (fields : List Byte) (s : State) :
    (ended e o fields s).fault = s.fault := by
  unfold ended
  dsimp only
  split <;> rfl

/-- From `x` the state comes to `v` in n transitions. -/
def Comes (n : Nat) (x v : State) : Prop := ∀ m u, WorksOut m v u → WorksOut (m + n) x u

theorem Comes.one {x v : State} (h : advance x = some v) : Comes 1 x v := fun _ _ k => .step h k

theorem Comes.next {n : Nat} {x v w : State} (h : Comes n x v) (k : advance v = some w) : Comes (n + 1) x w := by
  intro m u out
  rw [← Nat.add_assoc, Nat.add_right_comm]
  exact h (m + 1) u (.step k out)

section
variable {e : Entry} {s : State} {t t0 : Transfer} {o : OutcomeCode} (stage : Stage (.command e) .data s)
  (follows : s.pos.state = .following) (idle : s.chan.op = none)
include stage follows idle

theorem endTransfer_follows {save : Bool} (code : framesGone t s → RepliesAs e t) (work : s.chan.transfer = some t0)
    (same : t0.cmd = t.cmd) (nothing : (save && t.mark) = false) (frames : t.cmd = .write ∨ o ≠ .dataTimeout) :
    let v : State := { s with pos := flattened s }
    ∃ n, n ≤ 1 ∧ ∃ u, WorksOut n (endTransfer t o save s) u
      ∧ answersData e t o v (cutShort t v) { u with mail := Mail.none } := by
  rw [endTransfer_flattened follows idle]
  exact endTransfer_worksOut (s := { s with pos := flattened s }) stage code work same nothing
    (.of_level (flattened_level s)) frames s.mail

theorem endTransfer_follows_saves (mark : t.mark = true) (writable : s.cart.wp = false) (full : isFull s = true) :
    let u := endTransfer t o true s
    WorksOut 0 u u ∧ savesData t o s { u with mail := Mail.none } := by
  have clean : { s.mail with sector := none, told := none, note := none } = Mail.none := by
    obtain ⟨-, -, mail, -⟩ := stage
    rw [mail]
    rfl
  rw [endTransfer_flattened follows idle]
  exact endTransfer_saves (s := { s with pos := flattened s }) stage mark writable full idle
    (flattened_state follows) (.of_level (flattened_level s)) clean

/-- A command that ends without frames of its is answered (R118, R126). -/
theorem Stage.end_answers {save : Bool} {n : Nat} {x : State} (comes : Comes n x (endTransfer t o save s))
    (code : RepliesAs e t) (work : s.chan.transfer = some t0) (same : t0.cmd = t.cmd)
    (nothing : (save && t.mark) = false) (frames : t.cmd = .write ∨ o ≠ .dataTimeout) (gone : framesGone t s)
    (few : n ≤ 63 := by decide) : settle x = ended e o (dataFields t) { s with pos := flattened s } := by
  obtain ⟨m, one, u, out, left⟩ := endTransfer_follows stage follows idle (fun _ => code) work same nothing frames
  rw [(comes m u out).settle (by omega)]
  exact left.1 gone

theorem Stage.end_saves {n : Nat} {x : State} (comes : Comes n x (endTransfer t o true s)) (mark : t.mark = true)
    (writable : s.cart.wp = false) (full : isFull s = true) (few : n ≤ 64 := by decide) : savesData t o s (settle x) := by
  obtain ⟨out, saves⟩ := endTransfer_follows_saves (o := o) stage follows idle mark writable full
  rw [(comes 0 _ out).settle (by omega)]
  exact saves

end

/-! ### The next block -/

section
variable {i : Item} {s : State} {t : Transfer} (stage : Stage i .data s) (work : s.chan.transfer = some t)
  (phase : t.phase = .begin) (time : t.timedOut = false) (abort : t.abortPending = false)
include stage work phase time abort

/-- With a block left the command goes on to it (R114). -/
theorem Stage.next_block (more : t.idx < t.count) (follows : s.pos.state = .following) (idle : s.chan.op = none) :
    ∃ q p k ph, (ph = .sector ∨ ph = .target) ∧ WorksOut 1 s { s with
      pos := q
      chan := { s.chan with transfer := some { t with
        place := p, spare := k, attempt := 1, offset := 0, firstPass := false, chain := false, phase := ph } } } := by
  have next : advance s = some (beginBlock t s) := by
    rw [stage.data_blocks work (by rw [phase]; nofun) (by rw [phase]; nofun) (.of_clear s time abort), advanceBlocks, phase]
  unfold beginBlock at next
  rw [if_neg (Nat.not_le.mpr more)] at next
  dsimp only at next
  obtain ⟨q, ph, which, goes⟩ := goToPlace_follows (s := s) (t := { t with
    place := (translate (sessionTable s).1 (sessionTable s).2 (t.first + t.idx)).1
    spare := (translate (sessionTable s).1 (sessionTable s).2 (t.first + t.idx)).2
    attempt := 1, offset := 0, firstPass := false, chain := false }) follows idle stage.told
  rw [goes] at next
  obtain ⟨-, slot, mail, load, copy⟩ := stage
  refine ⟨q, _, _, ph, which, .step next (.zero ?_)⟩
  refine advance_blocks_waits (by exact slot) (by exact load) (advanceCopies_none (by exact copy)) rfl (by exact mail) ?_
  refine .inr ⟨.of_clear _ time abort, ?_⟩
  cases which with
  | inl h => exact .inr (.inl h)
  | inr h => exact .inl h

/-- With no block left the command has ended (R118, R126). -/
theorem Stage.last_block (last : t.count ≤ t.idx) : advance s = some (endTransfer t (allDone t) true s) := by
  rw [stage.data_blocks work (by rw [phase]; nofun) (by rw [phase]; nofun) (.of_clear s time abort), advanceBlocks, phase]
  exact congrArg some (if_pos last)

end

theorem allDone_ne_dataTimeout (t : Transfer) : allDone t ≠ .dataTimeout := by
  unfold allDone
  split <;> nofun

/-! ### The end of a block's sector -/

section
variable {t : Transfer} {s : State}

theorem blockSectorEnds_read (other : t.cmd ≠ .write) (d : List Byte) :
    blockSectorEnds t (.readOk d) s = blockRead t d s := by
  unfold blockSectorEnds
  cases c : t.cmd with
  | write => exact absurd c other
  | read => rfl
  | verify => rfl

theorem blockSectorEnds_failed (other : t.cmd ≠ .write) {r : SectorResult} (fails : ∀ d, r ≠ .readOk d) :
    blockSectorEnds t r s = attemptFails t s := by
  unfold blockSectorEnds
  cases c : t.cmd with
  | write => exact absurd c other
  | read => cases r with
    | readOk d => exact absurd rfl (fails d)
    | _ => rfl
  | verify => cases r with
    | readOk d => exact absurd rfl (fails d)
    | _ => rfl

theorem blockSectorEnds_written (write : t.cmd = .write) : blockSectorEnds t .written s
    = if t.verifyOn = true ∧ (t.chain = true ∨ t.abortPending = false) then setTransfer { t with phase := .back } s
      else blockWritten t s := by
  unfold blockSectorEnds
  rw [write]

theorem blockSectorEnds_cut (write : t.cmd = .write) {r : SectorResult} (cut : r ≠ .written) :
    blockSectorEnds t r s = s := by
  unfold blockSectorEnds
  rw [write]
  cases r with
  | written => exact absurd rfl cut
  | _ => rfl

theorem frameBuffered_first (free0 : s.chan.slot0 = .free) (free1 : s.chan.slot1 = .free) (n : Nat) (d : List Byte) :
    frameBuffered n d s = { s with chan := { s.chan with
      slot0 := .holding n d, readyTimer := some (s.set.active.timeout * 1000000) } } := by
  have empty : readyFrame s = none := by
    unfold readyFrame
    rw [free0, free1]
    split
    · split <;> rfl
    · rfl
  unfold frameBuffered fillFree
  rw [empty, if_pos free0]
  rfl

theorem frameBuffered_next (work : s.chan.transfer = some t) (read : t.cmd = .read) {j : Nat} {x : List Byte}
    (held : s.chan.slot0 = .holding j x) (free1 : s.chan.slot1 = .free) (n : Nat) (d : List Byte) :
    frameBuffered n d s = { s with chan := { s.chan with slot1 := .holding n d } } := by
  have waits : readyFrame s = some (j, x) := by
    unfold readyFrame
    rw [work]
    dsimp only
    rw [if_pos read, held, free1]
  unfold frameBuffered fillFree
  rw [waits, held, free1, if_neg nofun, if_pos rfl]
  rfl

theorem readyFrame_of_first (work : s.chan.transfer = some t) (read : t.cmd = .read) {j : Nat} {x : List Byte}
    (held : s.chan.slot0 = .holding j x) : readyFrame s ≠ none := by
  unfold readyFrame
  rw [work]
  dsimp only
  rw [if_pos read, held]
  cases s.chan.slot1 with
  | holding k y => dsimp only; split <;> nofun
  | free => nofun
  | awaiting k => nofun

/-- With a frame buffered a READ goes on to its next block, or waits for its frames (R115, R118). -/
theorem Stage.frame_waits {e : Entry} {j : Nat} {b : List Byte} {x : State} (stage : Stage (.command e) .data s)
    (work : s.chan.transfer = some t) (read : t.cmd = .read) (phase : t.phase = .begin) (mark : t.mark = false)
    (time : t.timedOut = false) (abort : t.abortPending = false) (follows : s.pos.state = .following)
    (idle : s.chan.op = none) (frame : s.chan.slot0 = .holding j b) (first : advance x = some s) :
    (settle x).chan.op = none ∧ (settle x).chan.slot0 = s.chan.slot0 ∧ (settle x).chan.slot1 = s.chan.slot1
    ∧ (settle x).chan.readyTimer = s.chan.readyTimer ∧ ∃ t', (settle x).chan.transfer = some t'
      ∧ t'.done = t.done ∧ t'.recovered = t.recovered ∧ (t.idx < t.count → t'.idx = t.idx)
      ∧ (¬ t.idx < t.count → t'.phase = .drain ∧ t'.outcome = allDone t) := by
  by_cases more : t.idx < t.count
  · obtain ⟨q, p, k, ph, -, out⟩ := stage.next_block work phase time abort more follows idle
    rw [(WorksOut.step first out).settle]
    exact ⟨idle, rfl, rfl, rfl, _, rfl, rfl, rfl, fun _ => rfl, fun last => absurd more last⟩
  · have held : ¬ framesGone t s := by
      unfold framesGone
      rw [read]
      exact fun gone => readyFrame_of_first work read frame gone.2
    obtain ⟨n, few, u, out, -, waits⟩ := endTransfer_follows (o := allDone t) (save := true) stage follows idle
      (fun gone => absurd gone held) work rfl (by rw [mark]; rfl)
      (.inr (allDone_ne_dataTimeout t))
    rw [(WorksOut.step first (.step (stage.last_block work phase time abort (Nat.le_of_not_lt more)) out)).settle (by omega),
      waits held]
    unfold cutShort
    rw [read]
    exact ⟨idle, rfl, rfl, rfl, _, rfl, rfl, rfl, fun yes => absurd yes more, fun _ => ⟨rfl, rfl⟩⟩

end

/-! ### A failed attempt, and a moved block -/

section
variable {t : Transfer} {s : State} (time : t.timedOut = false)
include time

theorem attemptFails_last (last : t.limit < t.attempt) : attemptFails t s
    = endTransfer { t with failing := some (t.first + t.idx) } .dataCheck false (recorded .dataCheck s) := by
  unfold attemptFails
  rw [time, if_neg nofun, if_pos last]
  rfl

theorem attemptFails_again (more : t.attempt ≤ t.limit)
    (stays : t.abortPending = true ∨ attemptOffset (t.attempt + 1) = t.offset) :
    attemptFails t s = setTransfer { t with attempt := t.attempt + 1 } s := by
  unfold attemptFails
  rw [time, if_neg nofun, if_neg (Nat.not_lt.mpr more), if_pos stays]

theorem attemptFails_moves (more : t.attempt ≤ t.limit) (abort : t.abortPending = false)
    (moves : attemptOffset (t.attempt + 1) ≠ t.offset) (there : onTarget t.place.cyl t.offset s = true)
    (idle : s.chan.op = none) : attemptFails t s = newSeek { cyl := t.place.cyl, offset := attemptOffset (t.attempt + 1) }
      (some .channel) (dropTold (setTransfer { t with
        attempt := t.attempt + 1, offset := attemptOffset (t.attempt + 1), phase := .target } s)) := by
  obtain ⟨follows, target⟩ := onTarget_following there
  have away : s.pos.target ≠ some { cyl := t.place.cyl, offset := attemptOffset (t.attempt + 1) } := by
    rw [target]
    exact fun h => moves (congrArg Target.offset (Option.some.inj h)).symm
  unfold attemptFails
  rw [time, if_neg nofun, if_neg (Nat.not_lt.mpr more), if_neg fun h => h.elim (fun a => nomatch abort.symm.trans a) moves,
    requestTarget_of_following _ _ (by exact follows), if_neg (by exact away), depart_of_none (by exact idle)]

theorem moveBlock_refused {n : Session} (full : s.record.session = .full n) {o : OutcomeCode}
    (refused : reassignLba s.cart.wp n.type n.zones (t.first + t.idx) = .refused o) :
    moveBlock t s = endTransfer t o true s := by
  unfold moveBlock
  rw [time, if_neg nofun, sessionTable_full full, refused]

theorem moveBlock_moved {n : Session} (full : s.record.session = .full n) {k : Nat} {zones : List Zone}
    (moved : reassignLba s.cart.wp n.type n.zones (t.first + t.idx) = .moved k zones) :
    moveBlock t s = goToPlace { t with
        spare := some k
        place := slotPlace ((t.first + t.idx) / n.type.userSlots) (n.type.userSlots + k)
        reassigned := t.reassigned + (if t.chain then 0 else 1)
        chain := true, mark := true }
      { s with
        record := { s.record with session := .full { n with zones }, unsaved := true }
        chan := { s.chan with gateWait := none } } := by
  have changed : changeZones zones s
      = { s with record := { s.record with session := .full { n with zones }, unsaved := true } } := by
    unfold changeZones
    rw [full]
  have counts : (if t.chain = true then t.reassigned else t.reassigned + 1)
      = t.reassigned + (if t.chain = true then 0 else 1) := by split <;> rfl
  unfold moveBlock
  rw [time, if_neg nofun, sessionTable_full full, moved, ← counts]
  dsimp only
  rw [changed]
  rfl

end

end Sys2Proof.Machine

/-! ## Proofs: the stages of READ, VERIFY and WRITE -/

namespace Sys2Proof.Machine

/-! ### The start of a sector -/

section
variable {t : Transfer} {s : State}

theorem dataStart_pass {k : Nat} (pass : k ≠ t.place.sector ∨ t.phase ≠ .sector ∧ t.phase ≠ .back) :
    dataStart t k s = s := by
  unfold dataStart
  by_cases mine : k = t.place.sector
  · obtain ⟨noSector, noBack⟩ := pass.resolve_left fun h => h mine
    rw [if_neg fun h => h mine, if_neg noBack, if_pos noSector]
  · exact if_pos mine

theorem dataStart_back (back : t.phase = .back) : dataStart t t.place.sector s
    = if onTarget t.place.cyl 0 s && s.clk.locked then beginRead t.place s else s := by
  unfold dataStart
  rw [if_neg fun h => h rfl, if_pos back]

variable (sector : t.phase = .sector)
include sector

theorem dataStart_write (write : t.cmd = .write) : dataStart t t.place.sector s
    = match holdingData t.idx s with
      | none => s
      | some d => if writeGate t.place.cyl s then beginWrite t.place d (stopGateWait s) else startGateWait s := by
  unfold dataStart
  rw [if_neg fun h => h rfl, if_neg (by rw [sector]; nofun), if_neg fun h => h sector, if_pos write] <;> rfl

theorem dataStart_read (other : t.cmd ≠ .write) : dataStart t t.place.sector s
    = if (t.cmd = .read → hasFreeSlot s = true) ∧ onTarget t.place.cyl t.offset s = true then
        if s.clk.locked then beginRead t.place s
        else if t.attempt = 1 ∧ t.firstPass = false then setTransfer { t with firstPass := true } s
        else attemptFails t s
      else s := by
  unfold dataStart
  rw [if_neg fun h => h rfl, if_neg (by rw [sector]; nofun), if_neg fun h => h sector, if_neg other]
  by_cases room : t.cmd = .read → hasFreeSlot s = true
  · rw [if_neg fun h => Bool.false_ne_true (h.2.symm.trans (room h.1))]
    by_cases there : onTarget t.place.cyl t.offset s = true
    · exact (if_neg (by rw [there]; nofun)).trans (if_pos ⟨room, there⟩).symm
    · rw [if_pos (Bool.eq_false_iff.mpr there), if_neg fun h => there h.2]
  · rw [if_pos (by simpa using room), if_neg fun h => room h.1]

end

theorem hasFreeSlot_iff (s : State) : hasFreeSlot s = true ↔ s.chan.slot0 = .free ∨ s.chan.slot1 = .free := by
  simp [hasFreeSlot]

/-! ### An ended command -/

theorem ended_noMail (e : Entry) (o : OutcomeCode) (fields : List Byte) (s : State) :
    { ended e o fields s with mail := Mail.none } = ended e o fields s := by
  unfold ended
  dsimp only
  split <;> rfl

/-! ### The place of a block -/

theorem goToPlace_there {t : Transfer} {s : State} (there : onTarget t.place.cyl 0 s = true) :
    goToPlace t s = setTransfer { t with phase := .sector } s := if_pos there

theorem goToPlace_away {t : Transfer} {s : State} (away : onTarget t.place.cyl 0 s = false) :
    goToPlace t s = requestTarget { cyl := t.place.cyl, offset := 0 } (some .channel)
      (setTransfer { t with phase := .target } s) := if_neg (by rw [away]; nofun)

theorem onTarget_parked {cyl : Nat} {offset : Int} {s : State} (parked : s.pos.state = .parked) :
    onTarget cyl offset s = false := by
  unfold onTarget
  rw [parked]
  rfl

theorem readyFrame_setTransfer {t x : Transfer} {s : State} (work : s.chan.transfer = some t) (same : x.cmd = t.cmd) :
    readyFrame (setTransfer x s) = readyFrame s := by
  unfold readyFrame setTransfer
  rw [work]
  dsimp only
  rw [same]

theorem framesGone_setTransfer {t x : Transfer} {s : State} (g : Transfer) (work : s.chan.transfer = some t)
    (same : x.cmd = t.cmd) : framesGone g (setTransfer x s) ↔ framesGone g s := by
  unfold framesGone
  rw [readyFrame_setTransfer work same]
  rfl

/-- An end leaves the same, whatever the context stood at (R126). -/
theorem answersData.of_setTransfer {e : Entry} {t g x : Transfer} {o : OutcomeCode} {s u : State}
    (h : answersData e g o (setTransfer x s) (cutShort g (setTransfer x s)) u) (work : s.chan.transfer = some t)
    (same : g.cmd = t.cmd) (same' : x.cmd = t.cmd) : answersData e g o s (cutShort t s) u := by
  obtain ⟨answered, waits⟩ := h
  have gone := framesGone_setTransfer (x := x) g work same'
  refine ⟨fun h => answered (gone.mpr h), fun h => (waits fun k => h (gone.mp k)).trans ?_⟩
  unfold cutShort
  rw [same]
  rfl

theorem targetEnd_ne_dataTimeout (o : TargetOutcome) : targetEnd o ≠ .dataTimeout := by
  unfold targetEnd
  split <;> nofun

/-- The write-back of a command has answered: the reply, once its frames are gone (R126). -/
theorem Stage.save_answers {e : Entry} {t : Transfer} {res : RecordResult} {o : OutcomeCode} {s x : State}
    (stage : Stage (.command e) .data s) (work : s.chan.transfer = some t) (code : e.code = dataCode t.cmd)
    (first : advance x = some (setTransfer { t with outcome := o, result := res, phase := .drain } s)) :
    answersData e { t with result := res } o s s (settle x) := by
  obtain ⟨item, slot, mail, load, copy⟩ := stage
  let g : Transfer := { t with outcome := o, result := res, phase := .drain }
  have out := drain_worksOut (e := e) (t := g) (s := setTransfer g s) rfl rfl item slot
    (fun _ => .of_code code) load copy (congrArg Mail.note mail)
  have gone : framesGone g (setTransfer g s) ↔ framesGone { t with result := res } s :=
    framesGone_setTransfer g work rfl
  refine ⟨fun h => ?_, fun h => ?_⟩
  · rw [(WorksOut.step first (out.1 (gone.mpr h))).settle, ended_noMail]
    rfl
  · rw [(WorksOut.step first (out.2 fun k => h (gone.mp k))).settle, ← mail]
    rfl

/-- The result of the write-back is taken, with the fault that ended it if one did (R92, R126). -/
theorem Stage.data_saved {i : Item} {t : Transfer} {s : State} {m : Mail} {res : RecordResult} (stage : Stage i .data s)
    (work : s.chan.transfer = some t) (save : t.phase = .save) (saved : m.saved = some res)
    (clean : { m with saved := none, note := none } = Mail.none) : advance { s with mail := m }
      = some (setTransfer { t with
          outcome := match m.note with
            | some c => if c.isClass13 = true ∨ t.outcome = .done ∨ t.outcome = .recovered then endOutcome c else t.outcome
            | none => savedOutcome t.outcome res
          result := res, phase := .drain } s) := by
  obtain ⟨-, slot, mail, load, copy⟩ := stage
  have taken : dropNote { s with mail := { m with saved := none } } = s := by
    change ({ s with mail := { m with saved := none, note := none } } : State) = s
    rw [clean, ← mail]
  rw [advance_item (by exact load) (by exact copy), advanceItem_data (by exact slot)]
  unfold advanceData
  dsimp only
  rw [work]
  dsimp only
  rw [if_pos save, saved]
  unfold transferSaved
  dsimp only
  rw [taken] <;> rfl

theorem readBackEnds_same {t : Transfer} {s : State} {d : List Byte} (same : holdingData t.idx s = some d) :
    readBackEnds t (.readOk d) s = blockWritten t s := if_pos same

/-- Every other end of a read-back moves the block (R125). -/
theorem readBackEnds_other {t : Transfer} {s : State} {r : SectorResult}
    (other : r = .readFailed ∨ ∃ d, r = .readOk d ∧ holdingData t.idx s ≠ some d) :
    readBackEnds t r s = moveBlock t s := by
  obtain rfl | ⟨d, rfl, differs⟩ := other
  · rfl
  · exact if_neg differs

end Sys2Proof.Machine

namespace Sys2Proof

open Machine

/-- Settles O50: the end of the block's sector by what was in work, the wait for the frames, the start of a sector,
the way to the block's place, and the result of the write-back. -/
theorem blockEndsWithItsSector : Obligations.BlockEndsWithItsSector := by
  refine ⟨?_, ?_, ?_, ?_, ?_⟩
  · intro s e t q sig d work abort time mail copy load item slot aim u good ends reads more how late after answers buffered
    obtain ⟨follows, target⟩ := onTarget_following aim
    let c : State := closeOp s
    have stage : Stage (.command e) .data c := ⟨item, slot, mail, load, copy⟩
    have read (h : ends) : sectorEnds q sig s
        = sectorIs (if good then .readOk sig.data else .readFailed) c := sectorEnds_read h.1 h.2
    have hit (h : reads) (g : good) {v : State} (k : blockRead t sig.data c = v) :
        advance (sectorEnds q sig s) = some v := by
      obtain ⟨cmd, phase, -, -, -, op⟩ := h
      rw [read op, if_pos g, stage.data_sector work (by rw [phase]; nofun) (by rw [phase]; nofun),
        if_neg (by rw [phase]; nofun), blockSectorEnds_read cmd, k]
    have miss (h : reads) (g : ¬ good) {v : State} (k : attemptFails t c = v) :
        advance (sectorEnds q sig s) = some v := by
      obtain ⟨cmd, phase, -, -, -, op⟩ := h
      rw [read op, if_neg g, stage.data_sector work (by rw [phase]; nofun) (by rw [phase]; nofun),
        if_neg (by rw [phase]; nofun), blockSectorEnds_failed cmd (by nofun), k]
    have replies {o : OutcomeCode} {f : List Byte} {v : State} (answer : u = ended e o f v) (place : placesUsed v < 8)
        (same : v.link.outbox = s.link.outbox) : answers o f := by
      obtain ⟨slot', transfer, outbox⟩ := ended_replies (e := e) (o := o) (fields := f) place
      rw [same] at outbox
      exact ⟨answer ▸ slot', answer ▸ transfer, answer ▸ outbox⟩
    refine ⟨?_, ?_, ?_, ?_, ?_, ?_, ?_, ?_⟩
    · intro h g cmd free0 free1
      have marked : t.mark = false := h.2.2.2.1
      have first := hit h g ((if_pos cmd).trans
        (congrArg (setTransfer _) (frameBuffered_first (s := c) free0 free1 t.idx sig.data)))
      obtain ⟨op, slot0, -, ready, t', work', done, recovered, more', last⟩ :=
        Stage.frame_waits (by exact stage) (by rfl) (by exact cmd) (by rfl) (by exact marked) (by exact time)
          (by exact abort) (by exact follows) (by rfl) (by rfl) first
      exact ⟨op, slot0, ready, t', work', done, recovered, more', last⟩
    · intro j x held h g cmd free1
      have marked : t.mark = false := h.2.2.2.1
      have first := hit h g ((if_pos cmd).trans
        (congrArg (setTransfer _) (frameBuffered_next (s := c) work cmd held free1 t.idx sig.data)))
      obtain ⟨op, slot0, slot1, ready, t', work', done, recovered, more', last⟩ :=
        Stage.frame_waits (by exact stage) (by rfl) (by exact cmd) (by rfl) (by exact marked) (by exact time)
          (by exact abort) (by exact follows) (by rfl) (by exact held) first
      exact ⟨op, slot0.trans held, slot1, ready, t', work', done, recovered, more', last⟩
    · intro h g cmd more'
      have first := hit h g (if_neg (by rw [cmd]; nofun))
      let t' : Transfer := { t with recovered := late, idx := t.idx + 1, phase := .begin, done := t.done + 1 }
      obtain ⟨q', p, k, ph, -, out⟩ :=
        Stage.next_block (s := setTransfer t' c) (t := t') stage rfl rfl time abort more' follows rfl
      have left := (WorksOut.step first out).settle
      exact ⟨congrArg (·.chan.op) left, _, congrArg (·.chan.transfer) left, rfl, rfl, rfl⟩
    · intro h g cmd last code place
      obtain ⟨-, -, -, marked, unfailed, -⟩ := id h
      have first := hit h g (if_neg (by rw [cmd]; nofun))
      let t' : Transfer := { t with recovered := late, idx := t.idx + 1, phase := .begin, done := t.done + 1 }
      have ended := Stage.last_block (s := setTransfer t' c) (t := t') stage rfl rfl time abort (Nat.le_of_not_lt last)
      have answer := Stage.end_answers (s := setTransfer t' c) stage follows rfl ((Comes.one first).next ended)
        (by unfold RepliesAs; rw [show t'.cmd = .verify from cmd]; exact .inr code) rfl rfl marked
        (.inr (allDone_ne_dataTimeout t')) (by unfold framesGone; rw [show t'.cmd = .verify from cmd]; trivial)
      have fields : dataFields t' = [byte t.count, byte (t.done + 1), 0xFF#8, 0xFF#8, 0xFF#8, 0xFF#8] := by
        unfold dataFields
        rw [show t'.cmd = .verify from cmd, show t'.failing = none from unfailed]
        rfl
      rw [fields] at answer
      exact replies answer place rfl
    · intro h g tries
      obtain ⟨-, phase, -⟩ := id h
      by_cases stays : attemptOffset (t.attempt + 1) = t.offset
      · have first := miss h g (attemptFails_again time tries (.inr stays))
        have waits : advance (setTransfer { t with attempt := t.attempt + 1 } c) = none :=
          advance_blocks_waits slot load (advanceCopies_none copy) rfl mail
            (.inr ⟨.of_clear _ time abort, .inr (.inl phase)⟩)
        have left := (WorksOut.step first (.zero waits)).settle
        exact ⟨congrArg (·.chan.op) left, congrArg (·.chan.slot0) left, congrArg (·.chan.slot1) left,
          congrArg (·.fault.slot) left, { t with attempt := t.attempt + 1 }, congrArg (·.chan.transfer) left, rfl, rfl,
          stays.symm⟩
      · have first := miss h g (attemptFails_moves time tries abort stays aim rfl)
        have left := (WorksOut.step first (.zero (advance_blocks_waits slot load (advanceCopies_none copy) rfl
          (congrArg (fun m : Mail => { m with told := none }) mail) (.inr ⟨.of_clear _ time abort, .inl rfl⟩)))).settle
        exact ⟨congrArg (·.chan.op) left, congrArg (·.chan.slot0) left, congrArg (·.chan.slot1) left,
          congrArg (·.fault.slot) left, { t with
            attempt := t.attempt + 1, offset := attemptOffset (t.attempt + 1), phase := .target },
          congrArg (·.chan.transfer) left, rfl, rfl, rfl⟩
    · intro h g tried code place free0 free1 unsent
      obtain ⟨cmd, -, -, marked, -⟩ := id h
      let t' : Transfer := { t with failing := some (t.first + t.idx) }
      have comes := Comes.one (miss h g (attemptFails_last time tried))
      have quiet : readyFrame (recorded .dataCheck c) = none := by
        unfold readyFrame
        rw [show (recorded .dataCheck c).chan.slot0 = .free from free0,
          show (recorded .dataCheck c).chan.slot1 = .free from free1]
        split
        · split <;> rfl
        · rfl
      have gone : framesGone t' (recorded .dataCheck c) := by
        unfold framesGone
        split
        · exact ⟨unsent, quiet⟩
        · rename_i w
          exact absurd w cmd
        · trivial
      have answer := Stage.end_answers (e := e) (t := t') (s := recorded .dataCheck c) stage follows rfl comes
        (by unfold RepliesAs; rw [if_neg (by exact cmd)]; exact code) work rfl rfl (.inr nofun) gone
      have fields : dataFields t' = [byte t.count, byte t.done] ++ be32 (t.first + t.idx) := by
        unfold dataFields
        split
        · rename_i w
          exact absurd w cmd
        · rfl
      rw [fields] at answer
      exact ⟨by rw [show u = _ from answer, ended_fault]; rfl, replies answer place rfl⟩
    · intro writes torn
      let t1 : Transfer := { t with torn }
      let c1 : State := blockWhole s t
      have stage1 : Stage (.command e) .data c1 := ⟨item, slot, mail, load, copy⟩
      have wrote (h : writes) : sectorEnds q sig s = sectorIs .written c1 := by
        obtain ⟨-, -, op, at_, holder⟩ := h
        rw [sectorEnds_write op at_ copy work, releaseHolder_eq, if_pos (by exact holder)]
      have takes (h : writes) {v : State} (k : blockSectorEnds t1 .written c1 = v) : advance (sectorEnds q sig s) = some v := by
        rw [wrote h]
        obtain ⟨-, phase, -⟩ := h
        rw [stage1.data_sector (t := t1) rfl (by rw [show t1.phase = .sector from phase]; nofun)
          (by rw [show t1.phase = .sector from phase]; nofun), if_neg (by rw [show t1.phase = .sector from phase]; nofun), k]
      obtain ⟨a, b, n, l, frame⟩ := blockWritten_frame t1 c1
      let t2 : Transfer := { t1 with done := t.done + 1, idx := t.idx + 1, phase := .begin, chain := false, nextRequest := n }
      let v : State := { c1 with
        chan := { c1.chan with slot0 := a, slot1 := b, transfer := some t2 }, link := { s.link with line := l } }
      have done (h : writes) (off : t.verifyOn = false) : advance (sectorEnds q sig s) = some v := by
        refine takes h ((blockSectorEnds_written (by exact h.1)).trans ?_)
        rw [if_neg fun k => Bool.false_ne_true (off.symm.trans k.1)]
        exact frame
      have stage2 : Stage (.command e) .data v := stage1
      refine ⟨fun h => ?_, fun h off more' => ?_, fun h off last marked writable ⟨r, full⟩ => ?_,
        fun h off last marked empty code place => ?_, fun h on' => ?_⟩
      · have shut : Shut (sectorIs .written c1) := ⟨rfl, rfl, rfl, h.2.2.2.2⟩
        rw [← wrote h] at shut
        obtain ⟨op, gate, current, -⟩ := shut.settle
        exact ⟨op, gate, current⟩
      · obtain ⟨q', p, k, ph, -, out⟩ := stage2.next_block (t := t2) rfl rfl time abort more' follows rfl
        have left := (WorksOut.step (done h off) out).settle
        exact ⟨_, congrArg (·.chan.transfer) left, rfl, rfl, rfl⟩
      · have ended' := stage2.last_block (t := t2) rfl rfl time abort (Nat.le_of_not_lt last)
        obtain ⟨work', -⟩ := stage2.end_saves follows rfl ((Comes.one (done h off)).next ended') marked writable
          (by unfold isFull fullSession; rw [show v.record.session = .full r from full]; rfl)
        exact ⟨_, work', rfl, rfl, rfl⟩
      · have ended' := stage2.last_block (t := t2) rfl rfl time abort (Nat.le_of_not_lt last)
        have write : t2.cmd = .write := h.1
        have answer := stage2.end_answers follows rfl ((Comes.one (done h off)).next ended')
          (by unfold RepliesAs; rw [if_pos write]; exact code) rfl rfl (by rw [show t2.mark = false from marked]; rfl)
          (.inl write) (by unfold framesGone; rw [write]; exact empty)
        have fields : dataFields t2 = [byte t.count, byte (t.done + 1)] ++ opt32 torn
            ++ [byte t.reassigned, byte t.result.code] := by
          unfold dataFields
          rw [write]
          exact (List.append_assoc _ _ _).symm
        rw [fields] at answer
        exact replies answer place rfl
      · have first := takes h ((blockSectorEnds_written (by exact h.1)).trans (if_pos ⟨on', .inr abort⟩))
        have left := (WorksOut.step first (.zero (advance_blocks_waits slot load (advanceCopies_none copy) rfl mail
          (.inr ⟨.of_clear _ time abort, .inr (.inr (.inl rfl))⟩)))).settle
        exact ⟨_, congrArg (·.chan.transfer) left, rfl⟩
    · intro backs same table moves
      have takes (h : backs) {v : State} (k : readBackEnds t (if good then .readOk sig.data else .readFailed) c = v) :
          advance (sectorEnds q sig s) = some v := by
        obtain ⟨-, phase, op⟩ := h
        rw [read op, stage.data_sector work (by rw [phase]; nofun) (by rw [phase]; nofun), if_pos phase, k]
      have differs (h : backs) (other : ¬ same) : advance (sectorEnds q sig s) = some (moveBlock t c) := by
        refine takes h (readBackEnds_other ?_)
        split
        · rename_i g
          exact .inr ⟨sig.data, rfl, fun k => other ⟨g, k⟩⟩
        · exact .inl rfl
      refine ⟨fun h eq more' => ?_, fun r full k zones moved h other => ?_,
        fun r full o refused h other writable marked => ?_, fun r full o refused h other marked empty code place => ?_⟩
      · obtain ⟨a, b, n, l, frame⟩ := blockWritten_frame t c
        have first := takes h (by rw [if_pos eq.1, readBackEnds_same (s := c) eq.2, frame])
        let t2 : Transfer := { t with done := t.done + 1, idx := t.idx + 1, phase := .begin, chain := false, nextRequest := n }
        obtain ⟨q', p, k, ph, -, out⟩ := Stage.next_block (t := t2) (s := { c with
          chan := { c.chan with slot0 := a, slot1 := b, transfer := some t2 }, link := { s.link with line := l } })
          stage rfl rfl time abort more' follows rfl
        have left := (WorksOut.step first out).settle
        exact ⟨congrArg (·.record) left, _, congrArg (·.chan.transfer) left, rfl, rfl, rfl⟩
      · have first := differs h other
        let t2 : Transfer := { t with
          spare := some k
          place := slotPlace ((t.first + t.idx) / r.type.userSlots) (r.type.userSlots + k)
          reassigned := t.reassigned + (if t.chain then 0 else 1)
          chain := true, mark := true }
        obtain ⟨q', ph, which, goes⟩ := goToPlace_follows (t := t2)
          (s := { c with
            record := { c.record with session := .full { r with zones }, unsaved := true }
            chan := { c.chan with gateWait := none } }) follows rfl (congrArg Mail.told mail)
        rw [moveBlock_moved (s := c) time full moved, goes] at first
        have left := (WorksOut.step first (.zero (advance_blocks_waits slot load (advanceCopies_none copy) rfl mail
          (.inr ⟨.of_clear _ time abort, which.elim (fun h => .inr (.inl h)) .inl⟩)))).settle
        exact ⟨congrArg (·.record.session) left, congrArg (·.record.unsaved) left, congrArg (·.chan.gateWait) left,
          { t2 with phase := ph }, congrArg (·.chan.transfer) left, rfl, rfl, rfl, rfl, rfl, rfl, rfl, which⟩
      · obtain ⟨work', -, -, session, -⟩ := stage.end_saves follows rfl (Comes.one ((differs h other).trans
          (congrArg some (moveBlock_refused (s := c) time full refused)))) marked writable
          (by unfold isFull fullSession; rw [show c.record.session = .full r from full]; rfl)
        exact ⟨session, _, work', rfl, rfl, rfl⟩
      · obtain ⟨write, -⟩ := id h
        have answer := stage.end_answers follows rfl (Comes.one ((differs h other).trans
          (congrArg some (moveBlock_refused (s := c) time full refused))))
          (by unfold RepliesAs; rw [if_pos write]; exact code) work rfl (by rw [marked]; rfl)
          (.inl write) (by unfold framesGone; rw [write]; exact empty)
        have fields : dataFields t = [byte t.count, byte t.done] ++ opt32 t.torn
            ++ [byte t.reassigned, byte t.result.code] := by
          unfold dataFields
          rw [write]
          exact (List.append_assoc _ _ _).symm
        rw [fields] at answer
        exact replies answer place rfl
  · intro s e t work drain stage gone
    obtain ⟨item, slot, mail, load, copy⟩ := stage
    have out (code : framesGone t s → RepliesAs e t) := drain_worksOut work drain item slot code load copy (by rw [mail]; rfl)
    have answered (code : RepliesAs e t) (none : framesGone t s) : settle s = ended e t.outcome (dataFields t) s := by
      rw [((out fun _ => code).1 none).settle, ended_noMail]
    have waits (some' : ¬ framesGone t s) : settle s = s := by
      rw [((out fun k => absurd k some').2 some').settle, ← mail]
    refine ⟨fun read none code => ?_, fun write none code => ?_, fun read held => ?_, fun write held => ?_⟩
    · rw [answered (by unfold RepliesAs; rw [read]; exact .inl code) (by unfold framesGone; rw [read]; exact none)]
      unfold dataFields
      rw [read]
    · rw [answered (by unfold RepliesAs; rw [write]; exact code) (by unfold framesGone; rw [write]; exact none)]
      unfold dataFields
      rw [write, List.append_assoc]
    · exact waits (by unfold framesGone; rw [read]; exact held)
    · exact waits (by unfold framesGone; rw [write]; exact held)
  · intro s t k work idle copy load u to' starts mine reads room may fresh lost next writes gate back
    have begins : u = dataStart t k s := by
      change sectorStart k s = _
      unfold sectorStart
      rw [idle, copy, load, work]
      rfl
    have opens (h : may) : dataStart t k s = if s.clk.locked then beginRead t.place s
        else if t.attempt = 1 ∧ t.firstPass = false then setTransfer { t with firstPass := true } s
        else attemptFails t s := by
      obtain ⟨⟨mine', sector, other⟩, free, there⟩ := h
      rw [mine', dataStart_read sector other, if_pos ⟨fun r => (hasFreeSlot_iff s).mpr (free r), there⟩]
    have fails (h : lost) : u = attemptFails t s := by
      obtain ⟨may', lock, stale, -⟩ := h
      rw [begins, opens may', lock, if_neg nofun, if_neg stale]
    refine ⟨fun h => ?_, fun h no => ?_, fun h lock => ?_, fun h lock first => ?_, fun h tries stays => ?_,
      fun h tries moves => ?_, fun h tried => ?_, fun h empty => ?_, fun d h data ok => ?_, fun d h data no => ?_,
      fun h there lock => ?_, fun h no => ?_⟩
    · rw [begins]
      exact dataStart_pass h
    · obtain ⟨mine', sector, other⟩ := h
      rw [begins, mine', dataStart_read sector other, if_neg]
      exact fun h => no ⟨⟨mine', sector, other⟩, fun r => (hasFreeSlot_iff s).mp (h.1 r), h.2⟩
    · rw [begins, opens h, lock]
      rfl
    · rw [begins, opens h, lock, if_neg nofun, if_pos first]
      rfl
    · rw [fails h, attemptFails_again h.2.2.2.1 tries (.inr stays)]
      rfl
    · have moved := (fails h).trans (attemptFails_moves h.2.2.2.1 tries h.2.2.2.2 moves h.1.2.2 idle)
      rw [moved]
      exact ⟨rfl, rfl, rfl, rfl⟩
    · have last := (fails h).trans (attemptFails_last h.2.2.2.1 tried)
      obtain ⟨follows, -⟩ := onTarget_following h.1.2.2
      have other : t.cmd ≠ .write := h.1.1.2.2
      rw [last, endTransfer_flattened (by exact follows) (by exact idle),
        endTransfer_plain (save := false) (by rfl) (.of_level (flattened_level (recorded .dataCheck s))) (.inr (by nofun))]
      unfold cutShort
      split <;> exact ⟨rfl, rfl⟩
    · rw [begins, h.1, dataStart_write h.2.1 h.2.2, empty]
    · rw [begins, h.1, dataStart_write h.2.1 h.2.2, data]
      dsimp only
      rw [if_pos ((writeGate_iff _ _).mpr ok)]
      rfl
    · rw [begins, h.1, dataStart_write h.2.1 h.2.2, data]
      dsimp only
      rw [if_neg fun g => no ((writeGate_iff _ _).mp g), startGateWait_eq]
    · rw [begins, h.1, dataStart_back h.2, there, lock]
      rfl
    · rw [begins, h.1, dataStart_back h.2, if_neg (not_reads no)]
  · intro s e t n work stage code abort time full to' p g begins table
    obtain ⟨item, slot, mail, load, copy⟩ := id stage
    have still (h : t.phase = .save ∨ t.Undue s ∧ (t.phase = .target ∨ t.phase = .sector ∨ t.phase = .back
        ∨ t.phase = .spin ∧ s.spin.state ≠ .atSpeed)) : settle s = s := by
      rw [settle_of_done (advance_blocks_waits slot load (advanceCopies_none copy) work mail h), ← mail]
    have undue : t.Undue s := .of_clear s time abort
    have goes (h : begins) : ∃ k, k ≤ 2 ∧ Comes k s (goToPlace (g .begin) s) := by
      obtain ⟨spin | begin', more⟩ := h
      · obtain ⟨spin, turns⟩ := spin
        have first : advance s = some (setTransfer { t with phase := .begin } s) := by
          rw [stage.data_blocks work (by rw [spin]; nofun) (by rw [spin]; nofun) undue, advanceBlocks, spin]
          exact if_pos turns
        refine ⟨2, le_rfl, (Comes.one first).next ?_⟩
        rw [Stage.data_blocks (s := setTransfer { t with phase := .begin } s) stage rfl nofun nofun
          (.of_clear _ time abort)]
        change some (beginBlock _ _) = _
        unfold beginBlock
        rw [if_neg (Nat.not_le.mpr (by exact more)), sessionTable_full (by exact full)]
        rfl
      · refine ⟨1, by omega, Comes.one ?_⟩
        rw [stage.data_blocks work (by rw [begin']; nofun) (by rw [begin']; nofun) undue, advanceBlocks, begin']
        change some (beginBlock _ _) = _
        unfold beginBlock
        rw [if_neg (Nat.not_le.mpr more), sessionTable_full full]
        rfl
    have arrives (h : begins) {v : State} (k : goToPlace (g .begin) s = v) (waits : advance v = none)
        (quiet : v.mail = Mail.none) : settle s = v := by
      obtain ⟨m, few, comes⟩ := goes h
      rw [(comes 0 v (k ▸ .zero (k.symm ▸ waits))).settle (by omega), ← quiet]
    have fails {x : TargetOutcome} {o : OutcomeCode} (row : (x, o) ∈ table) : x ≠ .complete ∧ targetEnd x = o := by
      simp only [table, List.mem_cons, Prod.mk.injEq, List.not_mem_nil, or_false] at row
      obtain ⟨rfl, rfl⟩ | ⟨rfl, rfl⟩ | ⟨rfl, rfl⟩ | ⟨rfl, rfl⟩ | ⟨rfl, rfl⟩ := row <;> exact ⟨nofun, rfl⟩
    refine ⟨fun spin slow => ?_, fun h => ?_, fun h there => ?_, fun h parked may => ?_, fun h parked turns held marked => ?_,
      fun h follows idle away => ?_, fun target => ?_, fun x o row target marked level => ?_,
      fun x o row target marked saveable => ?_⟩
    · exact still (.inr ⟨undue, .inr (.inr (.inr ⟨spin, slow⟩))⟩)
    · exact still (.inr ⟨undue, h.imp_right fun k => k.imp_right .inl⟩)
    · exact arrives h (goToPlace_there there) (advance_blocks_waits slot load (advanceCopies_none copy) rfl mail
        (.inr ⟨.of_clear _ time abort, .inr (.inl rfl)⟩)) mail
    · refine arrives h ((goToPlace_away (onTarget_parked parked)).trans
        (requestTarget_loads stage.told (by exact parked) (by exact may))) ?_ mail
      exact advance_blocks_waits slot load (advanceCopies_none copy) rfl mail
        (.inr ⟨.of_clear _ time abort, .inl rfl⟩)
    · obtain ⟨m, few, comes⟩ := goes h
      let v : State := setTransfer (g .target) s
      have refuses : goToPlace (g .begin) s = tell (.notLoaded .faultHeld) v := by
        have why : loadFailure v = some .faultHeld := by
          unfold loadFailure
          rw [if_neg (by exact fun k => k turns), if_pos (by exact held)]
        rw [goToPlace_away (onTarget_parked parked), requestTarget_parked (by exact stage.told) (by exact parked),
          requestParked, show loadFailure _ = _ from why]
      have told : advance (tell (.notLoaded .faultHeld) v)
          = some (endTransfer (g .target) .faultPending true (tell (.notLoaded .faultHeld) v)) :=
        Stage.data_told (s := v) stage rfl nofun nofun rfl (.of_clear v time abort) (by nofun)
      have away : Unshifted v := fun _ _ => .inr (by unfold headsGone; rw [show v.pos.state = .parked from parked]; rfl)
      obtain ⟨j, one, u, out, left⟩ := endTransfer_worksOut (s := v) (t := g .target) (o := .faultPending) (save := true)
        stage (fun _ => .of_code code) rfl rfl (by exact marked) away (.inr (by nofun))
        { s.mail with told := some (.notLoaded .faultHeld) }
      have answer := left.of_setTransfer (s := s) (x := g .target) work rfl rfl
      rw [refuses] at comes
      rw [(comes.next told j u out).settle (by omega)]
      exact answer
    · have away' : s.pos.target ≠ some { cyl := p.1.cyl, offset := 0 } := by
        intro there
        unfold onTarget at away
        rw [follows, there] at away
        simp at away
      have moved := (goToPlace_away (t := g .begin) away).trans
        ((requestTarget_following_away (by exact stage.told) (by exact follows) (by exact away')).trans
          (congrArg _ (depart_of_none (by exact idle))))
      rw [arrives h moved (advance_blocks_waits slot load (advanceCopies_none copy) rfl mail
        (.inr ⟨.of_clear _ time abort, .inl rfl⟩)) mail]
      exact ⟨rfl, rfl, rfl, rfl⟩
    · have told := stage.data_arrived work (by rw [target]; nofun) (by rw [target]; nofun) target undue
      have waits : advance (to' { t with phase := .sector } s) = none :=
        advance_blocks_waits slot load (advanceCopies_none copy) rfl mail (.inr ⟨.of_clear _ time abort, .inr (.inl rfl)⟩)
      rw [(WorksOut.step told (.zero waits)).settle]
      change ({ to' { t with phase := .sector } s with mail := Mail.none } : State) = _
      rw [← mail]
    · obtain ⟨other, rfl⟩ := fails row
      have told := stage.data_told work (by rw [target]; nofun) (by rw [target]; nofun) target undue other
      obtain ⟨j, one, u, out, left⟩ := endTransfer_worksOut (t := t) (o := targetEnd x) (save := true) stage
        (fun _ => .of_code code) work rfl (by rw [marked]; rfl) (.of_level level) (.inr (targetEnd_ne_dataTimeout x))
        { s.mail with told := some x }
      rw [(WorksOut.step told out).settle (by omega)]
      exact left
    · obtain ⟨other, rfl⟩ := fails row
      obtain ⟨writable, follows, idle, full', level⟩ := saveable
      have told := stage.data_told work (by rw [target]; nofun) (by rw [target]; nofun) target undue other
      obtain ⟨out, saves⟩ := endTransfer_saves (t := t) (o := targetEnd x) (m := { s.mail with told := some x }) stage
        marked writable full' idle (.inl follows) (.of_level level) (by rw [mail]; rfl)
      rw [(WorksOut.step told out).settle (by omega)]
      exact saves
  · intro s e t res work stage code phase done u w answers
    have saved {m : Mail} (h : m.saved = some res) (clean : { m with saved := none, note := none } = Mail.none) :=
      stage.data_saved work phase h clean
    obtain ⟨-, slot, mail, load, copy⟩ := id stage
    have clean (c : Option FaultClass) : ({ ({ s.mail with saved := some res, note := c } : Mail) with
        saved := none, note := none } : Mail) = Mail.none := by
      rw [mail]
      rfl
    have plain : advance (savedAs res s) = some (setTransfer { t with
        outcome := savedOutcome t.outcome res, result := res, phase := .drain } s) := by
      have next := saved (m := { s.mail with saved := some res }) rfl (by rw [mail]; rfl)
      rw [show ({ s.mail with saved := some res } : Mail).note = none from stage.note] at next
      exact next
    have faulted (c : FaultClass) := saved (m := { s.mail with saved := some res, note := some c }) rfl (clean _)
    have replies {x : State} {o o' : OutcomeCode} (first : advance x = some (setTransfer { t with
        outcome := o', result := res, phase := .drain } s)) (same : o' = o) : answers o (settle x) := by
      subst same
      exact stage.save_answers work code first
    refine ⟨?_, fun ends some' => replies plain ?_, fun ends none => replies plain ?_, fun other => replies plain ?_,
      fun c h => replies (faulted c) ?_, fun c h other => replies (faulted c) ?_, fun c h ends => replies (faulted c) ?_⟩
    · rw [settle_of_done (advance_blocks_waits slot load (advanceCopies_none copy) work mail (.inl phase)), ← mail]
    · unfold savedOutcome
      rw [if_pos ends]
      obtain rfl | rfl := some' <;> rfl
    · unfold savedOutcome
      rw [if_pos ends, none]
    · exact if_neg other
    · dsimp only
      rw [if_pos (.inl (isClass13_of h)), endOutcome_of_class13 h]
    · dsimp only
      rw [if_neg fun k => k.elim (fun high => nomatch (isClass13_of_not h).symm.trans high) other]
    · dsimp only
      rw [if_pos (.inr ends), endOutcome_of_seekFailed h]

end Sys2Proof

/-! ## Proofs: the cut of a sector write, and the ends of a data command -/

namespace Sys2Proof.Machine

/-! ### A closed channel -/

theorem Shut.releaseHolder {s : State} (op : s.chan.op = none) (gate : s.chan.wgate = false)
    (current : s.chan.writeCurrent = 0) : Shut (releaseHolder s) := by
  unfold Machine.releaseHolder
  split
  · rename_i empty
    exact ⟨op, gate, current, empty⟩
  · exact Shut.noteEnd (s := offer _ { s with fault := { s.fault with holder := none } }) ⟨op, gate, current, rfl⟩ _

/-- A sector write that is cut leaves the gate closed and the holder empty (R124, R155). -/
theorem cutWrite_shut {s : State} {p : Place} {d : List Byte} (op : s.chan.op = some (.write p d)) :
    Shut (cutWrite s) := by
  have closed : (markTorn p (closeOp s)).chan.op = none ∧ (markTorn p (closeOp s)).chan.wgate = false
      ∧ (markTorn p (closeOp s)).chan.writeCurrent = 0 := by
    unfold markTorn
    split <;> exact ⟨rfl, rfl, rfl⟩
  obtain ⟨idle, gate, current⟩ := closed
  unfold cutWrite
  rw [op]
  exact Shut.releaseHolder (s := sectorResult .cut (markTorn p (closeOp s))) idle gate current

theorem writing_op {s : State} (gate : GateLaw s) (on : s.chan.wgate = true) :
    ∃ p d, s.chan.op = some (.write p d) := by
  obtain ⟨same, -⟩ := gate
  have writes : writing s = true := same.symm.trans on
  unfold writing at writes
  split at writes
  · exact ⟨_, _, ‹_›⟩
  · cases writes

/-! ### The ends of a data command -/

theorem setTransfer_self {s : State} {t : Transfer} (work : s.chan.transfer = some t) : setTransfer t s = s := by
  unfold setTransfer
  rw [← work]

/-- What the end of a command leaves: its answer, the wait for its frames, or its write-back (R118, R126). -/
abbrev EndsAs (e : Entry) (t g : Transfer) (o : OutcomeCode) (s u : State) : Prop :=
  (t.mark = false ∧ Level s → answersData e g o s (cutShort t s) u) ∧ (t.mark = true ∧ Saveable s → savesData g o s u)

section
variable {e : Entry} {t g y : Transfer} {o : OutcomeCode} {s x : State} {m : Mail} {n : Nat}
  (stage : Stage (.command e) .data s)
include stage

theorem Stage.saves_as (mark : g.mark = true) (saveable : Saveable s)
    (clean : { m with sector := none, told := none, note := none } = Mail.none)
    (comes : Comes n x (endTransfer g o true { setTransfer y s with mail := m })) (few : n ≤ 63 := by decide) :
    savesData g o s (settle x) := by
  obtain ⟨writable, follows, idle, full, level⟩ := saveable
  obtain ⟨out, saves⟩ := endTransfer_saves (s := setTransfer y s) (t := g) (o := o) (m := m) stage mark
    writable full idle (.inl follows) (.of_level level) clean
  rw [(comes 0 _ out).settle (by omega)]
  exact saves

variable (code : e.code = dataCode t.cmd) (work : s.chan.transfer = some t)
  (cmd : g.cmd = t.cmd) (mark : g.mark = t.mark) (frames : t.cmd = .write ∨ o ≠ .dataTimeout)
  (clean : { m with sector := none, told := none, note := none } = Mail.none)
include code work cmd mark frames clean

theorem Stage.ends_as (cmd' : y.cmd = t.cmd)
    (comes : Comes n x (endTransfer g o true { setTransfer y s with mail := m })) (few : n ≤ 63 := by decide) :
    EndsAs e t g o s (settle x) := by
  refine ⟨fun ⟨marked, level⟩ => ?_, fun ⟨marked, saveable⟩ =>
    stage.saves_as (mark.trans marked) saveable clean comes few⟩
  obtain ⟨k, one, u, out, left⟩ := endTransfer_worksOut (s := setTransfer y s) (t := g) (o := o) (save := true) stage
    (fun _ => .of_code (by rw [cmd]; exact code)) rfl (cmd'.trans cmd.symm) (by rw [mark, marked]; rfl)
    (.of_level level) (by rw [cmd]; exact frames) m
  have answer := left.of_setTransfer (s := s) (x := y) work cmd cmd'
  rw [(comes k u out).settle (by omega)]
  exact answer

theorem Stage.ends_now (comes : Comes n x (endTransfer g o true { s with mail := m })) (few : n ≤ 63 := by decide) :
    EndsAs e t g o s (settle x) :=
  stage.ends_as code work cmd mark frames clean (y := t) rfl (by rw [setTransfer_self work]; exact comes) few

end

theorem Stage.clean {i : Item} {w : Work} {s : State} (stage : Stage i w s) (a : Option SectorResult)
    (b : Option TargetOutcome) (c : Option FaultClass) : { ({ s.mail with sector := a, told := b, note := c } : Mail) with
      sector := none, told := none, note := none } = Mail.none := by
  obtain ⟨-, -, mail, -⟩ := stage
  rw [mail]
  rfl

/-! ### The data timeout of a READ or VERIFY -/

theorem dropHolding_of_unsent {sending : Option Outbound} (unsent : ∀ i d, sending ≠ some (.data i d)) (b : BufSlot)
    (j : Nat) (x : List Byte) : dropHolding sending b ≠ .holding j x := by
  unfold dropHolding
  split
  · split
    · exact absurd rfl (unsent _ _)
    · nofun
  · rename_i other
    exact fun h => other j x h

theorem readyFrame_of_dropped {s : State} (unsent : ∀ i d, s.link.send ≠ some (.data i d)) :
    readyFrame (dropFrames s) = none := by
  have free0 := dropHolding_of_unsent unsent s.chan.slot0
  have free1 := dropHolding_of_unsent unsent s.chan.slot1
  have none (a b : BufSlot) (no0 : ∀ j x, a ≠ .holding j x) (no1 : ∀ j x, b ≠ .holding j x) (u : State)
      (is0 : u.chan.slot0 = a) (is1 : u.chan.slot1 = b) : readyFrame u = none := by
    unfold readyFrame
    rw [is0, is1]
    cases a with
    | holding j x => exact absurd rfl (no0 j x)
    | free => cases b with
      | holding j x => exact absurd rfl (no1 j x)
      | _ => split <;> simp
    | awaiting i => cases b with
      | holding j x => exact absurd rfl (no1 j x)
      | _ => split <;> simp
  exact none _ _ free0 free1 (dropFrames s) rfl rfl

theorem cutShort_of_read {t : Transfer} (other : t.cmd ≠ .write) (s : State) :
    cutShort t s = dropRequester (stopGateWait s) := by
  rw [← stopped_eq (o := .done) (.inr nofun) s, endBuffers_of_read (o := .done) other (by nofun)]

/-- A READ or VERIFY whose data timer has run out, with no frame of its being sent (R127). -/
theorem Stage.late_answers {e : Entry} {t : Transfer} {s x : State} {n : Nat} (stage : Stage (.command e) .data s)
    (code : e.code = dataCode t.cmd) (work : s.chan.transfer = some t) (other : t.cmd ≠ .write) (mark : t.mark = false)
    (level : Level s) (unsent : t.cmd = .read → ∀ i d, s.link.send ≠ some (.data i d))
    (comes : Comes n x (endTransfer t .dataTimeout true s)) (few : n ≤ 63 := by decide) :
    settle x = ended e .dataTimeout (dataFields t) s := by
  obtain ⟨item, slot, -, load, copy⟩ := stage
  have drops : endTransfer t .dataTimeout true s = awaitsFrames t .dataTimeout { cutShort t (dropFrames s) with
      mail := { s.mail with sector := none, told := none, note := none } } := by
    have still : restoreOffset (dropFrames s) = dropFrames s := restoreOffset_of_level level
    have buffers : endBuffers t .dataTimeout s = dropFrames s := by
      unfold endBuffers
      cases c : t.cmd with
      | write => exact absurd c other
      | _ => exact if_pos rfl
    unfold endTransfer
    rw [buffers, still]
    refine (if_neg (by rw [mark]; nofun)).trans ?_
    rw [cutShort_of_read other]
    rfl
  have gone : framesGone t (dropFrames s) := by
    unfold framesGone
    cases c : t.cmd with
    | write => exact absurd c other
    | read => exact ⟨unsent c, readyFrame_of_dropped (unsent c)⟩
    | verify => trivial
  have frame := framesGone_cutShort (s := dropFrames s) work rfl .dataTimeout
    { s.mail with sector := none, told := none, note := none }
  rw [drops] at comes
  have out := (drain_worksOut (e := e) (t := { t with outcome := .dataTimeout, phase := .drain })
    (s := awaitsFrames t .dataTimeout { cutShort t (dropFrames s) with
      mail := { s.mail with sector := none, told := none, note := none } }) rfl rfl item slot
    (fun _ => .of_code code) load copy rfl).1 (frame.mpr gone)
  rw [(comes 1 _ out).settle (by omega), ended_noMail, ended_cutShort]
  rfl

/-! ### A block written under an abort -/

/-- Under an abort a WRITE asks for no further block (R128). -/
theorem blockWritten_aborted {t : Transfer} (abort : t.abortPending = true) (s : State) : ∃ a b, blockWritten t s
    = setTransfer { t with done := t.done + 1, idx := t.idx + 1, phase := .begin, chain := false }
        { s with chan := { s.chan with slot0 := a, slot1 := b } } := by
  have none {g : Transfer} (h : g.abortPending = true) (v : State) : requestData (setTransfer g v) = setTransfer g v := by
    have no : ¬ MayRequest g (setTransfer g v) := fun may => Bool.false_ne_true (may.2.2.1.symm.trans h)
    unfold requestData
    rw [requestNext_of_not rfl no, requestNext_of_not rfl no]
  unfold blockWritten
  rw [none (by exact abort)]
  unfold setSlotOf
  split
  · exact ⟨_, _, rfl⟩
  · split <;> exact ⟨_, _, rfl⟩

theorem ended_of_pos (e : Entry) (o : OutcomeCode) (fields : List Byte) (s : State) (q : Positioner) :
    ended e o fields { s with pos := q } = { ended e o fields s with
      pos := { q with requester := none, held := q.held.map fun h => (h.1, none) } } := by
  have places : placesUsed { s with pos := q } = placesUsed s := rfl
  unfold ended
  dsimp only
  rw [places]
  split <;> rfl

/-! ### A SPEED DEVIATION in the holder (R154, R155) -/

theorem released_of_holder {s : State} {h : FaultRecord} (holder : s.fault.holder = some h) : released s = { s with
    fault := { s.fault with slot := some (offerTo s.fault.slot h), holder := none }
    cu := { s.cu with attention := s.cu.attention ||| 0x0020#16 } } := by
  unfold released
  rw [holder]

theorem released_of_empty {s : State} (holder : s.fault.holder = none) : released s = s := by
  unfold released
  rw [holder]

@[simp] theorem released_same_mail (s : State) : (released s).mail = s.mail := by
  obtain ⟨F, A, h⟩ := released_frame s
  rw [h]

/-- A torn sector changes the contexts alone (R124). -/
theorem markTorn_frame (p : Place) (s : State) : ∃ t r f, markTorn p s
    = { s with chan := { s.chan with transfer := t, reassign := r }, fmt := f } := by
  unfold markTorn
  split
  · exact ⟨s.chan.transfer, s.chan.reassign, s.fmt, rfl⟩
  · exact ⟨_, _, _, rfl⟩

/-- A sector written whole changes the contexts alone (R124). -/
theorem clearTorn_frame (p : Place) (s : State) : ∃ t r f, clearTorn p s
    = { s with chan := { s.chan with transfer := t, reassign := r }, fmt := f } := by
  unfold clearTorn
  split
  · exact ⟨s.chan.transfer, s.chan.reassign, s.fmt, rfl⟩
  · exact ⟨_, _, _, rfl⟩

theorem severed_of_holder {s : State} {h : FaultRecord} (holder : s.fault.holder = some h) (p : Place) :
    (severed p s).fault = { s.fault with slot := some (offerTo s.fault.slot h), holder := none } := by
  obtain ⟨t, r, f, torn⟩ := markTorn_frame p (closeOp s)
  rw [severed_eq, torn, released_of_holder (h := h) (by exact holder)]
  rfl

@[simp] theorem severed_mail (p : Place) (s : State) : (severed p s).mail = s.mail := by
  obtain ⟨t, r, f, torn⟩ := markTorn_frame p (closeOp s)
  rw [severed_eq, released_same_mail, torn]
  rfl

theorem severed_executing (p : Place) (s : State) : executing (severed p s) = executing s := by
  unfold executing
  rw [severed_eq, released_slot, markTorn_slot]
  rfl

/-- Where attention FAULT is set already a cut sets nothing more (R155). -/
theorem severed_cu {s : State} (set : s.cu.attention ||| 0x0020#16 = s.cu.attention) (p : Place) :
    (severed p s).cu = s.cu := by
  obtain ⟨t, r, f, torn⟩ := markTorn_frame p (closeOp s)
  rw [severed_eq, torn]
  cases holder : s.fault.holder with
  | none =>
    rw [released_of_empty (by exact holder)]
    rfl
  | some h =>
    rw [released_of_holder (h := h) (by exact holder)]
    change { s.cu with attention := s.cu.attention ||| 0x0020#16 } = s.cu
    rw [set]

theorem recorded_attention (c : FaultClass) (s : State) :
    (recorded c s).cu.attention ||| 0x0020#16 = (recorded c s).cu.attention := by
  change (s.cu.attention ||| 0x0020#16) ||| 0x0020#16 = _
  rw [BitVec.or_assoc, BitVec.or_self]
  rfl

/-- The End of a released SPEED DEVIATION joins the answer about the sector (R155). -/
theorem noteEnd_wroteWith {s : State} {x : SectorResult} (mail : s.mail = { Mail.none with sector := some x }) :
    noteEnd .speedDeviation s = wroteWith x .speedDeviation s := by
  rw [noteEnd_eq, noteAfter, wroteWith, mail]
  cases executing s <;> rfl

section
variable {s : State} {h : FaultRecord} (holder : s.fault.holder = some h) (mail : s.mail = Mail.none)
include holder mail

theorem cutWrite_deviating {p : Place} {d : List Byte} (op : s.chan.op = some (.write p d)) :
    cutWrite s = wroteWith .cut .speedDeviation (severed p s) := by
  rw [cutWrite_eq op, if_neg (by rw [holder]; nofun), mail, noteEnd_wroteWith rfl]
  rfl

/-- A sector written whole releases the SPEED DEVIATION (R154). -/
theorem releaseHolder_written :
    releaseHolder (sectorIs .written s) = wroteWith .written .speedDeviation (released s) := by
  rw [releaseHolder_eq, if_neg (by change s.fault.holder ≠ _; rw [holder]; nofun)]
  have move : released (sectorIs .written s) = { released s with mail := { s.mail with sector := some .written } } :=
    released_mail s _
  rw [move, mail, noteEnd_wroteWith rfl]
  rfl

end

end Sys2Proof.Machine

/-! ## Proofs: WRITE FAULT, and the ends of READ, VERIFY and WRITE -/

namespace Sys2Proof

open Machine

/-- Settles O51: WRITE FAULT by what is in work, the cut of a sector write with and without a SPEED DEVIATION in the
holder, and the ends of a data command by what ends it. -/
theorem writeFaultCuts : Obligations.WriteFaultCuts := by
  intro s rst
  have cuts {u : State} (k : writeFaults s = u) : exec .writeFault s = .next u := next_of_released (f := writeFaults) rst k
  refine ⟨fun off => ?_, fun gate on => ?_, ?_, ?_, ?_, ?_, ?_⟩
  · exact cuts (if_neg (by rw [off]; nofun))
  · obtain ⟨p, d, op⟩ := writing_op gate on
    have shut : Shut (cutWrite (noteEnd .writeFault (recorded .writeFault s))) :=
      cutWrite_shut (p := p) (d := d) (by rw [noteEnd_eq]; exact op)
    obtain ⟨idle, off, zero, empty⟩ := shut.settle
    exact ⟨_, cuts (if_pos on), rfl, off, zero, idle, empty⟩
  · intro e t gate on mail copy load item code slot work write phase marked empty level place
    obtain ⟨p, d, op⟩ := writing_op gate on
    let v : State := recorded .writeFault s
    have stage : Stage (.command e) .data v := ⟨item, slot, mail, load, copy⟩
    have cut : raise .writeFault s = wroteWith .cut .writeFault (severed p v) := cutWrite_recorded .writeFault op mail
    have works : executing (severed p v) = true :=
      (severed_executing p v).trans (executing_of_stage stage nofun nofun)
    obtain ⟨F, A, frame⟩ := severed_frame (s := v) copy p
    have answer := settle_torn_write (b := p) (q := (severed p v).pos) (c := .writeFault)
      (m := (wroteWith .cut .writeFault (severed p v)).mail) stage work code write phase marked empty
      (by rw [frame]; exact level) (by rw [wroteWith, works]; rfl) nofun
    have settled : writeFaults s = ended e .writeFault (dataFields { t with torn := some (t.first + t.idx) }) (severed p v) :=
      (if_pos on).trans ((congrArg settle cut).trans answer)
    have fields : dataFields { t with torn := some (t.first + t.idx) } = [byte t.count, byte t.done]
        ++ be32 (t.first + t.idx) ++ [byte t.reassigned, byte t.result.code] := by
      unfold dataFields
      dsimp only
      rw [write]
      exact (List.append_assoc _ _ _).symm
    obtain ⟨free, -, outbox⟩ := ended_replies (e := e) (o := .writeFault)
      (fields := dataFields { t with torn := some (t.first + t.idx) }) (s := severed p v) (by rw [frame]; exact place)
    rw [fields, show (severed p v).link = s.link by rw [frame]; rfl, ← fields] at outbox
    refine ⟨_, cuts settled, free, ?_⟩
    rw [outbox, fields]
  · intro e t gate on stage work write phase marked writable full level
    obtain ⟨p, d, op⟩ := writing_op gate on
    obtain ⟨-, slot, mail, load, copy⟩ := id stage
    let v : State := recorded .writeFault s
    let g : Transfer := { t with torn := some (t.first + t.idx) }
    have stage' : Stage (.command e) .data (severed p v) := Stage.severed (s := v) stage p (severed p v).pos
    have cut : raise .writeFault s = wroteWith .cut .writeFault (severed p v) := cutWrite_recorded .writeFault op mail
    have works : executing (severed p v) = true :=
      (severed_executing p v).trans (executing_of_stage (s := v) stage nofun nofun)
    obtain ⟨F, A, frame⟩ := severed_frame (s := v) copy p
    have torn : (severed p v).chan.transfer = some g := by
      rw [frame]
      exact congrArg (Option.map _) work
    have saveable : Saveable (severed p v) := by
      obtain ⟨-, states, -⟩ := gate
      rw [frame]
      exact ⟨writable, (states on).1, rfl, full, level⟩
    have next : advance (wroteWith .cut .writeFault (severed p v)) = some (endTransfer g .writeFault true
        (wroteWith .cut .writeFault (severed p v))) := by
      obtain ⟨-, slot', -, load', copy'⟩ := stage'
      rw [advance_noted (t := g) (c := .writeFault) (by exact slot') (by exact load') (by exact copy') (by exact torn)
        (by rw [show g.phase = .sector from phase]; nofun) (by rw [show g.phase = .sector from phase]; nofun)
        (by rw [wroteWith, works]; rfl)]
      rfl
    have saved := stage'.saves_as (g := g) (y := g) (m := (wroteWith .cut .writeFault (severed p v)).mail) (o := .writeFault)
      marked saveable rfl (by rw [setTransfer_self torn]; exact Comes.one next)
    obtain ⟨transfer, gate', copies, session, cu⟩ := saved
    refine ⟨_, cuts ((if_pos on).trans (congrArg settle cut)), transfer, gate', copies, session.trans ?_, cu.trans ?_⟩
    · rw [frame]
    · exact severed_cu (recorded_attention .writeFault s) p
  · intro p d op empty
    unfold depart
    rw [op]
    dsimp only
    rw [cutWrite_eq op, if_pos empty]
    unfold sectorIs
    rw [severed_mail]
  · intro h p d holder op mail
    have written {q : Nat} (sig : ReadSignal) (at_ : endsAt q (.write p d) = true) : sectorEnds q sig s
        = wroteWith .written .speedDeviation (released (clearTorn p (closeOp s))) := by
      obtain ⟨t, r, f, frame⟩ := clearTorn_frame p (closeOp s)
      unfold sectorEnds endSector
      rw [op]
      dsimp only
      rw [if_pos at_]
      exact releaseHolder_written (h := h) (by rw [frame]; exact holder) (by rw [frame]; exact mail)
    have departs (u : State) (op' : u.chan.op = some (.write p d)) (mail' : u.mail = Mail.none)
        (holder' : u.fault.holder = some h) : depart u = wroteWith .cut .speedDeviation (severed p u) := by
      unfold depart
      rw [op']
      exact cutWrite_deviating holder' mail' op'
    refine ⟨fun q sig at_ => ?_, departs s op mail holder, cutWrite_recorded .writeFault op mail,
      cutWrite_recorded .offTrack op mail, ?_⟩
    · obtain ⟨t, r, f, frame⟩ := clearTorn_frame p (closeOp s)
      have same : released (clearTorn p (closeOp s)) = { released s with
          chan := { (closeOp s).chan with transfer := t, reassign := r }, fmt := f } := by
        rw [frame, released_of_holder (h := h) (by exact holder), released_of_holder holder]
        rfl
      have works : executing (released (clearTorn p (closeOp s))) = executing s := by
        unfold executing
        rw [released_slot, frame]
        rfl
      rw [written sig at_]
      refine ⟨?_, ?_, ?_, ?_, ?_, ?_, ?_⟩
      · rw [wroteWith, wroteWith, works]
      all_goals rw [same, released_of_holder holder]; rfl
    · intro t work e stage code write phase marked empty place level answers
      obtain ⟨item, slot, -, load, copy⟩ := id stage
      have works := executing_of_stage stage nofun nofun
      have replies {g : Transfer} {b u : State} (place' : placesUsed b < 8) (answer : u = ended e .faulted (dataFields g) b)
          (fault : b.fault = { s.fault with slot := some (offerTo s.fault.slot h), holder := none })
          (outbox' : b.link.outbox = s.link.outbox) : answers g u := by
        obtain ⟨free, -, outbox⟩ := ended_replies (e := e) (o := .faulted) (fields := dataFields g) place'
        rw [outbox'] at outbox
        have after : u.fault = { s.fault with slot := some (offerTo s.fault.slot h), holder := none } := by
          rw [answer, ended_fault, fault]
        exact ⟨answer ▸ free, by rw [after], by rw [after], answer ▸ outbox⟩
      refine ⟨fun q sig at_ => ?_, fun follows => ?_⟩
      · let g : Transfer := { t with torn := if t.torn = some (t.first + t.idx) then none else t.torn }
        let b : State := { blockWhole s t with
          fault := { s.fault with slot := some (offerTo s.fault.slot h), holder := none }
          cu := { s.cu with attention := s.cu.attention ||| 0x0020#16 } }
        have ends : sectorEnds q sig s = wroteWith .written .speedDeviation b := by
          rw [written sig at_, clearTorn_closed op copy work, released_of_holder (h := h) (by exact holder)]
          rfl
        have next : advance (wroteWith .written .speedDeviation b)
            = some (endTransfer { g with done := t.done + 1 } .faulted true (wroteWith .written .speedDeviation b)) := by
          rw [advance_noted (s := wroteWith .written .speedDeviation b) (t := g) (c := .speedDeviation) slot load copy rfl
            (by rw [show g.phase = .sector from phase]; nofun) (by rw [show g.phase = .sector from phase]; nofun)
            (by rw [wroteWith, show executing b = true from works]; rfl)]
          exact congrArg some (if_pos ⟨rfl, rfl⟩)
        have stage' : Stage (.command e) .data b := stage
        have left := (stage'.ends_now (t := g) (g := { g with done := t.done + 1 }) (o := .faulted)
          (m := (wroteWith .written .speedDeviation b).mail) (by rw [code, show g.cmd = .write from write]; rfl) rfl rfl rfl
          (.inl write) rfl (Comes.one next)).1 ⟨marked, level⟩
        have answer := left.1 (by unfold framesGone; rw [show g.cmd = .write from write]; exact empty)
        rw [ends]
        exact replies (b := b) place answer rfl rfl
      · let v : State := clockMisses s
        let q : Positioner := { s.pos with
          state := .coasting, current := 0, remembered := s.pos.state, missing := 1, settle := 0, offTrack := 0 }
        have misses : positionMiss v = { wroteWith .cut .speedDeviation (severed p v) with pos := q } := by
          rw [positionMiss_of_not (s := v) (fun c => nomatch follows.symm.trans c.1),
            coastOn_of_tracking (s := v) (by change s.pos.state ≠ _; rw [follows]; nofun),
            missCounts_of_following (by exact follows), departs v op mail holder]
          rfl
        have answer := settle_torn_write (s := v) (b := p) (q := q) (c := .speedDeviation)
          (m := (wroteWith .cut .speedDeviation (severed p v)).mail) stage work code write phase marked empty level
          (by rw [wroteWith, severed_executing, show executing v = true from works]; rfl) nofun
        let w : State := { severed p v with pos := q }
        have settled : settle (positionMiss v) = ended e .faulted (dataFields { t with torn := some (t.first + t.idx) }) w :=
          (congrArg settle misses).trans answer
        obtain ⟨F, A, frame⟩ := severed_frame (s := v) copy p
        have here := congrArg (fun u : State => { u with pos := q }) frame
        have placed : placesUsed w < 8 := by
          rw [show w = _ from here]
          exact place
        have unworked : Unworked (ended e .faulted (dataFields { t with torn := some (t.first + t.idx) }) w) := by
          refine ended_unworked ?_ ?_ ?_ placed _ _ _ <;> rw [show w = _ from here]
          · exact load
          · exact copy
        obtain ⟨turn, turned⟩ := unworked.rotateNext ReadSignal.none
        have declares : exec .missingSampleDeclaration s = .next (missDeclared s) :=
          next_of_released (f := missDeclared) rst rfl
        have ends : missDeclared s = rotateNext ReadSignal.none (settle (positionMiss v)) :=
          if_pos ((tracks_iff _).mpr (.inr (.inr (.inl follows))))
        refine ⟨_, declares, ?_⟩
        have linked : w.link = s.link := by
          rw [show w = _ from here]
          rfl
        obtain ⟨free, empty', slot', outbox⟩ := replies placed rfl
          ((congrArg (·.fault) here).trans ((congrArg (·.fault) frame).symm.trans (severed_of_holder (s := v) holder p)))
          (congrArg Link.outbox linked)
        rw [ends, settled, turned]
        refine ⟨⟨free, empty', slot', outbox⟩, ?_⟩
        change (ended e .faulted _ w).pos.state = .coasting
        unfold ended
        dsimp only
        rw [if_pos placed]
        rfl
  · intro e t work stage code save drain rests aborts plain saves ends at' late reads writes backs next
    obtain ⟨item, slot, mail, load, copy⟩ := id stage
    have still {u : State} (h : advance u = none) (quiet : u.mail = Mail.none) : settle u = u := by
      rw [settle_of_done h, ← quiet]
    have aborted (h : aborts) (chain : t.chain = false) : advance s = some (endTransfer t .aborted true s) :=
      stage.data_aborted work save drain h.1 h.2.1 h.2.2 chain
    have cut (h : writes) : advance (sectorIs .cut s) = some s := by
      rw [stage.data_sector work save drain, if_neg (by rw [h.1]; nofun), blockSectorEnds_cut (r := .cut) h.2 (by nofun)]
    have good (h : reads) (d : List Byte) : advance (sectorIs (.readOk d) s) = some (blockRead t d s) := by
      rw [stage.data_sector work save drain, if_neg (by rw [h.1]; nofun), blockSectorEnds_read h.2.1]
    have failed (h : reads) {x : SectorResult} (bad : ∀ d, x ≠ .readOk d) :
        advance (sectorIs x s) = some (attemptFails t s) := by
      rw [stage.data_sector work save drain, if_neg (by rw [h.1]; nofun), blockSectorEnds_failed h.2.1 bad]
    have wrote (h : writes) : advance (sectorIs .written s)
        = some (if t.verifyOn = true ∧ (t.chain = true ∨ t.abortPending = false) then setTransfer { t with phase := .back } s
          else blockWritten t s) := by
      rw [stage.data_sector work save drain, if_neg (by rw [h.1]; nofun), blockSectorEnds_written h.2]
    -- a block of a WRITE done under an abort
    have block (h : aborts) (write : t.cmd = .write) {x : State} (first : advance x = some (blockWritten t s)) :
        (plain → framesGone t s → settle x = ended e .aborted (dataFields (next t)) s)
        ∧ (saves → savesData { next t with chain := false } .aborted s (settle x)) := by
      obtain ⟨a, b, frame⟩ := blockWritten_aborted h.1 s
      let t1 : Transfer := { next t with phase := .begin, chain := false }
      let v : State := { s with chan := { s.chan with slot0 := a, slot1 := b } }
      have second : advance (setTransfer t1 v) = some (endTransfer t1 .aborted true (setTransfer t1 v)) :=
        Stage.data_aborted (s := setTransfer t1 v) stage rfl nofun nofun h.1 h.2.1 h.2.2 rfl
      rw [frame] at first
      have left := Stage.ends_as (s := v) (t := t) (g := t1) (y := t1) (m := s.mail) stage code work rfl rfl (.inl write)
        (stage.clean _ _ _) rfl ((Comes.one first).next second)
      refine ⟨fun pl gone => (left.1 pl).1 ?_, left.2⟩
      unfold framesGone at gone ⊢
      rw [show t1.cmd = .write from write]
      rw [write] at gone
      exact gone
    have unwritten (c : FaultClass) : ¬ (c = .speedDeviation ∧ s.mail.sector = some .written) := by
      rw [mail]
      exact fun k => nomatch k.2
    have faulted (c : FaultClass) (low : c.isClass13 = false) : ends t (endOutcome c) (settle (noted c s)) := by
      have first : advance (noted c s) = some (endTransfer t (endOutcome c) true (noted c s)) := by
        rw [advance_noted (s := noted c s) slot load copy work save drain rfl, transferFault,
          if_neg (by exact unwritten c), show (!c.isClass13) = true by rw [low]; rfl]
      exact stage.ends_now (m := { s.mail with note := some c }) code work rfl rfl (.inr (endOutcome_ne_dataTimeout c))
        (stage.clean _ _ _) (Comes.one first)
    refine ⟨fun h chain => ?_, fun abort time phase busy => ?_, fun d h pl rd cmd free0 free1 => ?_, fun d h pl rd cmd => ?_,
      fun x h pl rd bad tries => ?_, fun x h pl rd bad tried gone => ?_, fun h wr chain => ?_, fun h wr chain on => ?_,
      fun d h bk held => ?_, fun n full x h bk there other => ?_, fun time idle cmd => ?_,
      fun time idle cmd marked level unsent => ?_, fun c high level => ?_, fun c low => ?_, ?_, ?_, ?_, ?_,
      fun g h chain marked target off follows => ?_⟩
    · exact stage.ends_now code work rfl rfl (.inr nofun) (stage.clean _ _ _) (Comes.one (aborted h chain))
    · exact still (advance_blocks_waits slot load (advanceCopies_none copy) work mail
        (.inr ⟨⟨.inl time, .inr busy⟩, .inr (phase.imp_right .inl)⟩)) mail
    · obtain ⟨-, -, chain⟩ := id rd
      obtain ⟨marked, level⟩ := pl
      let t1 : Transfer := { t with recovered := late, idx := t.idx + 1, phase := .begin }
      let v : State := setTransfer t1 { s with chan := { s.chan with
        slot0 := .holding t.idx d, readyTimer := some (s.set.active.timeout * 1000000) } }
      have first : advance (sectorIs (.readOk d) s) = some v :=
        (good rd d).trans (congrArg some ((if_pos cmd).trans
          (congrArg (setTransfer _) (frameBuffered_first free0 free1 t.idx d))))
      have second : advance v = some (endTransfer t1 .aborted true v) :=
        Stage.data_aborted (s := v) stage rfl nofun nofun h.1 h.2.1 h.2.2 chain
      have held : ¬ framesGone t1 v := by
        unfold framesGone
        rw [show t1.cmd = .read from cmd]
        exact fun gone => readyFrame_of_first (s := v) (t := t1) rfl cmd rfl gone.2
      obtain ⟨k, one, u, out, -, waits⟩ := endTransfer_worksOut (s := v) (t := t1) (o := .aborted) (save := true) stage
        (fun gone => absurd gone held) rfl rfl (by rw [show t1.mark = false from marked]; rfl) (.of_level level)
        (.inr (by nofun)) s.mail
      have left := (((Comes.one first).next second) k u out).settle (by omega)
      rw [waits held, cutShort_of_read (t := t1) (by exact rd.2.1)] at left
      exact ⟨congrArg (·.chan.slot0) left, congrArg (·.chan.transfer) left⟩
    · let t1 : Transfer := { t with recovered := late, idx := t.idx + 1, phase := .begin, done := t.done + 1 }
      have first : advance (sectorIs (.readOk d) s) = some (setTransfer t1 s) :=
        (good rd d).trans (congrArg some (if_neg (by rw [cmd]; nofun)))
      have second : advance (setTransfer t1 s) = some (endTransfer t1 .aborted true (setTransfer t1 s)) :=
        Stage.data_aborted (s := setTransfer t1 s) stage rfl nofun nofun h.1 h.2.1 h.2.2 rd.2.2
      have left := stage.ends_as (g := t1) (y := t1) (m := s.mail) code work rfl rfl (.inr (by nofun)) (stage.clean _ _ _) rfl
        ((Comes.one first).next second)
      exact (left.1 pl).1 (by unfold framesGone; rw [show t1.cmd = .verify from cmd]; trivial)
    · let t1 : Transfer := { t with attempt := t.attempt + 1 }
      have first : advance (sectorIs x s) = some (setTransfer t1 s) :=
        (failed rd bad).trans (congrArg some (attemptFails_again h.2.1 tries (.inl h.1)))
      have second : advance (setTransfer t1 s) = some (endTransfer t1 .aborted true (setTransfer t1 s)) :=
        Stage.data_aborted (s := setTransfer t1 s) stage rfl save drain h.1 h.2.1 h.2.2 rd.2.2
      exact stage.ends_as (g := t1) (y := t1) (m := s.mail) code work rfl rfl (.inr (by nofun)) (stage.clean _ _ _) rfl
        ((Comes.one first).next second)
    · obtain ⟨marked, level⟩ := pl
      have first := (failed rd bad).trans (congrArg some (attemptFails_last h.2.1 tried))
      obtain ⟨k, one, u, out, left⟩ := endTransfer_worksOut (s := recorded .dataCheck s)
        (t := { t with failing := some (t.first + t.idx) }) (o := .dataCheck) (save := false) stage
        (fun _ => .of_code code) work rfl rfl (.of_level level) (.inr (by nofun)) s.mail
      change settle (sectorIs x s) = _
      rw [(WorksOut.step first out).settle (by omega)]
      exact left.1 gone
    · have first := (wrote wr).trans (congrArg some (if_neg fun k => k.2.elim
        (fun yes => nomatch chain.symm.trans yes) fun no => nomatch h.1.symm.trans no))
      have same : { next t with chain := false } = next t := by rw [← chain]
      refine ⟨(block h wr.2 first).1, ?_, ?_⟩
      · rw [← same]
        exact (block h wr.2 first).2
      · exact stage.ends_now (m := s.mail) code work rfl rfl (.inl wr.2) (stage.clean _ _ _)
          ((Comes.one (cut wr)).next (aborted h chain))
    · have waits {g : Transfer} (k : g.abortPending = t.abortPending) (k' : g.timedOut = t.timedOut) (c : g.chain = t.chain)
          (ph : g.phase = .sector ∨ g.phase = .back) : advance (setTransfer g s) = none :=
        advance_blocks_waits slot load (advanceCopies_none copy) rfl mail
          (.inr ⟨⟨.inl (k'.trans h.2.1), .inr (.inr (c.trans chain))⟩, .inr (ph.imp_right .inl)⟩)
      refine ⟨?_, ?_⟩
      · have first := (wrote wr).trans (congrArg some (if_pos ⟨on, .inl chain⟩))
        have left := (WorksOut.step first (.zero (waits rfl rfl rfl (.inr rfl)))).settle
        refine left.trans ?_
        change ({ setTransfer { t with phase := .back } s with mail := Mail.none } : State) = _
        rw [← mail]
        rfl
      · have quiet : advance s = none := by
          have k := waits (g := t) rfl rfl rfl (.inl wr.1)
          rw [setTransfer_self work] at k
          exact k
        have left := (WorksOut.step (cut wr) (.zero quiet)).settle
        refine left.trans ?_
        rw [← mail]
    · have first : advance (sectorIs (.readOk d) s) = some (blockWritten t s) := by
        rw [stage.data_sector work save drain, if_pos bk.1, readBackEnds_same held]
      exact block h bk.2 first
    · obtain ⟨follows, -⟩ := onTarget_following there
      have first : advance (sectorIs x s) = some (moveBlock t s) := by
        rw [stage.data_sector work save drain, if_pos bk.1, readBackEnds_other other]
      refine ⟨fun k zones moved => ?_, fun o refused => ?_⟩
      · let t2 : Transfer := { t with
          spare := some k
          place := slotPlace ((t.first + t.idx) / n.type.userSlots) (n.type.userSlots + k)
          reassigned := t.reassigned + (if t.chain then 0 else 1)
          chain := true, mark := true }
        obtain ⟨q', ph, which, goes⟩ := goToPlace_follows (t := t2)
          (s := { s with
            record := { s.record with session := .full { n with zones }, unsaved := true }
            chan := { s.chan with gateWait := none } }) follows h.2.2 stage.told
        rw [moveBlock_moved h.2.1 full moved, goes] at first
        have left := (WorksOut.step first (.zero (advance_blocks_waits slot load (advanceCopies_none copy) rfl mail
          (.inr ⟨⟨.inl h.2.1, .inr (.inr rfl)⟩, which.elim (fun h => .inr (.inl h)) .inl⟩)))).settle
        exact ⟨{ t2 with phase := ph }, congrArg (·.chan.transfer) left, rfl, rfl, rfl, h.1, which⟩
      · rw [moveBlock_refused h.2.1 full refused] at first
        exact stage.ends_now (m := s.mail) code work rfl rfl (.inl bk.2) (stage.clean _ _ _) (Comes.one first)
    · have comes := Comes.one (stage.data_late work save drain time idle)
      refine ⟨fun pl => ?_, fun sv => stage.saves_as (y := t) (m := s.mail) sv.1 sv.2 (stage.clean _ _ _)
        (by rw [setTransfer_self work]; exact comes)⟩
      by_cases write : t.cmd = .write
      · exact (stage.ends_now (m := s.mail) code work rfl rfl (.inl write) (stage.clean _ _ _) comes).1 pl
      · have gone : framesGone t s := by
          unfold framesGone
          split
          · rename_i read
            exact absurd read cmd
          · rename_i w
            exact absurd w write
          · trivial
        exact ⟨fun _ => stage.late_answers code work write pl.1 pl.2 (fun read => absurd read cmd) comes,
          fun no => absurd gone no⟩
    · exact stage.late_answers code work (by rw [cmd]; nofun) marked level (fun _ => unsent)
        (Comes.one (stage.data_late work save drain time idle))
    · have answers := settle_noted_plain (m := { s.mail with note := some c }) stage code work save drain rfl
        (unwritten c) (by rw [isClass13_of high]; rfl) level
      rw [endOutcome_of_class13 high] at answers
      exact answers
    · have left := faulted c (isClass13_of_low low)
      rw [endOutcome_of_seekFailed low] at left
      exact left
    · exact faulted .offTrack rfl
    · exact faulted .writeFault rfl
    · exact faulted .speedDeviation rfl
    · have first : advance (noted .speedDeviation (sectorIs .written s))
          = some (endTransfer { t with done := t.done + 1 } .faulted true (noted .speedDeviation (sectorIs .written s))) :=
        (advance_noted (s := noted .speedDeviation (sectorIs .written s)) slot load copy work save drain rfl).trans
          (congrArg some (if_pos ⟨rfl, rfl⟩))
      exact stage.ends_now (g := { t with done := t.done + 1 })
        (m := { s.mail with sector := some .written, note := some .speedDeviation }) code work rfl rfl (.inr (by nofun))
        (stage.clean _ _ _) (Comes.one first)
    · have comes := Comes.one (aborted h chain)
      obtain ⟨k, one, u, out, left⟩ := endTransfer_follows (t := t) (o := .aborted) (save := true) stage follows h.2.2
        (fun _ => .of_code code) work rfl (by rw [marked]; rfl) (.inr (by nofun))
      have settled := (comes k u out).settle (by omega)
      have aim : (flattened s).target = some { g with offset := 0 } := by
        unfold flattened
        rw [target]
        dsimp only
        rw [if_neg off]
        rfl
      rw [settled]
      by_cases gone : framesGone t s
      · rw [left.1 gone, ended_of_pos]
        exact ⟨aim, rfl, fun _ => ⟨rfl, rfl⟩⟩
      · rw [left.2 gone]
        exact ⟨aim, rfl, fun yes => absurd yes gone⟩

end Sys2Proof

/-! ## Proofs: the contexts and the item in the slot

What the law of contexts and the law of rest control say of the slot, its contexts and the answers under way is
a condition on a `View` of the state. Each operation of the model is described once by what it does to the
view. -/

namespace Sys2Proof.Machine

/-- The slot with its contexts, the cartridge, the rest and the answers that the slot waits for. -/
structure View where
  free     : Bool
  work     : Work
  load     : Bool
  copy     : Bool
  transfer : Option DataPhase
  reassign : Option ReassignPhase
  fmt      : Option FormatStep
  cart     : CartState
  origin   : Option CartState
  eject    : Option EjectStage
  gate     : Bool
  loaded   : Bool
  saved    : Bool
  copies   : Bool
  rest     : RestState

/-- The view of a state. -/
def view (s : State) : View where
  free := s.cu.slot.item == .free
  work := s.cu.slot.work
  load := s.record.load.isSome
  copy := s.record.copyWrite.isSome
  transfer := s.chan.transfer.map Transfer.phase
  reassign := s.chan.reassign.map Reassign.phase
  fmt := s.fmt.map Format.step
  cart := s.cart.state
  origin := s.cart.origin
  eject := s.cart.eject.map Eject.stage
  gate := s.chan.gateWait.isSome
  loaded := s.mail.load.isSome
  saved := s.mail.saved.isSome
  copies := s.mail.copies.isSome
  rest := s.rest.state

/-! ### The operations of the mechanism leave the view -/

@[simp] theorem view_tell (o : TargetOutcome) (s : State) : view (tell o s) = view s := rfl

@[simp] theorem view_tellRequester (o : TargetOutcome) (s : State) : view (tellRequester o s) = view s := by
  unfold tellRequester
  split <;> rfl

@[simp] theorem view_tellHeldEnded (s : State) : view (tellHeldEnded s) = view s := by
  unfold tellHeldEnded
  split <;> rfl

@[simp] theorem view_sectorResult (r : SectorResult) (s : State) : view (sectorResult r s) = view s := rfl

@[simp] theorem view_beginRead (p : Place) (s : State) : view (beginRead p s) = view s := rfl

@[simp] theorem view_beginWrite (p : Place) (d : List Byte) (s : State) : view (beginWrite p d s) = view s := rfl

@[simp] theorem view_closeOp (s : State) : view (closeOp s) = view s := rfl

@[simp] theorem view_noteEnd (c : FaultClass) (s : State) : view (noteEnd c s) = view s := by
  unfold noteEnd
  split <;> rfl

@[simp] theorem view_offer (r : FaultRecord) (s : State) : view (offer r s) = view s := rfl

@[simp] theorem view_setCause (c : Cause) (s : State) : view (setCause c s) = view s := rfl

@[simp] theorem view_clearCauses (m : BitVec 16) (s : State) : view (clearCauses m s) = view s := rfl

@[simp] theorem view_cancelQueue (s : State) : view (cancelQueue s) = view s := rfl

@[simp] theorem view_releaseHolder (s : State) : view (releaseHolder s) = view s := by
  unfold releaseHolder
  split
  · rfl
  · rw [view_noteEnd]
    rfl

@[simp] theorem view_markTorn (p : Place) (s : State) : view (markTorn p s) = view s := by
  unfold markTorn
  split
  · rfl
  · simp [view, Function.comp_def]

@[simp] theorem view_clearTorn (p : Place) (s : State) : view (clearTorn p s) = view s := by
  have kept (t : Transfer) : (if t.torn = some (t.first + t.idx) then { t with torn := none } else t).phase
      = t.phase := by split <;> rfl
  have step (f : Format) : (if f.torn = some p then { f with torn := none } else f).step = f.step := by
    split <;> rfl
  unfold clearTorn
  split
  · rfl
  · simp [view, Function.comp_def, kept, step]

@[simp] theorem view_cutWrite (s : State) : view (cutWrite s) = view s := by
  unfold cutWrite
  split <;> simp

@[simp] theorem view_depart (s : State) : view (depart s) = view s := by
  unfold depart
  split <;> simp

@[simp] theorem view_endSector (sig : ReadSignal) (s : State) : view (endSector sig s) = view s := by
  unfold endSector
  split
  · split <;> simp
  · simp
  · rfl

@[simp] theorem view_requestParked (t : Target) (q : Option Requester) (s : State) :
    view (requestParked t q s) = view s := by
  unfold requestParked
  split
  · rfl
  · split <;> rfl

@[simp] theorem view_enterParked (s : State) : view (enterParked s) = view s := by
  rw [enterParked_eq]
  rfl

@[simp] theorem view_heldActs (s : State) : view (heldActs s) = view s := by
  unfold heldActs
  split
  · dsimp only
    split
    · rw [view_requestParked]
      rfl
    · rfl
  · rfl

theorem view_beganRetract (s : State) : view (beganRetract s) = view s :=
  (view_tellRequester .ended (depart s)).trans (view_depart s)

theorem view_beganEmergency (s : State) : view (beganEmergency s) = view s :=
  ((view_tellHeldEnded _).trans (view_tellRequester .ended (depart s))).trans (view_depart s)

@[simp] theorem view_enterRetracting (s : State) : view (enterRetracting s) = view s := by
  rw [enterRetracting_eq]
  split <;> simp [view_beganRetract]

@[simp] theorem view_enterEmergency (s : State) : view (enterEmergency s) = view s := by
  rw [enterEmergency_eq]
  split <;> simp [view_beganEmergency]

@[simp] theorem view_discardHeld (s : State) : view (discardHeld s) = view s := view_tellHeldEnded s

@[simp] theorem view_requestRetract (s : State) : view (requestRetract s) = view s := by
  unfold requestRetract
  split <;> simp

@[simp] theorem view_requestEmergency (s : State) : view (requestEmergency s) = view s := by
  unfold requestEmergency
  split <;> simp

@[simp] theorem view_replaceRequester (q : Option Requester) (s : State) :
    view (replaceRequester q s) = view s := by
  unfold replaceRequester
  split <;> simp

@[simp] theorem view_dropTold (s : State) : view (dropTold s) = view s := rfl

@[simp] theorem view_dropNote (s : State) : view (dropNote s) = view s := rfl

@[simp] theorem view_dropSector (s : State) : view (dropSector s) = view s := rfl

@[simp] theorem view_dropRequester (s : State) : view (dropRequester s) = view s := rfl

@[simp] theorem view_requestTarget (t : Target) (q : Option Requester) (s : State) :
    view (requestTarget t q s) = view s := by
  obtain here | here | here | here | here | here := s.pos.state.request_cases
  · rw [requestTarget_of_parked t q here]
    simp
  · rw [requestTarget_of_loading t q here]
    exact view_replaceRequester q (dropTold s)
  · rw [requestTarget_of_seeking t q here]
    split <;> exact view_replaceRequester q (dropTold s)
  · rw [requestTarget_of_following t q here]
    split
    · cases q <;> rfl
    · exact view_depart (dropTold s)
  · rw [requestTarget_of_coasting t q here]
    exact view_replaceRequester q (dropTold s)
  · rw [requestTarget_of_returning t q here]
    exact view_tellHeldEnded (dropTold s)

@[simp] theorem view_settleWhereItIs (s : State) : view (settleWhereItIs s) = view s := by
  unfold settleWhereItIs
  split
  · rfl
  · rfl
  · rw [view_requestTarget]
    rfl
  all_goals rfl

@[simp] theorem view_startRequest (s : State) : view (startRequest s) = view s := by
  unfold startRequest
  split
  · split <;> rfl
  all_goals rfl

@[simp] theorem view_stopRequest (s : State) : view (stopRequest s) = view s := by
  unfold stopRequest
  dsimp only
  split
  · rfl
  · rfl
  · rfl
  · split
    · rfl
    · rfl
    · rfl
    · rw [view_requestRetract]
      rfl

@[simp] theorem view_raise (cls : FaultClass) (s : State) : view (raise cls s) = view s := by
  unfold raise respond
  split <;> simp

/-! ### Cartridge, session and rest -/

@[simp] theorem view_setCart (c : CartState) (s : State) : view (setCart c s) = { view s with cart := c } := rfl

@[simp] theorem view_discardSession (s : State) : view (discardSession s) = view s := by
  unfold discardSession
  dsimp only
  split <;> rfl

@[simp] theorem view_resetReport (s : State) : view (resetReport s) = view s := rfl

@[simp] theorem view_shellLeaves (s : State) : view (shellLeaves s) = { view s with cart := .empty } := by
  have left : view (discardSession (setCart .empty s)) = { view s with cart := .empty } := by simp
  exact left

@[simp] theorem view_endRest (s : State) : view (endRest s) = { view s with rest := .none } := rfl

/-- A start request, unless the spindle is AT_SPEED already. -/
@[simp] theorem view_startUnless (p : Prop) [Decidable p] (s : State) :
    view (if p then s else startRequest s) = view s := by
  split <;> simp

@[simp] theorem view_wakeMechanism (s : State) : view (wakeMechanism s) = { view s with rest := .none } :=
  view_startUnless _ (endRest s)

@[simp] theorem view_changeZones (zones : List Zone) (s : State) : view (changeZones zones s) = view s := by
  unfold changeZones
  split <;> rfl

@[simp] theorem view_startGateWait (s : State) : view (startGateWait s) = { view s with gate := true } := by
  unfold startGateWait
  split
  · simp [view, *]
  · rfl

@[simp] theorem view_stopGateWait (s : State) : view (stopGateWait s) = { view s with gate := false } := rfl

@[simp] theorem view_fillFree (b : BufSlot) (s : State) : view (fillFree b s) = view s := by
  unfold fillFree
  split
  · rfl
  · split <;> rfl

@[simp] theorem view_setSlotOf (i : Nat) (b : BufSlot) (s : State) : view (setSlotOf i b s) = view s := by
  unfold setSlotOf
  split
  · rfl
  · split <;> rfl

@[simp] theorem view_withdrawLine (s : State) : view (withdrawLine s) = view s := rfl

@[simp] theorem view_putReply (r : Reply) (s : State) : view (putReply r s) = view s := rfl

@[simp] theorem view_setWork (w : Work) (s : State) : view (setWork w s) = { view s with work := w } := rfl

@[simp] theorem view_freeSlot (s : State) : view (freeSlot s) = { view s with free := true, work := .idle } := rfl

@[simp] theorem view_setTransfer (t : Transfer) (s : State) :
    view (setTransfer t s) = { view s with transfer := some t.phase } := rfl

@[simp] theorem view_setReassign (r : Reassign) (s : State) :
    view (setReassign r s) = { view s with reassign := some r.phase } := rfl

@[simp] theorem view_setFormat (f : Format) (s : State) :
    view (setFormat f s) = { view s with fmt := some f.step } := rfl

@[simp] theorem view_slotFaulted (cls : FaultClass) (s : State) : view (slotFaulted cls s) = view s := by
  unfold slotFaulted
  dsimp only
  split <;> rfl

@[simp] theorem view_slotResult (r : RecordResult) (s : State) :
    view (slotResult r s) = { view s with saved := false } := rfl

@[simp] theorem view_ejectStage (st : EjectStage) (s : State) :
    view (ejectStage st s) = { view s with eject := (view s).eject.map fun _ => st } := by
  simp [view, ejectStage, Function.comp_def]

/-- The contexts of an ended item are gone. -/
def View.cleared (v : View) : View :=
  { v with transfer := none, reassign := none, fmt := none, origin := none, eject := none, gate := false,
           loaded := false, saved := false, copies := false }

@[simp] theorem view_clearWork (s : State) : view (clearWork s) = (view s).cleared := rfl

/-- An item ends in a free slot, or with its reply waiting in the slot. -/
def View.Ended (v w : View) : Prop :=
  w = { v.cleared with free := true, work := .idle }
  ∨ v.free = false ∧ ∃ r, w = { v.cleared with work := .replying r }

theorem view_finishWith (o : OutcomeCode) (fields : List Byte) (s : State) :
    (view s).Ended (view (finishWith o fields s)) := by
  unfold finishWith
  split
  · rename_i e item
    dsimp only
    split
    · exact .inl rfl
    · exact .inr ⟨by simp [view, item], _, rfl⟩
  · exact .inl rfl

theorem view_finish (o : OutcomeCode) (s : State) : (view s).Ended (view (finish o s)) := by
  unfold finish
  split <;> exact view_finishWith _ _ s

end Sys2Proof.Machine

/-! ## Proofs: each context belongs to the item in the slot -/

namespace Sys2Proof.Machine

/-- The copy writes may be in progress at this stage, or their answer under way. -/
def View.owned (v : View) : Prop :=
  match v.work with
  | .reloadSave => True
  | .restSave => True
  | .downSave => True
  | .data => v.gate = false ∧ v.transfer = some .save
  | .reassign => v.gate = false ∧ v.reassign = some .save
  | .format => v.fmt = some .copies
  | .eject => v.eject = some .writeBack
  | _ => False

/-- The law of contexts, and the same of the answers under way: a record unit that has answered works no
more, and of the two answers of the copy writes one is under way. -/
def View.Lawful (v : View) : Prop :=
  (v.free = true → v.work = .idle)
  ∧ (v.load = true ∨ v.loaded = true → v.work = .startLoad ∨ v.work = .reloadLoad)
  ∧ (v.copy = true ∨ v.saved = true ∨ v.copies = true → v.owned)
  ∧ (v.transfer ≠ none → v.work = .data)
  ∧ (v.reassign ≠ none → v.work = .reassign)
  ∧ (v.fmt ≠ none → v.work = .format)
  ∧ (v.cart = .released → v.work = .eject ∧ v.eject = some .leaveOrJam)
  ∧ v.origin ≠ some .released
  ∧ (v.loaded = true → v.load = false)
  ∧ (v.saved = true ∨ v.copies = true → v.copy = false)
  ∧ (v.saved = true → v.copies = false)

/-- The law of rest control, as far as the slot and the cartridge go (R160). -/
def View.Resting (v : View) : Prop :=
  (v.rest ≠ .none → (v.cart = .ready ∨ v.cart = .blank) ∧ v.work.still = true)
  ∧ (v.work.rests = true → v.cart = .ready ∨ v.cart = .blank)

/-- No rest begins, and no REST entry comes to its last two stages. -/
def View.Wakes (v w : View) : Prop :=
  (w.rest ≠ .none → w.rest = v.rest)
  ∧ (w.work = .restPark → v.work = .restPark) ∧ (w.work = .restStop → v.work = .restStop)

/-- What happens to the view keeps the laws. -/
def View.Goes (v w : View) : Prop := v.Lawful → w.Lawful ∧ (v.Resting → w.Resting) ∧ v.Wakes w

theorem View.Goes.refl (v : View) : v.Goes v := fun h => ⟨h, id, fun _ => Eq.refl _, id, id⟩

theorem View.Wakes.trans {u v w : View} (h : u.Wakes v) (k : v.Wakes w) : u.Wakes w := by
  obtain ⟨rest, park, stop⟩ := h
  obtain ⟨rest', park', stop'⟩ := k
  exact ⟨fun ne => (rest' ne).trans (rest (rest' ne ▸ ne)), park ∘ park', stop ∘ stop'⟩

theorem View.Goes.trans {u v w : View} (h : u.Goes v) (k : v.Goes w) : u.Goes w := fun ok =>
  have ⟨lawful, resting, wakes⟩ := h ok
  have ⟨lawful', resting', wakes'⟩ := k lawful
  ⟨lawful', resting' ∘ resting, wakes.trans wakes'⟩

theorem View.Goes.of_eq {v w : View} (h : w = v) : v.Goes w := h ▸ .refl _

/-- An item ends while the record unit is idle and the cartridge not RELEASED. -/
theorem View.Ended.goes {u v w : View} (e : v.Ended w)
    (h : u.Lawful → v.load = false ∧ v.copy = false ∧ v.cart ≠ .released ∧ (v.rest ≠ .none → v.rest = u.rest)
      ∧ (u.Resting → v.rest ≠ .none → v.cart = .ready ∨ v.cart = .blank)) : u.Goes w := by
  intro ok
  obtain ⟨load, copy, cart, same, rest⟩ := h ok
  obtain rfl | ⟨taken, r, rfl⟩ := e
  · simp_all [View.Lawful, View.Resting, View.Wakes, View.cleared, Work.still, Work.rests]
  · simp_all [View.Lawful, View.Resting, View.Wakes, View.cleared, Work.still, Work.rests]

end Sys2Proof.Machine

/-! ## Proofs: the contexts under the record unit -/

namespace Sys2Proof.Machine

/-- What the work of an item comes to keeps the laws of the view, if it goes on at all. -/
def Keeps (s : State) : Option State → Prop
  | none => True
  | some t => (view s).Goes (view t)

@[simp] theorem keeps_none (s : State) : Keeps s none := trivial

@[simp] theorem keeps_some (s t : State) : Keeps s (some t) = (view s).Goes (view t) := rfl

/-! ### The copy writes -/

/-- The copy writes go on, or answer a write-back or a FORMAT. -/
def View.CopyStep (v w : View) : Prop :=
  w = { v with copy := true } ∨ w = { v with copy := false, saved := true }
  ∨ w = { v with copy := false, copies := true }

theorem View.CopyStep.goes {v w : View} (h : v.CopyStep w) (copy : v.copy = true) : v.Goes w := by
  obtain rfl | rfl | rfl := h
  · exact .of_eq (by rw [← copy])
  all_goals
    intro ok
    simp_all [View.Lawful, View.Resting, View.Wakes, View.owned]

@[simp] theorem view_beginCopies (o : CopyOwner) (image : List Byte) (s : State) :
    view (beginCopies o image s) = { view s with copy := true } := rfl

theorem view_beginSessionCopies (s : State) : (view s).CopyStep (view (beginSessionCopies s)) := by
  unfold beginSessionCopies
  split
  · exact .inl rfl
  · exact .inr (.inl rfl)

/-- A write-back begins: its copy writes are in progress, or it is answered at once. -/
theorem view_beginWriteBack {s : State} (copy : (view s).copy = false) (saved : (view s).saved = false) :
    ∃ b, view (beginWriteBack s) = { view s with copy := b, saved := !b } := by
  unfold beginWriteBack
  split
  · have idle : s.record.copyWrite.isSome = false := copy
    exact ⟨false, by simp only [view, idle]; rfl⟩
  · split
    · unfold beginSessionCopies
      split
      · exact ⟨true, by rw [Bool.not_true, ← saved]; rfl⟩
      · exact ⟨false, rfl⟩
    · refine ⟨true, ?_⟩
      rw [view_requestTarget, Bool.not_true, ← saved]
      rfl

@[simp] theorem view_applyWriteBack (r : RecordResult) (s : State) : view (applyWriteBack r s) = view s := by
  unfold applyWriteBack
  split
  · split <;> rfl
  · rfl

theorem view_endCopies (o : CopyOwner) (w0 w1 : Bool) (s : State) :
    (view s).CopyStep (view (endCopies o w0 w1 s)) := by
  cases o with
  | writeBack =>
    have ended := view_applyWriteBack (copiesResult w0 w1) { s with record := { s.record with copyWrite := none } }
    exact .inr (.inl (congrArg (fun v : View => { v with saved := true }) ended))
  | format => exact .inr (.inr rfl)

theorem view_copyDone (c : CopyWrite) (ok : Bool) (s : State) : (view s).CopyStep (view (copyDone c ok s)) := by
  unfold copyDone
  split
  · exact .inl rfl
  · exact view_endCopies _ _ _ s

theorem view_copyAttemptFails (c : CopyWrite) (s : State) :
    (view s).CopyStep (view (copyAttemptFails c s)) := by
  unfold copyAttemptFails
  split
  · exact view_copyDone c false s
  · exact .inl rfl

theorem view_copyPassGoesOn (c : CopyWrite) (s : State) : (view s).CopyStep (view (copyPassGoesOn c s)) := by
  unfold copyPassGoesOn
  split
  · exact .inl rfl
  · split
    · exact view_copyDone c true s
    · exact .inl rfl

theorem view_copySectorEnds {c : CopyWrite} {s : State} (r : SectorResult) (copy : (view s).copy = true) :
    (view s).CopyStep (view (copySectorEnds c r s)) := by
  have same : (view s).CopyStep (view s) := .inl (by rw [← copy])
  unfold copySectorEnds
  split
  · exact view_copyAttemptFails c s
  · split
    · exact view_copyPassGoesOn c s
    · split
      · exact view_copyPassGoesOn c s
      · exact view_copyAttemptFails c s
    · exact view_copyAttemptFails c s
    · exact same
    · exact same

/-- A transition of the copy writes is a step of theirs (R90 to R92). -/
theorem advanceCopies_keeps (s : State) : Keeps s (advanceCopies s) := by
  unfold advanceCopies
  split
  · exact trivial
  · rename_i c works
    have copy : (view s).copy = true := by simp [view, works]
    split
    · split
      · exact View.CopyStep.goes (v := view s) (view_endCopies _ _ _ (dropSector s)) copy
      · exact View.CopyStep.goes (v := view s) (view_copyAttemptFails c (dropNote (dropSector s))) copy
    · split
      · split
        · split
          · exact (view_endCopies _ _ _ s).goes copy
          · exact trivial
        · exact (view_beginSessionCopies (dropTold s)).goes copy
        · exact (view_endCopies _ _ _ (dropTold s)).goes copy
      · split
        · exact (view_endCopies _ _ _ (dropSector s)).goes copy
        · split
          · exact trivial
          · exact (view_copySectorEnds (s := dropSector s) _ copy).goes copy

@[simp] theorem view_copySectorStart (c : CopyWrite) (s : State) : view (copySectorStart c s) = view s := by
  unfold copySectorStart
  split
  · split <;> rfl
  · split <;> rfl

/-- A sector start of the copy writes changes nothing that the laws of the view see. -/
theorem view_copyStart {c : CopyWrite} {s : State} (n : Nat) (works : s.record.copyWrite = some c) :
    view (copyStart c n s) = view s := by
  unfold copyStart
  split
  · rfl
  · split
    · split
      · dsimp only
        rw [view_copySectorStart]
        simp [view, works]
      · rfl
    · split
      · exact view_copySectorStart c s
      · rfl

theorem copyTimerExpires_goes (s : State) : (view s).Goes (view (copyTimerExpires s)) := by
  unfold copyTimerExpires
  split
  · exact .refl _
  · rename_i c works
    have copy : (view s).copy = true := by simp [view, works]
    split
    · exact .refl _
    · split
      · exact View.CopyStep.goes (.inl rfl) copy
      · exact (view_copyAttemptFails c s).goes copy

/-! ### The load -/

/-- The load goes on, or answers. -/
def View.LoadStep (v w : View) : Prop :=
  w = { v with load := true } ∨ w = { v with load := false, loaded := true }

theorem View.LoadStep.goes {v w : View} (h : v.LoadStep w) (load : v.load = true) : v.Goes w := by
  obtain rfl | rfl := h
  · exact .of_eq (by rw [← load])
  · intro ok
    simp_all [View.Lawful, View.Resting, View.Wakes, View.owned]

@[simp] theorem view_beginLoad (s : State) : view (beginLoad s) = { view s with load := true } := by
  unfold beginLoad
  dsimp only
  split
  · rw [view_requestTarget]
    rfl
  · rfl

@[simp] theorem view_restoreOffset (s : State) : view (restoreOffset s) = view s := by
  unfold restoreOffset
  split
  · split <;> simp
  · rfl

theorem view_loadSector (l : Load) (s : State) : (view s).LoadStep (view (loadSector l s)) := by
  unfold loadSector
  split
  · exact .inl rfl
  · rw [view_requestTarget]
    exact .inl rfl

theorem view_copyClassified (l : Load) (rep : CopyReport) (c : Option RecordCopy) (s : State) :
    (view s).LoadStep (view (copyClassified l rep c s)) := by
  unfold copyClassified
  split
  · exact view_loadSector _ { s with record := { s.record with image := [] } }
  · rw [view_restoreOffset]
    exact .inr rfl

theorem view_loadSectorRead (l : Load) (d : List Byte) (s : State) :
    (view s).LoadStep (view (loadSectorRead l d s)) := by
  unfold loadSectorRead
  dsimp only
  split
  · exact view_copyClassified _ _ _ { s with record := { s.record with image := _ } }
  · split
    · exact view_loadSector _ { s with record := { s.record with image := _ } }
    · exact view_copyClassified _ _ _ { s with record := { s.record with image := _ } }

theorem view_loadAttemptFails (l : Load) (s : State) : (view s).LoadStep (view (loadAttemptFails l s)) := by
  unfold loadAttemptFails
  split
  · split
    · exact view_copyClassified _ _ _ s
    · exact view_copyClassified _ _ _ s
  · split
    · exact .inl rfl
    · rw [view_requestTarget]
      exact .inl rfl

/-- A transition of a load is a step of its (R79, R80, R87). -/
theorem advanceLoad_keeps (s : State) : Keeps s (advanceLoad s) := by
  unfold advanceLoad
  split
  · exact trivial
  · rename_i l works
    have load : (view s).load = true := by simp [view, works]
    have ends (r : LoadResult) : (view s).Goes (view (endLoad r s)) := View.LoadStep.goes (.inr rfl) load
    split
    · exact ends .failed
    · split
      · exact ends .stopped
      · split
        · split
          · exact trivial
          · exact View.LoadStep.goes (.inl rfl) load
          · exact ends .failed
        · split
          · exact ends .failed
          · split
            · exact (view_loadSectorRead l _ (dropSector s)).goes load
            · exact (view_loadAttemptFails l (dropSector s)).goes load
            · exact trivial

theorem loadStart_goes {l : Load} {s : State} (n : Nat) (works : s.record.load = some l) :
    (view s).Goes (view (loadStart l n s)) := by
  have load : (view s).load = true := by simp [view, works]
  unfold loadStart
  split
  · exact .refl _
  · split
    · exact .refl _
    · split
      · exact View.LoadStep.goes (.inl rfl) load
      · exact (view_loadAttemptFails l s).goes load

end Sys2Proof.Machine

/-! ## Proofs: the contexts under the items that transfer no blocks -/

namespace Sys2Proof.Machine

/-- No context belongs to this stage, and the record unit works for no item in it. -/
def Work.bare : Work → Bool
  | .idle => true
  | .startSpin => true
  | .startHeads => true
  | .spinOnly => true
  | .reloadSpin => true
  | .reloadHeads => true
  | .seekSpin => true
  | .seekTarget => true
  | .downSpin => true
  | .downPark => true
  | .downStop => true
  | .restPark => true
  | .restStop => true
  | .wakeSpin => true
  | .wakeTarget => true
  | .resetPark => true
  | _ => false

/-- The record unit is idle, and the cartridge not RELEASED. -/
def View.Calm (v : View) : Prop := v.load = false ∧ v.copy = false ∧ v.cart ≠ .released

/-- An item is in the slot, and no context. -/
structure View.Bare (v : View) : Prop where
  free : v.free = false
  calm : v.Calm
  transfer : v.transfer = none
  reassign : v.reassign = none
  fmt : v.fmt = none
  origin : v.origin ≠ some .released
  loaded : v.loaded = false
  saved : v.saved = false
  copies : v.copies = false

/-- In a stage without contexts none is there. -/
theorem View.Lawful.bare {v : View} (ok : v.Lawful) (taken : v.free = false) (bare : v.work.bare = true) :
    v.Bare := by
  obtain ⟨-, load, copy, transfer, reassign, fmt, cart, origin, -⟩ := ok
  have owned : ¬ v.owned := by
    intro h
    cases stage : v.work <;> simp_all [View.owned, Work.bare]
  have other {w : Work} (h : w.bare = false) : v.work ≠ w := by
    rintro rfl
    simp [h] at bare
  have startLoad := other (w := .startLoad) rfl
  have reloadLoad := other (w := .reloadLoad) rfl
  have data := other (w := .data) rfl
  have reassigns := other (w := .reassign) rfl
  have format := other (w := .format) rfl
  have eject := other (w := .eject) rfl
  constructor <;> simp_all [View.Calm]

theorem View.Lawful.taken {v : View} (ok : v.Lawful) (active : v.work ≠ .idle) : v.free = false :=
  Bool.eq_false_iff.mpr fun free => active (ok.1 free)

/-- An item may be in any stage while no context is there. -/
theorem View.Bare.lawful {v : View} (b : v.Bare) : v.Lawful := by
  obtain ⟨free, ⟨load, copy, cart⟩, transfer, reassign, fmt, origin, loaded, saved, copies⟩ := b
  simp [View.Lawful, *]

theorem View.Bare.loads {v : View} {w : Work} (b : v.Bare) (h : w = .startLoad ∨ w = .reloadLoad) :
    View.Lawful { v with load := true, work := w } := by
  obtain ⟨free, ⟨load, copy, cart⟩, transfer, reassign, fmt, origin, loaded, saved, copies⟩ := b
  simp [View.Lawful, *]

theorem View.Bare.saves {v : View} {w : Work} (b : v.Bare) (work : Bool)
    (h : w = .reloadSave ∨ w = .restSave ∨ w = .downSave) :
    View.Lawful { v with copy := work, saved := !work, work := w } := by
  obtain ⟨free, ⟨load, copy, cart⟩, transfer, reassign, fmt, origin, loaded, saved, copies⟩ := b
  obtain rfl | rfl | rfl := h <;> simp [View.Lawful, View.owned, *]

/-- No rest goes on where one may not. -/
def View.Awake (u v : View) : Prop := v.rest = .none ∨ v.rest = u.rest ∧ (u.Resting → u.rest = .none)

theorem View.awake_of_still {u : View} (h : u.work.still = false) : u.Resting → u.rest = .none := fun ⟨rest, _⟩ => by
  by_contra ne
  simp [h] at rest
  exact ne rest

/-- What leaves no rest and no REST entry keeps the laws, if it keeps that of the contexts. -/
theorem View.Goes.of_lawful {u v : View} (awake : u.Awake v) (rests : v.work.rests = false)
    (lawful : u.Lawful → v.Lawful) : u.Goes v := by
  have other {w : Work} (h : w.rests = true) : v.work ≠ w := by
    rintro rfl
    simp [h] at rests
  refine fun ok => ⟨lawful ok, fun resting => ⟨fun ne => absurd ?_ ne, by simp [rests]⟩, ?_, ?_, ?_⟩
  · obtain none | ⟨same, none⟩ := awake
    · exact none
    · exact same.trans (none resting)
  · obtain none | ⟨same, -⟩ := awake
    · exact fun ne => absurd none ne
    · exact fun _ => same
  · exact fun e => absurd e (other rfl)
  · exact fun e => absurd e (other rfl)

/-- An item passes from a stage without contexts to another stage, which is no stage of REST entry and to
which no context belongs as yet. -/
theorem View.Goes.stage {v : View} {w : Work} (bare : v.work.bare = true) (still : v.work.still = false)
    (rests : w.rests = false) : v.Goes { v with work := w } := by
  refine .of_lawful (.inr ⟨rfl, View.awake_of_still still⟩) rests fun ok => ?_
  have b := ok.bare (ok.taken fun e => by simp [e, Work.still] at still) bare
  exact View.Bare.lawful { b with }

/-- An item ends. -/
theorem finish_goes {o : OutcomeCode} {s : State} (calm : (view s).Lawful → (view s).Calm) :
    (view s).Goes (view (finish o s)) :=
  (view_finish o s).goes fun ok =>
    let ⟨load, copy, cart⟩ := calm ok
    ⟨load, copy, cart, fun _ => rfl, fun resting ne => (resting.1 ne).1⟩

theorem finish_goes_of_bare {o : OutcomeCode} {s : State} (active : s.cu.slot.work ≠ .idle := by simp [*])
    (bare : s.cu.slot.work.bare = true := by simp [*, Work.bare]) : (view s).Goes (view (finish o s)) :=
  finish_goes fun ok => (ok.bare (ok.taken active) bare).calm

/-- An item ends that works on no rest, and gives the cartridge another state. -/
theorem finish_goes_of_cart {o : OutcomeCode} {u : View} {t : State} {c : CartState}
    (eq : view t = { u with cart := c }) (released : c ≠ .released)
    (calm : u.Lawful → u.load = false ∧ u.copy = false) (still : u.work.still = false) :
    u.Goes (view (finish o t)) := by
  refine (view_finish o t).goes fun ok => ?_
  obtain ⟨load, copy⟩ := calm ok
  rw [eq]
  exact ⟨load, copy, released, fun _ => rfl, fun resting ne => absurd (resting.1 ne).2 (by simp [still])⟩

/-! ### SPIN UP and AUTO START -/

theorem endStart_goes {o : OutcomeCode} {s : State} (calm : (view s).Lawful → (view s).Calm)
    (still : s.cu.slot.work.still = false) : (view s).Goes (view (endStart o s)) :=
  finish_goes_of_cart (c := .present) (by simp) nofun
    (fun ok => ⟨(calm ok).1, (calm ok).2.1⟩) still

theorem endStart_goes_of_bare {o : OutcomeCode} {s : State} (bare : s.cu.slot.work.bare = true)
    (still : s.cu.slot.work.still = false) : (view s).Goes (view (endStart o s)) :=
  endStart_goes (fun ok => (ok.bare (ok.taken fun e => by
    change s.cu.slot.work = .idle at e
    simp [e, Work.still] at still) bare).calm) still

/-- A load has answered: it works no more, and the copies are not written. -/
theorem View.Lawful.calm_of_loaded {v : View} (ok : v.Lawful) (loaded : v.loaded = true) : v.Calm := by
  obtain ⟨-, load, copy, -, -, -, cart, -, idle, -⟩ := ok
  have stage := load (.inr loaded)
  refine ⟨idle loaded, ?_, fun released => ?_⟩
  · rw [Bool.eq_false_iff]
    intro works
    have owned := copy (.inl works)
    obtain e | e := stage <;> simp [View.owned, e] at owned
  · obtain ⟨eject, -⟩ := cart released
    obtain e | e := stage <;> simp [e] at eject

theorem view_applyChoice (r0 r1 : CopyReport) (c0 c1 : Option RecordCopy) (s : State) :
    ∃ c, c ≠ .released ∧ view (applyChoice r0 r1 c0 c1 s) = { view s with cart := c } := by
  refine ⟨(choiceFinding (s.cart.type.getD .a) r0 r1 c0 c1).1, ?_, rfl⟩
  unfold choiceFinding
  repeat' split
  all_goals nofun

/-- The heads are at cylinder 0, and the load begins. -/
theorem beginLoad_goes {s : State} {w : Work} (h : w = .startLoad ∨ w = .reloadLoad)
    (bare : s.cu.slot.work.bare = true) (still : s.cu.slot.work.still = false) :
    (view s).Goes (view (setWork w (beginLoad (dropTold s)))) := by
  rw [view_setWork, view_beginLoad]
  refine .of_lawful (.inr ⟨rfl, View.awake_of_still still⟩) (by obtain rfl | rfl := h <;> rfl) fun ok => ?_
  exact (ok.bare (ok.taken fun e => by
    change s.cu.slot.work = .idle at e
    simp [e, Work.still] at still) bare).loads h

theorem advanceStart_keeps (s : State) : Keeps s (advanceStart s) := by
  unfold advanceStart
  split
  · rename_i stage
    have ends (o : OutcomeCode) : (view s).Goes (view (endStart o s)) :=
      endStart_goes_of_bare (by rw [stage]; rfl) (by rw [stage]; rfl)
    split
    · split
      · exact ends .faulted
      · exact .refl _
    · split
      · exact ends .aborted
      · split
        · rw [keeps_some, view_setWork, view_requestTarget]
          exact .stage (by rw [view, stage]; rfl) (by rw [view, stage]; rfl) rfl
        · exact trivial
  · rename_i stage
    have ends (o : OutcomeCode) : (view s).Goes (view (endStart o s)) :=
      endStart_goes_of_bare (by rw [stage]; rfl) (by rw [stage]; rfl)
    split
    · split
      · exact ends .faulted
      · exact .refl _
    · split
      · exact ends .aborted
      · split
        · exact trivial
        · exact beginLoad_goes (.inl rfl) (by rw [stage]; rfl) (by rw [stage]; rfl)
        · exact ends .faulted
  · rename_i stage
    have still : s.cu.slot.work.still = false := by rw [stage]; rfl
    have calm (some_ : s.mail.load.isSome = true) (ok : (view s).Lawful) : (view s).Calm := ok.calm_of_loaded some_
    split
    · exact trivial
    · rename_i failed
      exact endStart_goes (calm (by rw [failed]; rfl)) still
    · rename_i stopped
      exact endStart_goes (calm (by rw [stopped]; rfl)) still
    · rename_i r0 r1 c0 c1 chosen
      obtain ⟨c, ne, eq⟩ := view_applyChoice r0 r1 c0 c1 s
      exact finish_goes_of_cart eq ne (fun ok =>
        have ⟨load, copy, _⟩ := calm (by rw [chosen]; rfl) ok
        ⟨load, copy⟩) still
  · exact trivial

end Sys2Proof.Machine

/-! ## Proofs: the contexts under the items that transfer no blocks, from a reload on -/

namespace Sys2Proof.Machine

/-! ### The answer of a write-back -/

/-- The copy writes have answered: they work no more, no load reads, and the cartridge is not RELEASED. -/
theorem View.Lawful.calm_of_saved {v : View} (ok : v.Lawful) (saved : v.saved = true) : v.Calm := by
  obtain ⟨-, load, copy, -, -, -, cart, -, -, idle, -⟩ := ok
  have owned := copy (.inr (.inl saved))
  refine ⟨?_, idle (.inl saved), fun released => ?_⟩
  · rw [Bool.eq_false_iff]
    intro works
    obtain e | e := load (.inl works) <;> simp [View.owned, e] at owned
  · obtain ⟨eject, stage⟩ := cart released
    simp [View.owned, eject, stage] at owned

/-- The stages of a write-back other than a data command's, a REASSIGN's and an eject's. -/
def Work.saves (w : Work) : Prop := w = .reloadSave ∨ w = .restSave ∨ w = .downSave

/-- With the answer of the write-back taken no context is left. -/
theorem View.Lawful.bare_of_saved {v : View} (ok : v.Lawful) (saved : v.saved = true) (stage : v.work.saves) :
    View.Bare { v with saved := false } := by
  have calm := ok.calm_of_saved saved
  obtain ⟨free, load, copy, transfer, reassign, fmt, cart, origin, loaded, idle, one⟩ := ok
  have copies := one saved
  have other : v.work ≠ .idle ∧ v.work ≠ .startLoad ∧ v.work ≠ .reloadLoad ∧ v.work ≠ .data ∧ v.work ≠ .reassign
      ∧ v.work ≠ .format := by
    obtain e | e | e := stage <;> simp [e]
  refine ⟨?_, calm, ?_, ?_, ?_, origin, ?_, rfl, copies⟩ <;> simp_all

/-! ### Reload -/

theorem View.awake_of_not_still {u v : View} (h : u.work.still = false) (same : v.rest = u.rest := by rfl) :
    u.Awake v := .inr ⟨same, View.awake_of_still h⟩

theorem reloadSpindle_goes {s : State} (saved : s.mail.saved.isSome = true) (stage : s.cu.slot.work = .reloadSave) :
    (view s).Goes (view (reloadSpindle { s with mail := { s.mail with saved := none } })) := by
  unfold reloadSpindle
  rw [view_setWork, view_startUnless]
  refine .of_lawful (View.awake_of_not_still (by rw [view, stage]; rfl)) rfl fun ok => ?_
  have b := ok.bare_of_saved saved (.inl stage)
  exact View.Bare.lawful { b with }

/-- A stage that waits for a fault or for its answer ends the item, or lets the fault go. -/
theorem ends_or_drops {p : Prop} [Decidable p] {s t : State} (h : (view s).Goes (view t)) :
    Keeps s (if p then some t else some (dropNote s)) := by
  split
  · exact h
  · exact .refl _

theorem advanceReload_keeps (s : State) : Keeps s (advanceReload s) := by
  unfold advanceReload
  split
  · have ends (o : OutcomeCode) : (view s).Goes (view (finish o s)) := finish_goes_of_bare
    split
    · exact ends_or_drops (ends _)
    · split
      · exact ends _
      · split
        · exact ends _
        · exact trivial
  · rename_i stage
    split
    · exact trivial
    · rename_i r saved
      have some_ : s.mail.saved.isSome = true := by rw [saved]; rfl
      have ends (o : OutcomeCode) : (view s).Goes (view (finish o s)) :=
        finish_goes fun ok => ok.calm_of_saved some_
      split
      · exact ends _
      · split
        · exact ends _
        · split
          · exact ends _
          · exact reloadSpindle_goes some_ stage
  · rename_i stage
    have ends (o : OutcomeCode) : (view s).Goes (view (finish o s)) := finish_goes_of_bare
    split
    · exact ends_or_drops (ends _)
    · split
      · exact ends _
      · split
        · rw [keeps_some, view_setWork, view_requestTarget]
          exact .stage (by rw [view, stage]; rfl) (by rw [view, stage]; rfl) rfl
        · exact trivial
  · rename_i stage
    have ends (o : OutcomeCode) : (view s).Goes (view (finish o s)) := finish_goes_of_bare
    split
    · exact ends_or_drops (ends _)
    · split
      · exact ends _
      · split
        · exact trivial
        · exact beginLoad_goes (.inr rfl) (by rw [stage]; rfl) (by rw [stage]; rfl)
        · exact ends _
  · rename_i stage
    have still : s.cu.slot.work.still = false := by rw [stage]; rfl
    have calm (some_ : s.mail.load.isSome = true) (ok : (view s).Lawful) : (view s).Calm := ok.calm_of_loaded some_
    split
    · exact trivial
    · rename_i failed
      exact finish_goes (calm (by rw [failed]; rfl))
    · rename_i stopped
      exact finish_goes (calm (by rw [stopped]; rfl))
    · rename_i r0 r1 c0 c1 chosen
      have loaded : s.mail.load.isSome = true := by rw [chosen]; rfl
      split
      · obtain ⟨c, ne, eq⟩ := view_applyChoice r0 r1 c0 c1 s
        exact finish_goes_of_cart eq ne (fun ok =>
          have ⟨load, copy, _⟩ := calm loaded ok
          ⟨load, copy⟩) still
      · exact finish_goes (s := replaceReport r0 r1 s) (calm loaded)
  · exact trivial

/-! ### SEEK and TIMED WAKE -/

theorem advanceSeek_keeps (s : State) : Keeps s (advanceSeek s) := by
  unfold advanceSeek
  split
  · rename_i stage
    have ends (o : OutcomeCode) : (view s).Goes (view (finish o s)) := finish_goes_of_bare
    split
    · exact ends_or_drops (ends _)
    · split
      · exact ends _
      · split
        · rw [keeps_some, view_setWork, view_requestTarget]
          exact .stage (by rw [view, stage]; rfl) (by rw [view, stage]; rfl) rfl
        · exact trivial
  · rename_i stage
    have ends (o : OutcomeCode) : (view s).Goes (view (finish o s)) := finish_goes_of_bare
    split
    · exact ends_or_drops (ends _)
    · split
      · exact ends _
      · split
        · have settled : (settleWhereItIs s).cu.slot.work = .seekTarget := by simp [stage]
          have := finish_goes_of_bare (o := .aborted) (s := settleWhereItIs s)
          rwa [view_settleWhereItIs] at this
        · exact trivial
  · exact trivial

theorem advanceWake_keeps (s : State) : Keeps s (advanceWake s) := by
  have ends {u : State} (h : u.cu.slot.work = .wakeSpin ∨ u.cu.slot.work = .wakeTarget) (same : view u = view s) :
      (view s).Goes (view (endWake u)) := by
    have := finish_goes_of_bare (o := .done) (s := setCause .wake u)
      (by obtain e | e := h <;> simp [e]) (by obtain e | e := h <;> simp [e, Work.bare])
    rwa [view_setCause, same] at this
  unfold advanceWake
  split
  · rename_i stage
    split
    · exact ends_or_drops (ends (.inl stage) rfl)
    · split
      · exact ends (.inl stage) rfl
      · split
        · split
          · rw [keeps_some, view_setWork, view_requestTarget]
            exact .stage (by rw [view, stage]; rfl) (by rw [view, stage]; rfl) rfl
          · exact ends (.inl stage) rfl
        · exact trivial
  · rename_i stage
    split
    · exact ends_or_drops (ends (.inr stage) rfl)
    · split
      · exact ends (.inr stage) rfl
      · split
        · exact ends (.inr (by simp [stage])) (view_settleWhereItIs s)
        · exact trivial
  · exact trivial

/-! ### SPIN DOWN -/

theorem stateForType_ne_released (t : Option CartType) : stateForType t ≠ .released := by
  cases t <;> simp [stateForType]

theorem view_downParks (s : State) : view (downParks s) = { view s with work := .downPark } := by
  unfold downParks
  simp

theorem downDiscards_goes {s t : State} (same : view t = view s) (stage : s.cu.slot.work = .downStop) :
    (view s).Goes (view (downDiscards t)) := by
  unfold downDiscards
  refine finish_goes_of_cart (c := stateForType t.cart.type) (by simp [same]) (stateForType_ne_released _)
    (fun ok => ?_) (by rw [view, stage]; rfl)
  have b := ok.bare (ok.taken (by simp [view, stage])) (by rw [view, stage]; rfl)
  exact ⟨b.calm.1, b.calm.2.1⟩

/-- A stage without contexts asks for a write-back. -/
theorem saves_goes {s : State} {w : Work} (bare : (view s).Lawful → (view s).Bare) (saves : w.saves)
    (awake : (view s).rest = .none ∨ (view s).work.still = false) (rests : w.rests = false) :
    (view s).Goes (view (setWork w (beginWriteBack s))) := by
  by_cases idle : (view s).copy = false ∧ (view s).saved = false
  · obtain ⟨b, eq⟩ := view_beginWriteBack idle.1 idle.2
    rw [view_setWork, eq]
    refine .of_lawful ?_ rests fun ok => (bare ok).saves b saves
    exact awake.elim .inl fun h => View.awake_of_not_still h
  · exact fun ok => absurd ⟨(bare ok).calm.2.1, (bare ok).saved⟩ idle

theorem advanceSpinDown_keeps (s : State) : Keeps s (advanceSpinDown s) := by
  unfold advanceSpinDown
  split
  · rename_i stage
    have bare (ok : (view s).Lawful) : (view s).Bare :=
      ok.bare (ok.taken (by simp [view, stage])) (by rw [view, stage]; rfl)
    have still : (view s).work.still = false := by rw [view, stage]; rfl
    split
    · split
      · rw [keeps_some, view_downParks, view_slotResult, view_slotFaulted]
        refine .of_lawful (View.awake_of_not_still still) rfl fun ok => ?_
        exact View.Bare.lawful { bare ok with saved := rfl }
      · exact .refl _
    · split
      · exact saves_goes bare (.inr (.inr rfl)) (.inr still) rfl
      · exact trivial
  · rename_i stage
    split
    · rw [keeps_some, view_slotFaulted]
      exact .refl _
    · split
      · exact trivial
      · rename_i r saved
        rw [keeps_some, view_downParks, view_slotResult]
        refine .of_lawful (View.awake_of_not_still (by rw [view, stage]; rfl)) rfl fun ok => ?_
        have b := ok.bare_of_saved (by simp [view, saved]) (.inr (.inr stage))
        exact View.Bare.lawful { b with }
  · rename_i stage
    split
    · rw [keeps_some, view_slotFaulted]
      exact .refl _
    · split
      · rw [keeps_some, view_setWork, view_stopRequest]
        exact .stage (by rw [view, stage]; rfl) (by rw [view, stage]; rfl) rfl
      · exact trivial
  · rename_i stage
    split
    · exact downDiscards_goes (view_slotFaulted _ s) stage
    · rw [keeps_some, view_slotFaulted]
      exact .refl _
    · split
      · exact downDiscards_goes rfl stage
      · exact trivial
  · exact trivial

end Sys2Proof.Machine

/-! ## Proofs: the contexts under REST, an eject and a soft reset -/

namespace Sys2Proof.Machine

/-! ### REST -/

/-- What happens to the view keeps the laws of the contexts and of the rest; a rest may begin. -/
def View.Lasts (v w : View) : Prop := v.Lawful → w.Lawful ∧ (v.Resting → w.Resting)

theorem View.Goes.lasts {v w : View} (h : v.Goes w) : v.Lasts w := fun ok =>
  have ⟨lawful, resting, _⟩ := h ok
  ⟨lawful, resting⟩

/-- What the work of an item comes to keeps the laws of the contexts and of the rest, if it goes on at all. -/
def Lasting (s : State) : Option State → Prop
  | none => True
  | some t => (view s).Lasts (view t)

theorem Keeps.lasting {s : State} {o : Option State} (h : Keeps s o) : Lasting s o := by
  cases o with
  | none => trivial
  | some t => exact View.Goes.lasts h

/-- A stage of REST entry follows another. -/
theorem View.Lasts.stage {v w : View} (rests : v.work.rests = true)
    (cart : w.cart = v.cart) (rest : w.rest = v.rest) (bare : v.Lawful → w.Bare) : v.Lasts w := by
  have still : v.work.still = false := by
    cases stage : v.work <;> simp_all [Work.rests, Work.still]
  refine fun ok => ⟨(bare ok).lawful, fun resting => ⟨fun ne => ?_, fun _ => cart ▸ resting.2 rests⟩⟩
  exact absurd (View.awake_of_still still resting) (rest ▸ ne)

/-- The stages after the retract request. -/
theorem lawful_bare_of_rests {s : State} (stage : s.cu.slot.work = .restPark ∨ s.cu.slot.work = .restStop)
    (ok : (view s).Lawful) : (view s).Bare := by
  refine ok.bare (ok.taken ?_) ?_
  · obtain e | e := stage <;> simp [view, e]
  · obtain e | e := stage <;> (rw [view, e]; rfl)

/-- The rest is entered, and the item ends (R162). -/
theorem enterRest_lasts {s t : State} (same : view t = view s)
    (stage : s.cu.slot.work = .restPark ∨ s.cu.slot.work = .restStop) :
    (view s).Lasts (view (enterRest t)) := by
  intro ok
  have b := lawful_bare_of_rests stage ok
  have calm := b.calm
  have rests : (view s).work.rests = true := by obtain e | e := stage <;> (rw [view, e]; rfl)
  have entered : view { t with rest := {
      state := if restStandby t then .standby else .idle
      wakeActive := restWakeActive t
      timer := if restMinutes t = 0 then none else some (restMinutes t * Config.minute) } }
      = { view s with rest := if restStandby t then .standby else .idle } := by
    rw [← same]
    rfl
  have ended := view_finish (restOutcome t) { t with rest := {
      state := if restStandby t then .standby else .idle
      wakeActive := restWakeActive t
      timer := if restMinutes t = 0 then none else some (restMinutes t * Config.minute) } }
  rw [entered] at ended
  have goes := ended.goes (u := { view s with rest := if restStandby t then .standby else .idle })
    fun _ => ⟨calm.1, calm.2.1, calm.2.2, fun _ => rfl, fun resting ne => (resting.1 ne).1⟩
  have lawful : View.Lawful { view s with rest := if restStandby t then .standby else .idle } :=
    View.Bare.lawful { b with }
  refine ⟨(goes lawful).1, fun resting => ?_⟩
  have cart := resting.2 rests
  obtain eq | ⟨-, r, eq⟩ := ended
  · exact eq ▸ ⟨fun _ => ⟨cart, rfl⟩, nofun⟩
  · exact eq ▸ ⟨fun _ => ⟨cart, rfl⟩, nofun⟩

theorem advanceRest_lasting (s : State) : Lasting s (advanceRest s) := by
  have faulted (cls : FaultClass) : (view s).Lasts (view (slotFaulted cls s)) :=
    (View.Goes.of_eq (view_slotFaulted cls s)).lasts
  unfold advanceRest
  split
  · rename_i stage
    split
    · exact faulted _
    · split
      · exact trivial
      · rename_i r saved
        have parks : view (restParks (slotResult r s)) = { view s with saved := false, work := .restPark } := by
          unfold restParks
          simp
        change (view s).Lasts (view (restParks (slotResult r s)))
        rw [parks]
        refine .stage (by rw [view, stage]; rfl) rfl rfl fun ok => ?_
        have b := ok.bare_of_saved (by simp [view, saved]) (.inr (.inl stage))
        exact { b with }
  · rename_i stage
    split
    · exact faulted _
    · split
      · split
        · change (view s).Lasts (view (setWork .restStop (stopRequest s)))
          rw [view_setWork, view_stopRequest]
          refine .stage (by rw [view, stage]; rfl) rfl rfl fun ok => ?_
          have b := lawful_bare_of_rests (.inl stage) ok
          exact { b with }
        · exact enterRest_lasts rfl (.inl stage)
      · exact trivial
  · rename_i stage
    split
    · exact enterRest_lasts (view_slotFaulted _ s) (.inr stage)
    · exact faulted _
    · split
      · exact enterRest_lasts rfl (.inr stage)
      · exact trivial
  · exact trivial

/-! ### The eject sequence -/

/-- An eject is in a stage in which nothing works for it. -/
theorem View.Lawful.bare_of_eject {v : View} {st : EjectStage} (ok : v.Lawful) (stage : v.work = .eject)
    (progress : v.eject = some st) (saves : st ≠ .writeBack) (leaves : st ≠ .leaveOrJam) : v.Bare := by
  have taken := ok.taken (by simp [stage])
  obtain ⟨-, load, copy, transfer, reassign, fmt, cart, origin, -⟩ := ok
  have owned : ¬ v.owned := by simp [View.owned, stage, progress, saves]
  constructor <;> simp_all [View.Calm]

/-- An eject has its write-back behind it. -/
theorem View.Lawful.bare_of_ejectSaved {v : View} (ok : v.Lawful) (stage : v.work = .eject)
    (saved : v.saved = true) : View.Bare { v with saved := false } := by
  have calm := ok.calm_of_saved saved
  have taken := ok.taken (by simp [stage])
  obtain ⟨-, load, copy, transfer, reassign, fmt, cart, origin, loaded, idle, one⟩ := ok
  refine ⟨taken, calm, ?_, ?_, ?_, origin, ?_, rfl, one saved⟩ <;> simp_all

/-- An eject goes on to another stage of the same cartridge. -/
theorem eject_goes {u v : View} {e : Option EjectStage} (same : v = { u with eject := e, saved := v.saved })
    (stage : u.work = .eject) (bare : u.Lawful → v.Bare) : u.Goes v := by
  have work : v.work = .eject := by rw [same]; exact stage
  refine .of_lawful (View.awake_of_not_still (by rw [stage]; rfl) (by rw [same])) (by rw [work]; rfl) fun ok => ?_
  exact (bare ok).lawful

theorem view_ejectParks (s : State) :
    view (ejectParks s) = { view s with eject := (view s).eject.map fun _ => .park } := by
  unfold ejectParks
  dsimp only
  split <;> simp

/-- The write-back stage ends with neither copy written. -/
theorem ejectSaveFails_goes {u : View} {s : State} {b : Bool} (o : OutcomeCode) (same : view s = { u with saved := b })
    (stage : u.work = .eject) (bare : u.Lawful → (view s).Bare) :
    u.Goes (view (ejectSaveFails o s)) := by
  have still : u.work.still = false := by rw [stage]; rfl
  have ends {t : State} {c : CartState} (eq : view t = { view s with cart := c })
      (ne : (view s).Bare → c ≠ .released) : u.Goes (view (finish o t)) := by
    refine (view_finish o t).goes fun ok => ?_
    have b := bare ok
    rw [eq, same]
    exact ⟨by rw [← b.calm.1, same], by rw [← b.calm.2.1, same], ne b, fun _ => rfl, fun resting ne =>
      absurd (View.awake_of_still still resting) ne⟩
  unfold ejectSaveFails
  split
  · split
    · rw [view_ejectParks]
      refine eject_goes (e := u.eject.map fun _ => .park) (by rw [view_setCause, same]) stage fun ok => ?_
      exact { bare ok with }
    · rename_i e progress forced
      refine ends (c := s.cart.origin.getD .present) (by simp) fun b => ?_
      have origin : s.cart.origin ≠ some .released := b.origin
      cases from_ : s.cart.origin with
      | none => simp
      | some c => rw [from_] at origin; simpa using origin
  · exact ends (c := (view s).cart) rfl fun b => b.calm.2.2

theorem ejectSaves_goes {s : State} (stage : s.cu.slot.work = .eject) (progress : s.cart.eject.isSome = true)
    (bare : (view s).Lawful → (view s).Bare) : (view s).Goes (view (ejectSaves s)) := by
  by_cases idle : (view s).copy = false ∧ (view s).saved = false
  · obtain ⟨b, eq⟩ := view_beginWriteBack idle.1 idle.2
    obtain ⟨e, some_⟩ := Option.isSome_iff_exists.mp progress
    have saves : view (ejectSaves s)
        = { view s with copy := b, saved := !b, eject := some .writeBack } := by
      unfold ejectSaves
      rw [view_ejectStage, eq]
      simp [view, some_]
    rw [saves]
    refine .of_lawful (View.awake_of_not_still (by rw [view, stage]; rfl)) (by simp [view, stage, Work.rests])
      fun ok => ?_
    obtain ⟨free, ⟨load, copy, cart⟩, transfer, reassign, fmt, origin, loaded, saved, copies⟩ := bare ok
    have work : (view s).work = .eject := stage
    simp [View.Lawful, View.owned, *]
  · exact fun ok => absurd ⟨(bare ok).calm.2.1, (bare ok).saved⟩ idle

theorem ejectBrakeFails_goes {s : State} (stage : s.cu.slot.work = .eject)
    (calm : (view s).Lawful → (view s).Calm) : (view s).Goes (view (ejectBrakeFails s)) := by
  unfold ejectBrakeFails
  exact finish_goes_of_cart (c := stateForType s.cart.type) (by simp) (stateForType_ne_released _)
    (fun ok => ⟨(calm ok).1, (calm ok).2.1⟩) (by rw [view, stage]; rfl)

theorem view_ejectBrakes (s : State) :
    view (ejectBrakes s) = { view s with eject := (view s).eject.map fun _ => .brake } := by
  unfold ejectBrakes
  dsimp only
  split <;> simp

/-- The cartridge is empty once the shell has left, and the item ends (R19). -/
theorem ejectLeaves_goes {u : View} {s : State} (eq : view s = { u with cart := (view s).cart, eject := (view s).eject })
    (calm : u.Lawful → u.load = false ∧ u.copy = false) (still : u.work.still = false) :
    u.Goes (view (ejectLeaves s)) := by
  unfold ejectLeaves
  refine (view_finish .done (shellLeaves s)).goes fun ok => ?_
  obtain ⟨load, copy⟩ := calm ok
  rw [view_shellLeaves, eq]
  exact ⟨load, copy, nofun, fun _ => rfl, fun resting ne => absurd (View.awake_of_still still resting) ne⟩

theorem ejectReleases_goes {s : State} (stage : s.cu.slot.work = .eject) (progress : s.cart.eject.isSome = true)
    (bare : (view s).Lawful → (view s).Bare) : (view s).Goes (view (ejectReleases s)) := by
  have still : (view s).work.still = false := by rw [view, stage]; rfl
  have released : view (assertLatch (setCart .released s))
      = { view s with cart := .released, eject := some .leaveOrJam } := by
    obtain ⟨e, some_⟩ := Option.isSome_iff_exists.mp progress
    simp [view, assertLatch, some_]
  unfold ejectReleases
  dsimp only
  split
  · refine View.Goes.of_lawful (v := view (assertLatch (setCart .released s))) ?_ ?_ fun ok => ?_
    · rw [released]
      exact View.awake_of_not_still still
    · rw [released]
      simp [view, stage, Work.rests]
    · obtain ⟨free, ⟨load, copy, cart⟩, transfer, reassign, fmt, origin, loaded, saved, copies⟩ := bare ok
      have work : (view s).work = .eject := stage
      rw [released]
      simp [View.Lawful, *]
  · refine ejectLeaves_goes (s := assertLatch (setCart .released s)) ?_
      (fun ok => ⟨(bare ok).calm.1, (bare ok).calm.2.1⟩) still
    rw [released]

theorem ejectJams_goes {s : State} (still : s.cu.slot.work.still = false)
    (calm : (view s).Lawful → (view s).load = false ∧ (view s).copy = false) :
    (view s).Goes (view (ejectJams s)) := by
  unfold ejectJams
  refine finish_goes_of_cart (c := stateForType s.cart.type) ?_ (stateForType_ne_released _) calm still
  have jammed : view (setCause .jammed (resetReport (discardSession (setCart (stateForType s.cart.type) s))))
      = { view s with cart := stateForType s.cart.type } := by simp
  exact jammed

end Sys2Proof.Machine

/-! ## Proofs: the contexts under the stages of an eject and of a soft reset -/

namespace Sys2Proof.Machine

theorem advanceEject_keeps {s : State} (stage : s.cu.slot.work = .eject) : Keeps s (advanceEject s) := by
  unfold advanceEject
  split
  · exact trivial
  · rename_i e progress
    have some_ : s.cart.eject.isSome = true := by rw [progress]; rfl
    have at_ {st : EjectStage} (h : e.stage = st) : (view s).eject = some st := by simp [view, progress, h]
    have bare {st : EjectStage} (h : e.stage = st) (saves : st ≠ .writeBack) (leaves : st ≠ .leaveOrJam)
        (ok : (view s).Lawful) : (view s).Bare := ok.bare_of_eject stage (at_ h) saves leaves
    have moves {o : Option EjectStage} {t : State} (eq : view t = { view s with eject := o })
        (b : (view s).Lawful → (view s).Bare) : (view s).Goes (view t) := by
      rw [eq]
      exact eject_goes (e := o) rfl stage fun ok => { b ok with }
    split
    · rename_i st
      have b := bare st (by decide) (by decide)
      split
      · split
        · exact ejectSaveFails_goes (u := view s) (b := (view s).saved) .faulted rfl stage b
        · exact .refl _
      · split
        · exact ejectSaves_goes stage some_ b
        · exact trivial
    · split
      · exact trivial
      · rename_i r saved
        have b (ok : (view s).Lawful) : View.Bare { view s with saved := false } :=
          ok.bare_of_ejectSaved stage (by simp [view, saved])
        dsimp only
        split
        · exact ejectSaveFails_goes (u := view s) (b := false)
            (s := dropNote { s with mail := { s.mail with saved := none } }) _ rfl stage b
        · rw [keeps_some, view_ejectParks]
          exact eject_goes (e := (view s).eject.map fun _ => .park) rfl stage fun ok => { b ok with }
    · rename_i st
      have b := bare st (by decide) (by decide)
      split
      · exact .refl _
      · split
        · split
          · exact ejectBrakeFails_goes stage fun ok => (b ok).calm
          · exact moves (view_ejectBrakes s) b
        · exact trivial
    · rename_i st
      have b := bare st (by decide) (by decide)
      split
      · exact ejectBrakeFails_goes stage fun ok => (b ok).calm
      · split
        · exact .refl _
        · split
          · exact moves (view_ejectStage _ s) b
          · exact trivial
    · rename_i st
      have b := bare st (by decide) (by decide)
      split
      · exact .refl _
      · split
        · exact ejectReleases_goes stage some_ b
        · exact trivial
    · split
      · exact .refl _
      · exact trivial

theorem view_restore (s : State) : view (restore s) = view s
    ∨ view (restore s) = { (view s).cleared with free := true, work := .idle } := by
  unfold restore
  split
  · exact .inr rfl
  · exact .inl rfl

theorem advanceReset_keeps (s : State) : Keeps s (advanceReset s) := by
  unfold advanceReset
  split
  · rename_i stage
    split
    · exact .refl _
    · split
      · obtain same | ended := view_restore s
        · exact .of_eq same
        · refine View.Ended.goes (v := view s) (.inl ended) fun ok => ?_
          have b := ok.bare (ok.taken (by simp [view, stage])) (by rw [view, stage]; rfl)
          exact ⟨b.calm.1, b.calm.2.1, b.calm.2.2, fun _ => rfl, fun resting ne => (resting.1 ne).1⟩
      · exact trivial
  · exact trivial

end Sys2Proof.Machine

/-! ## Proofs: the contexts under READ, WRITE and VERIFY -/

namespace Sys2Proof.Machine

/-! ### What the stages of a data command do to the view -/

/-- The context and the wait of a data command change, or its write-back begins. -/
def View.DataStep (v w : View) : Prop :=
  (∃ g p, w = { v with gate := g, transfer := p })
  ∨ ∃ b, w = { v with gate := false, transfer := some .save, copy := b, saved := !b }

/-- The record unit neither writes copies nor has answered about them. -/
def View.Unsaved (v : View) : Prop := v.copy = false ∧ v.saved = false

/-- A data command is in the slot, and it does not write back. -/
def View.Data (v : View) : Prop := v.work = .data ∧ View.Bare { v with transfer := none }

theorem View.DataStep.refl (v : View) : v.DataStep v := .inl ⟨v.gate, v.transfer, rfl⟩

/-- A step after a change of the context is one from before it. -/
theorem View.DataStep.after {v w : View} {g : Bool} {p : Option DataPhase}
    (h : View.DataStep { v with gate := g, transfer := p } w) : v.DataStep w := by
  obtain ⟨g', p', eq⟩ | ⟨b, eq⟩ := h
  · exact .inl ⟨g', p', eq⟩
  · exact .inr ⟨b, eq⟩

theorem View.Data.unsaved {v : View} (h : v.Data) : v.Unsaved := ⟨h.2.calm.2.1, h.2.saved⟩

theorem View.Lawful.data_of_not_owned {v : View} (ok : v.Lawful) (stage : v.work = .data) (owned : ¬ v.owned) :
    v.Data := by
  have taken := ok.taken (by simp [stage])
  obtain ⟨-, load, copy, -, reassign, fmt, cart, origin, -⟩ := ok
  refine ⟨stage, ?_⟩
  constructor <;> simp_all [View.Calm]

theorem View.Lawful.data {v : View} (ok : v.Lawful) (stage : v.work = .data) (phase : v.transfer ≠ some .save) :
    v.Data :=
  ok.data_of_not_owned stage (by simp [View.owned, stage, phase])

theorem View.DataStep.goes {v w : View} (h : v.DataStep w) (stage : v.work = .data) (data : v.Lawful → v.Data) :
    v.Goes w := by
  have awake {u : View} (same : u.rest = v.rest) : v.Awake u := View.awake_of_not_still (by rw [stage]; rfl) same
  obtain ⟨g, p, rfl⟩ | ⟨b, rfl⟩ := h
  · refine .of_lawful (awake rfl) (by simp [stage, Work.rests]) fun ok => ?_
    obtain ⟨-, free, ⟨load, copy, cart⟩, -, reassign, fmt, origin, loaded, saved, copies⟩ := data ok
    simp_all [View.Lawful]
  · refine .of_lawful (awake rfl) (by simp [stage, Work.rests]) fun ok => ?_
    obtain ⟨-, free, ⟨load, copy, cart⟩, -, reassign, fmt, origin, loaded, saved, copies⟩ := data ok
    simp_all [View.Lawful, View.owned]

@[simp] theorem view_requestNext (s : State) : view (requestNext s) = view s := by
  unfold requestNext
  split
  · rename_i t runs
    split
    · dsimp only
      change view (fillFree _ (setTransfer _ s)) = _
      rw [view_fillFree, view_setTransfer]
      simp [view, runs]
    · rfl
  · rfl

@[simp] theorem view_requestData (s : State) : view (requestData s) = view s := by
  unfold requestData
  simp

@[simp] theorem view_dropFrames (s : State) : view (dropFrames s) = view s := rfl

@[simp] theorem view_endBuffers (t : Transfer) (o : OutcomeCode) (s : State) :
    view (endBuffers t o s) = view s := by
  unfold endBuffers
  split
  · rfl
  · split <;> rfl

/-- A data command ends: it waits for its frames, or writes back first (R114, R126). -/
theorem endTransfer_step {s : State} (t : Transfer) (o : OutcomeCode) (save : Bool) (idle : (view s).Unsaved) :
    (view s).DataStep (view (endTransfer t o save s)) := by
  unfold endTransfer
  dsimp only
  have quiet : view (dropRequester (stopGateWait (restoreOffset (endBuffers t o s))))
      = { view s with gate := false } := by simp
  generalize dropRequester (stopGateWait (restoreOffset (endBuffers t o s))) = x at quiet
  have ended : view { x with mail := { x.mail with sector := none, told := none, note := none } }
      = { view s with gate := false } := quiet
  generalize { x with mail := { x.mail with sector := none, told := none, note := none } } = y at ended
  split
  · have set : view (setTransfer { t with outcome := o, phase := .save } y)
        = { view s with gate := false, transfer := some .save } := by rw [view_setTransfer, ended]
    obtain ⟨b, eq⟩ := view_beginWriteBack (s := setTransfer { t with outcome := o, phase := .save } y)
      (by rw [set]; exact idle.1) (by rw [set]; exact idle.2)
    exact .inr ⟨b, by rw [eq, set]⟩
  · exact .inl ⟨false, some .drain, by rw [view_setTransfer, ended]⟩

theorem setTransfer_step {s : State} (t : Transfer) : (view s).DataStep (view (setTransfer t s)) :=
  .inl ⟨(view s).gate, some t.phase, rfl⟩

/-- The context changes, and a target is asked for. -/
theorem seeks_step {s : State} (t : Transfer) (target : Target) (q : Option Requester) :
    (view s).DataStep (view (requestTarget target q (setTransfer t s))) := by
  rw [view_requestTarget]
  exact setTransfer_step t

theorem attemptFails_step {s : State} (t : Transfer) (idle : (view s).Unsaved) :
    (view s).DataStep (view (attemptFails t s)) := by
  unfold attemptFails
  split
  · exact endTransfer_step t _ _ idle
  · split
    · have raised := endTransfer_step (s := raise .dataCheck s) { t with failing := some (t.first + t.idx) }
        .dataCheck false (by rw [view_raise]; exact idle)
      rwa [view_raise] at raised
    · split
      · exact setTransfer_step _
      · exact seeks_step _ _ _

@[simp] theorem view_frameBuffered (i : Nat) (d : List Byte) (s : State) : view (frameBuffered i d s) = view s := by
  unfold frameBuffered
  dsimp only
  split
  · exact view_fillFree _ s
  · exact view_fillFree _ s

theorem blockRead_step {s : State} (t : Transfer) (d : List Byte) : (view s).DataStep (view (blockRead t d s)) := by
  unfold blockRead
  dsimp only
  split
  · have set := setTransfer_step (s := frameBuffered t.idx d s)
      { t with recovered := t.recovered || decide (2 ≤ t.attempt), idx := t.idx + 1, phase := .begin }
    rwa [view_frameBuffered] at set
  · exact setTransfer_step _

theorem blockWritten_step {s : State} (t : Transfer) : (view s).DataStep (view (blockWritten t s)) := by
  unfold blockWritten
  rw [view_requestData, view_setTransfer, view_setSlotOf]
  exact .inl ⟨(view s).gate, _, rfl⟩

theorem goToPlace_step {s : State} (t : Transfer) : (view s).DataStep (view (goToPlace t s)) := by
  unfold goToPlace
  split
  · exact setTransfer_step _
  · exact seeks_step _ _ _

theorem moveBlock_step {s : State} (t : Transfer) (idle : (view s).Unsaved) :
    (view s).DataStep (view (moveBlock t s)) := by
  unfold moveBlock
  split
  · exact endTransfer_step t _ _ idle
  · split
    · exact endTransfer_step t _ _ idle
    · rename_i k zones moved
      have stopped : view (stopGateWait (changeZones zones s)) = { view s with gate := false } := by simp
      refine View.DataStep.after (g := false) (p := (view s).transfer) ?_
      have goes := goToPlace_step (s := stopGateWait (changeZones zones s)) { t with
        spare := some k
        place := slotPlace ((t.first + t.idx) / (sessionTable s).1.userSlots) ((sessionTable s).1.userSlots + k)
        reassigned := if t.chain then t.reassigned else t.reassigned + 1
        chain := true, mark := true }
      rwa [stopped] at goes

theorem blockSectorEnds_step {s : State} (t : Transfer) (r : SectorResult) (idle : (view s).Unsaved) :
    (view s).DataStep (view (blockSectorEnds t r s)) := by
  unfold blockSectorEnds
  split
  · split
    · exact setTransfer_step _
    · exact blockWritten_step t
  · exact .refl _
  · exact blockRead_step t _
  · exact attemptFails_step t idle

theorem readBackEnds_step {s : State} (t : Transfer) (r : SectorResult) (idle : (view s).Unsaved) :
    (view s).DataStep (view (readBackEnds t r s)) := by
  unfold readBackEnds
  split
  · split
    · exact blockWritten_step t
    · exact moveBlock_step t idle
  · exact moveBlock_step t idle
  · exact .refl _

theorem beginBlock_step {s : State} (t : Transfer) (idle : (view s).Unsaved) :
    (view s).DataStep (view (beginBlock t s)) := by
  unfold beginBlock
  split
  · exact endTransfer_step t _ _ idle
  · exact goToPlace_step _

theorem transferFault_step {s : State} (t : Transfer) (cls : FaultClass) (idle : (view s).Unsaved) :
    (view s).DataStep (view (transferFault t cls s)) := by
  unfold transferFault
  split
  · exact endTransfer_step _ _ _ idle
  · exact endTransfer_step t _ _ idle

/-- The stage that waits for nothing but its phase, if it goes on. -/
theorem advanceBlocks_step {s : State} (t : Transfer) (idle : (view s).Unsaved) :
    ∀ u, advanceBlocks t s = some u → (view s).DataStep (view u) := by
  intro u h
  unfold advanceBlocks at h
  split at h
  · split at h
    · exact Option.some.inj h ▸ setTransfer_step _
    · cases h
  · exact Option.some.inj h ▸ beginBlock_step t idle
  · split at h
    · cases h
    · exact Option.some.inj h ▸ setTransfer_step (s := dropTold s) _
    · exact Option.some.inj h ▸ endTransfer_step t _ _ idle
  all_goals cases h

/-- The write-back of a data command has answered (R126). -/
theorem transferSaved_goes {s : State} {t : Transfer} (r : RecordResult) (stage : s.cu.slot.work = .data)
    (saved : s.mail.saved.isSome = true) : (view s).Goes (view (transferSaved t r s)) := by
  have eq : view (transferSaved t r s) = { view s with saved := false, transfer := some .drain } := rfl
  have work : (view s).work = .data := stage
  rw [eq]
  refine .of_lawful (View.awake_of_not_still (by rw [work]; rfl)) (by simp [work, Work.rests]) fun ok => ?_
  obtain ⟨load, copy, cart⟩ := ok.calm_of_saved saved
  have taken := ok.taken (by simp [work])
  obtain ⟨-, loads, -, -, reassign, fmt, -, origin, loaded, -, one⟩ := ok
  have copies := one saved
  simp_all [View.Lawful]

theorem advanceData_keeps {s : State} (stage : s.cu.slot.work = .data) : Keeps s (advanceData s) := by
  unfold advanceData
  split
  · exact trivial
  · rename_i t runs
    split
    · split
      · rename_i r saved
        exact transferSaved_goes r stage (by rw [saved]; rfl)
      · exact trivial
    · rename_i phase
      have data (ok : (view s).Lawful) : (view s).Data := ok.data stage (by simp [view, runs, phase])
      have steps {u : State} (h : (view s).Unsaved → (view s).DataStep (view u)) : (view s).Goes (view u) :=
        fun ok => (h (data ok).unsaved).goes stage data ok
      split
      · split
        · exact .refl _
        · split
          · exact finish_goes fun ok => (data ok).2.calm
          · exact trivial
      · split
        · exact steps (transferFault_step t _)
        · split
          · split
            · exact steps (readBackEnds_step (s := dropSector s) t _)
            · exact steps (blockSectorEnds_step (s := dropSector s) t _)
          · split
            · exact steps (endTransfer_step t _ _)
            · split
              · exact steps (endTransfer_step t _ _)
              · cases next : advanceBlocks t s with
                | none => trivial
                | some u => exact steps fun idle => advanceBlocks_step t idle u next

/-! ### Sector starts and timers -/

/-- With its context there, a data command is in the slot. -/
theorem View.Lawful.work_of_transfer {v : View} (ok : v.Lawful) (h : v.transfer ≠ none) : v.work = .data := by
  obtain ⟨-, -, -, transfer, -⟩ := ok
  exact transfer h

theorem DataStep.goes_of_transfer {s u : State} {t : Transfer} (runs : s.chan.transfer = some t) (phase : t.phase ≠ .save)
    (h : (view s).Unsaved → (view s).DataStep (view u)) : (view s).Goes (view u) := by
  intro ok
  have stage := ok.work_of_transfer (by simp [view, runs])
  have data (ok : (view s).Lawful) : (view s).Data := ok.data stage (by simp [view, runs, phase])
  exact (h (data ok).unsaved).goes stage data ok

theorem dataStart_goes {s : State} {t : Transfer} (n : Nat) (runs : s.chan.transfer = some t) :
    (view s).Goes (view (dataStart t n s)) := by
  unfold dataStart
  split
  · exact .refl _
  · split
    · split
      · exact .refl _
      · exact .refl _
    · split
      · exact .refl _
      · rename_i phase
        have reads : t.phase = .sector := by simpa using phase
        have steps {u : State} (h : (view s).Unsaved → (view s).DataStep (view u)) : (view s).Goes (view u) :=
          DataStep.goes_of_transfer runs (by simp [reads]) h
        split
        · split
          · exact .refl _
          · split
            · exact steps fun _ => .inl ⟨false, _, rfl⟩
            · exact steps fun _ => .inl ⟨true, _, view_startGateWait s⟩
        · split
          · exact .refl _
          · split
            · exact .refl _
            · split
              · exact .refl _
              · split
                · exact steps fun _ => setTransfer_step _
                · exact steps (attemptFails_step t)

@[simp] theorem view_withdrawOldest (s : State) : view (withdrawOldest s) = view s := by
  unfold withdrawOldest
  split
  · rfl
  · exact view_setSlotOf _ _ _

theorem timeOut_step {s : State} (t : Transfer) (idle : (view s).Unsaved) :
    (view s).DataStep (view (timeOut t s)) := by
  unfold timeOut
  split
  · exact setTransfer_step _
  · exact endTransfer_step t _ _ idle

theorem dataTimerExpires_goes (s : State) : (view s).Goes (view (dataTimerExpires s)) := by
  unfold dataTimerExpires
  split
  · exact .refl _
  · rename_i t runs
    have timesOut {u : State} (same : view u = view s) (ended : ¬ t.hasEnded = true) :
        (view s).Goes (view (timeOut t u)) := by
      refine DataStep.goes_of_transfer runs (fun phase => ended (by simp [Transfer.hasEnded, phase])) fun idle => ?_
      have step := timeOut_step (s := u) t (by rw [same]; exact idle)
      rwa [same] at step
    split
    · split
      · exact .refl _
      · split
        · exact .of_eq (view_withdrawOldest s)
        · exact timesOut (view_withdrawOldest s) ‹_›
    · split
      · exact .refl _
      · split
        · rw [view_setTransfer, view_dropFrames]
          exact .of_eq (by simp [view, runs])
        · exact timesOut (view_dropFrames s) ‹_›

@[simp] theorem view_takeData (d : List Byte) (s : State) : view (takeData d s) = view s := by
  unfold takeData
  split
  · rfl
  · dsimp only
    split
    · split
      · exact view_setSlotOf _ _ _
      · rw [view_requestData, view_setSlotOf]
        rfl
    · exact view_setSlotOf _ _ _

@[simp] theorem view_dataSent (i : Nat) (s : State) : view (dataSent i s) = view s := by
  unfold dataSent
  dsimp only
  split
  · exact view_setSlotOf _ _ s
  · rename_i t runs
    have kept : view (setTransfer { t with done := t.done + 1 } (setSlotOf i .free s)) = view s := by
      have phase : (view (setSlotOf i .free s)).transfer = some t.phase := by
        simp only [view, runs, Option.map_some]
      rw [view_setTransfer, ← phase]
      exact view_setSlotOf _ _ s
    split
    · exact kept
    · exact kept

end Sys2Proof.Machine

/-! ## Proofs: the contexts under REASSIGN -/

namespace Sys2Proof.Machine

/-- The context and the wait of a REASSIGN change, or its write-back begins. -/
def View.ReassignStep (v w : View) : Prop :=
  (∃ g p, w = { v with gate := g, reassign := p })
  ∨ ∃ b, w = { v with gate := false, reassign := some .save, copy := b, saved := !b }

/-- A REASSIGN is in the slot, and it does not write back. -/
def View.Reassigns (v : View) : Prop := v.work = .reassign ∧ View.Bare { v with reassign := none }

theorem View.ReassignStep.refl (v : View) : v.ReassignStep v := .inl ⟨v.gate, v.reassign, rfl⟩

theorem View.Reassigns.unsaved {v : View} (h : v.Reassigns) : v.Unsaved := ⟨h.2.calm.2.1, h.2.saved⟩

theorem View.Lawful.reassigns_of_not_owned {v : View} (ok : v.Lawful) (stage : v.work = .reassign)
    (owned : ¬ v.owned) : v.Reassigns := by
  have taken := ok.taken (by simp [stage])
  obtain ⟨-, load, copy, transfer, -, fmt, cart, origin, -⟩ := ok
  refine ⟨stage, ?_⟩
  constructor <;> simp_all [View.Calm]

theorem View.Lawful.reassigns {v : View} (ok : v.Lawful) (stage : v.work = .reassign)
    (phase : v.reassign ≠ some .save) : v.Reassigns :=
  ok.reassigns_of_not_owned stage (by simp [View.owned, stage, phase])

theorem View.ReassignStep.goes {v w : View} (h : v.ReassignStep w) (stage : v.work = .reassign)
    (reassigns : v.Lawful → v.Reassigns) : v.Goes w := by
  have awake {u : View} (same : u.rest = v.rest) : v.Awake u := View.awake_of_not_still (by rw [stage]; rfl) same
  obtain ⟨g, p, rfl⟩ | ⟨b, rfl⟩ := h
  · refine .of_lawful (awake rfl) (by simp [stage, Work.rests]) fun ok => ?_
    obtain ⟨-, free, ⟨load, copy, cart⟩, transfer, -, fmt, origin, loaded, saved, copies⟩ := reassigns ok
    simp_all [View.Lawful]
  · refine .of_lawful (awake rfl) (by simp [stage, Work.rests]) fun ok => ?_
    obtain ⟨-, free, ⟨load, copy, cart⟩, transfer, -, fmt, origin, loaded, saved, copies⟩ := reassigns ok
    simp_all [View.Lawful, View.owned]

theorem writeStageEnds_step {s : State} (r : Reassign) (o : OutcomeCode) (idle : (view s).Unsaved) :
    (view s).ReassignStep (view (writeStageEnds r o s)) := by
  unfold writeStageEnds
  dsimp only
  have quiet : view (stopGateWait (dropRequester { s with
      mail := { s.mail with sector := none, told := none, note := none } })) = { view s with gate := false } := rfl
  generalize stopGateWait (dropRequester { s with
      mail := { s.mail with sector := none, told := none, note := none } }) = x at quiet
  have set : view (setReassign { r with outcome := o, phase := .save } x)
      = { view s with gate := false, reassign := some .save } := by rw [view_setReassign, quiet]
  obtain ⟨b, eq⟩ := view_beginWriteBack (s := setReassign { r with outcome := o, phase := .save } x)
    (by rw [set]; exact idle.1) (by rw [set]; exact idle.2)
  exact .inr ⟨b, by rw [eq, set]⟩

theorem setReassign_step {s : State} (r : Reassign) : (view s).ReassignStep (view (setReassign r s)) :=
  .inl ⟨(view s).gate, some r.phase, rfl⟩

theorem seeksReassign_step {s : State} (r : Reassign) (target : Target) (q : Option Requester) :
    (view s).ReassignStep (view (requestTarget target q (setReassign r s))) := by
  rw [view_requestTarget]
  exact setReassign_step r

theorem allocateSpare_step {s : State} (r : Reassign) (idle : (view s).Unsaved) :
    (view s).ReassignStep (view (allocateSpare r s)) := by
  unfold allocateSpare
  split
  · exact writeStageEnds_step r _ idle
  · rename_i k zones moved
    have stopped : view (stopGateWait (changeZones zones s)) = { view s with gate := false } := by simp
    dsimp only
    split
    · rw [view_startGateWait, view_setReassign, stopped]
      exact .inl ⟨true, _, rfl⟩
    · rw [view_requestTarget, view_setReassign, stopped]
      exact .inl ⟨false, _, rfl⟩

@[simp] theorem view_bufferBlock (d : List Byte) (s : State) : view (bufferBlock d s) = view s := rfl

theorem reassignAttemptFails_step {s : State} (r : Reassign) (idle : (view s).Unsaved) :
    (view s).ReassignStep (view (reassignAttemptFails r s)) := by
  unfold reassignAttemptFails
  split
  · exact allocateSpare_step (s := bufferBlock _ s) _ idle
  · split
    · exact setReassign_step _
    · exact seeksReassign_step _ _ _

theorem beginReadStage_step {s : State} (r : Reassign) : (view s).ReassignStep (view (beginReadStage r s)) := by
  unfold beginReadStage
  dsimp only
  split
  · exact setReassign_step _
  · exact seeksReassign_step _ _ _

theorem reassignSectorEnds_step {s : State} (r : Reassign) (x : SectorResult) (idle : (view s).Unsaved) :
    (view s).ReassignStep (view (reassignSectorEnds r x s)) := by
  unfold reassignSectorEnds
  split
  · exact allocateSpare_step (s := bufferBlock _ s) r idle
  · exact reassignAttemptFails_step r idle
  · split
    · exact writeStageEnds_step r _ idle
    · exact .inl ⟨false, _, rfl⟩
  · split
    · exact writeStageEnds_step r _ idle
    · exact .refl _
  · split
    · exact writeStageEnds_step r _ idle
    · exact allocateSpare_step r idle
  · exact allocateSpare_step r idle
  · exact .refl _

theorem endReassignEarly_goes {s : State} (o : OutcomeCode) (calm : (view s).Lawful → (view s).Calm) :
    (view s).Goes (view (endReassignEarly o s)) := by
  have ends := finish_goes (o := o) (s := restoreOffset s) (by rw [view_restoreOffset]; exact calm)
  rwa [view_restoreOffset] at ends

theorem advanceReassign_keeps {s : State} (stage : s.cu.slot.work = .reassign) : Keeps s (advanceReassign s) := by
  unfold advanceReassign
  split
  · exact trivial
  · rename_i r runs
    split
    · rename_i phase
      split
      · exact trivial
      · rename_i res saved
        have set : view (setReassign { r with result := res } s) = view s := by
          rw [view_setReassign]
          simp [view, runs]
        have ends := finish_goes (o := reassignOutcome r.outcome res s) (s := setReassign { r with result := res } s)
          (by rw [set]; exact fun ok => ok.calm_of_saved (by simp [view, saved]))
        rwa [set] at ends
    · rename_i phase
      have reassigns (ok : (view s).Lawful) : (view s).Reassigns := ok.reassigns stage (by simp [view, runs, phase])
      have calm (ok : (view s).Lawful) : (view s).Calm := (reassigns ok).2.calm
      have steps {u : State} (h : (view s).Unsaved → (view s).ReassignStep (view u)) : (view s).Goes (view u) :=
        fun ok => (h (reassigns ok).unsaved).goes stage reassigns ok
      split
      · unfold reassignFault
        rw [keeps_some]
        split
        · exact finish_goes calm
        · split
          · exact steps (writeStageEnds_step r _)
          · exact endReassignEarly_goes _ calm
      · split
        · exact endReassignEarly_goes _ calm
        · split
          · exact steps (reassignSectorEnds_step (s := dropSector s) r _)
          · split
            · split
              · exact steps fun _ => beginReadStage_step r
              · exact trivial
            · split
              · exact trivial
              · exact steps fun _ => setReassign_step (s := dropTold s) _
              · exact endReassignEarly_goes _ calm
              · exact endReassignEarly_goes _ calm
            · split
              · exact trivial
              · exact steps fun _ => .inl ⟨true, _, by rw [view_startGateWait]; rfl⟩
              · exact steps (writeStageEnds_step r _)
            · exact trivial

theorem View.Lawful.work_of_reassign {v : View} (ok : v.Lawful) (h : v.reassign ≠ none) : v.work = .reassign := by
  obtain ⟨-, -, -, -, reassign, -⟩ := ok
  exact reassign h

theorem ReassignStep.goes_of_reassign {s u : State} {r : Reassign} (runs : s.chan.reassign = some r)
    (phase : r.phase ≠ .save) (h : (view s).Unsaved → (view s).ReassignStep (view u)) : (view s).Goes (view u) := by
  intro ok
  have stage := ok.work_of_reassign (by simp [view, runs])
  have reassigns (ok : (view s).Lawful) : (view s).Reassigns := ok.reassigns stage (by simp [view, runs, phase])
  exact (h (reassigns ok).unsaved).goes stage reassigns ok

theorem reassignStart_goes {s : State} {r : Reassign} (n : Nat) (runs : s.chan.reassign = some r) :
    (view s).Goes (view (reassignStart r n s)) := by
  unfold reassignStart
  split
  · exact .refl _
  · split
    · rename_i phase
      have steps {u : State} (h : (view s).Unsaved → (view s).ReassignStep (view u)) : (view s).Goes (view u) :=
        ReassignStep.goes_of_reassign runs (by simp [phase]) h
      split
      · exact .refl _
      · split
        · exact .refl _
        · split
          · exact steps fun _ => setReassign_step _
          · exact steps (reassignAttemptFails_step r)
    · split
      · split <;> exact .refl _
      · exact .refl _
    · split <;> exact .refl _
    · exact .refl _

/-- The wait at the gate runs out (R104, R121, R135). -/
theorem view_expireWait (s : State) : view (expireWait s) = view s := by
  unfold expireWait
  split
  · rfl
  · rename_i f formats
    split
    · rfl
    · rw [view_setFormat]
      simp [view, formats]

theorem gateWaitEnds_goes (s : State) : (view s).Goes (view (gateWaitEnds s)) := by
  unfold gateWaitEnds
  split
  · rename_i x t waits runs
    have gate : (view s).gate = true := by simp [view, waits]
    intro ok
    have stage := ok.work_of_transfer (by simp [view, runs])
    have data (ok : (view s).Lawful) : (view s).Data :=
      ok.data_of_not_owned stage (by simp [View.owned, stage, gate])
    have step := endTransfer_step (s := stopGateWait s) t .dataTimeout true (data ok).unsaved
    exact (View.DataStep.after (p := (view s).transfer) step).goes stage data ok
  · rename_i x r waits none_ runs
    have gate : (view s).gate = true := by simp [view, waits]
    intro ok
    have stage := ok.work_of_reassign (by simp [view, runs])
    have reassigns (ok : (view s).Lawful) : (view s).Reassigns :=
      ok.reassigns_of_not_owned stage (by simp [View.owned, stage, gate])
    split
    · exact View.ReassignStep.goes (.inl ⟨false, _, rfl⟩) stage reassigns ok
    · exact (writeStageEnds_step r _ (reassigns ok).unsaved).goes stage reassigns ok
  · exact .refl _
  · split
    · split
      · exact .of_eq (view_expireWait s)
      · exact .refl _
    · exact .refl _

end Sys2Proof.Machine

/-! ## Proofs: the contexts under FORMAT -/

namespace Sys2Proof.Machine

/-- The context of a FORMAT changes, or its copies begin, in MARKING on a cartridge that is BLANK now. -/
def View.FormatStep (v w : View) : Prop :=
  (∃ p, w = { v with fmt := p })
  ∨ ∃ c, c ≠ .released ∧ w = { v with fmt := some .copies, copy := true, cart := c }

/-- A FORMAT is in the slot, and it writes no copies. -/
def View.Formats (v : View) : Prop := v.work = .format ∧ View.Bare { v with fmt := none }

theorem View.Lawful.formats {v : View} (ok : v.Lawful) (stage : v.work = .format) (step : v.fmt ≠ some .copies) :
    v.Formats := by
  have taken := ok.taken (by simp [stage])
  obtain ⟨-, load, copy, transfer, reassign, -, cart, origin, -⟩ := ok
  have owned : ¬ v.owned := by simp [View.owned, stage, step]
  refine ⟨stage, ?_⟩
  constructor <;> simp_all [View.Calm]

theorem View.FormatStep.goes {v w : View} (h : v.FormatStep w) (stage : v.work = .format)
    (formats : v.Lawful → v.Formats) : v.Goes w := by
  have awake {u : View} (same : u.rest = v.rest) : v.Awake u := View.awake_of_not_still (by rw [stage]; rfl) same
  obtain ⟨p, rfl⟩ | ⟨c, ne, rfl⟩ := h
  · refine .of_lawful (awake rfl) (by simp [stage, Work.rests]) fun ok => ?_
    obtain ⟨-, free, ⟨load, copy, cart⟩, transfer, reassign, -, origin, loaded, saved, copies⟩ := formats ok
    simp_all [View.Lawful]
  · refine .of_lawful (awake rfl) (by simp [stage, Work.rests]) fun ok => ?_
    obtain ⟨-, free, ⟨load, copy, cart⟩, transfer, reassign, -, origin, loaded, saved, copies⟩ := formats ok
    simp_all [View.Lawful, View.owned]

theorem setFormat_step {s : State} (f : Format) : (view s).FormatStep (view (setFormat f s)) := .inl ⟨_, rfl⟩

@[simp] theorem view_formatTarget (f : Format) (s : State) :
    view (formatTarget f s) = { view s with fmt := some .target } := by
  unfold formatTarget
  simp

theorem formatTarget_step {s : State} (f : Format) : (view s).FormatStep (view (formatTarget f s)) :=
  .inl ⟨_, view_formatTarget f s⟩

theorem enterMarking_step {s : State} (f : Format) : (view s).FormatStep (view (enterMarking f s)) := by
  have blank : view (resetReport (setCart .blank (discardSession s))) = { view s with cart := .blank } := by simp
  refine .inr ⟨.blank, nofun, ?_⟩
  unfold enterMarking
  rw [view_beginCopies, view_setFormat]
  exact congrArg (fun v : View => { v with fmt := some .copies, copy := true }) blank

theorem beginFinal_step {s : State} (f : Format) (cart : (view s).cart ≠ .released) :
    (view s).FormatStep (view (beginFinal f s)) := .inr ⟨_, cart, rfl⟩

theorem writingDone_step {s : State} (f : Format) : (view s).FormatStep (view (writingDone f s)) := by
  unfold writingDone
  split
  · exact formatTarget_step _
  · exact formatTarget_step _

theorem trackWritten_step {s : State} (n : Nat) (f : Format) :
    (view s).FormatStep (view (trackWritten n f s)) := by
  unfold trackWritten
  split
  · unfold nextTrack
    split
    · exact setFormat_step _
    · split
      · exact formatTarget_step _
      · exact writingDone_step _
  · exact setFormat_step _

theorem spareRead_step {s : State} (good : Bool) (f : Format) :
    (view s).FormatStep (view (spareRead good f s)) := by
  have next (g : Format) : (view s).FormatStep (view
      (if g.abortPending ∨ g.index < g.type.spareWidth then setFormat g s else beginUsers g s)) := by
    split
    · exact setFormat_step _
    · exact formatTarget_step _
  exact next _

theorem userChecked_step {s : State} (n : Nat) (f : Format) :
    (view s).FormatStep (view (userChecked n f s)) := by
  unfold userChecked
  dsimp only
  split
  · exact setFormat_step _
  · unfold nextUserTrack
    split
    · unfold zoneDone
      split
      · exact formatTarget_step _
      · exact formatTarget_step _
    · split
      · exact setFormat_step _
      · exact formatTarget_step _

/-- The end of a FORMAT whose context has changed. -/
theorem finish_goes_of_format {s : State} {o : OutcomeCode} {f : Format} (formats : (view s).Lawful → (view s).Formats) :
    (view s).Goes (view (finish o (setFormat f s))) :=
  (view_finish o (setFormat f s)).goes fun ok =>
    have calm := (formats ok).2.calm
    ⟨calm.1, calm.2.1, calm.2.2, fun _ => rfl, fun resting ne => (resting.1 ne).1⟩

theorem userRead_goes {s : State} (n : Nat) (good : Bool) (f : Format) (stage : s.cu.slot.work = .format)
    (formats : (view s).Lawful → (view s).Formats) : (view s).Goes (view (userRead n good f s)) := by
  unfold userRead
  split
  · exact (userChecked_step n f).goes stage formats
  · split
    · exact finish_goes_of_format formats
    · exact finish_goes fun ok => (formats ok).2.calm
    · exact (userChecked_step n _).goes stage formats

theorem formatSectorEnds_goes {s : State} (f : Format) (r : SectorResult) (stage : s.cu.slot.work = .format)
    (formats : (view s).Lawful → (view s).Formats) : (view s).Goes (view (formatSectorEnds f r s)) := by
  unfold formatSectorEnds
  split
  · split
    · exact (trackWritten_step _ f).goes stage formats
    · exact .refl _
  · unfold verifyRead
    split
    · split
      · exact userRead_goes _ _ f stage formats
      · exact (spareRead_step _ f).goes stage formats
    · split
      · exact userRead_goes _ _ f stage formats
      · exact (spareRead_step _ f).goes stage formats
    · exact .refl _
  · exact .refl _

/-- The copy writes have answered a FORMAT. -/
theorem View.Lawful.calm_of_copies {v : View} (ok : v.Lawful) (copies : v.copies = true) : v.Calm := by
  obtain ⟨-, load, copy, -, -, -, cart, -, -, idle, -⟩ := ok
  have owned := copy (.inr (.inr copies))
  refine ⟨?_, idle (.inr copies), fun released => ?_⟩
  · rw [Bool.eq_false_iff]
    intro works
    obtain e | e := load (.inl works) <;> simp [View.owned, e] at owned
  · obtain ⟨eject, stage⟩ := cart released
    simp [View.owned, eject, stage] at owned

theorem enterWriting_goes {s : State} (f : Format) (stage : s.cu.slot.work = .format)
    (copies : s.mail.copies.isSome = true) :
    (view s).Goes (view (enterWriting f { s with mail := { s.mail with copies := none } })) := by
  have eq : view (enterWriting f { s with mail := { s.mail with copies := none } })
      = { view s with copies := false, fmt := some .target } := view_formatTarget _ _
  have work : (view s).work = .format := stage
  have copies' : (view s).copies = true := copies
  rw [eq]
  refine .of_lawful (View.awake_of_not_still (by rw [work]; rfl)) (by simp [work, Work.rests]) fun ok => ?_
  obtain ⟨load, copy, cart⟩ := ok.calm_of_copies copies
  have taken := ok.taken (by simp [work])
  obtain ⟨-, loads, -, transfer, reassign, -, -, origin, loaded, -, one⟩ := ok
  have saved : (view s).saved = false := by
    by_contra h
    simp [one (by simpa using h)] at copies'
  simp_all [View.Lawful]

theorem applyFinal_finish_goes {s : State} {o : OutcomeCode} (f : Format) (w0 w1 : Bool)
    (stage : s.cu.slot.work = .format) (calm : (view s).Lawful → (view s).Calm) :
    (view s).Goes (view (finish o (applyFinal f w0 w1 s))) := by
  unfold applyFinal
  split
  · exact finish_goes_of_cart (c := .ready) rfl nofun (fun ok => ⟨(calm ok).1, (calm ok).2.1⟩)
      (by rw [view, stage]; rfl)
  · exact finish_goes calm

theorem formatCopied_goes {s : State} (f : Format) (w0 w1 : Bool) (stage : s.cu.slot.work = .format)
    (copies : s.mail.copies.isSome = true) : (view s).Goes (view (formatCopied f w0 w1 s)) := by
  have calm (ok : (view s).Lawful) : (view s).Calm := ok.calm_of_copies copies
  unfold formatCopied
  split
  · split
    · exact finish_goes calm
    · split
      · exact finish_goes calm
      · split
        · exact finish_goes calm
        · exact enterWriting_goes f stage copies
  · split
    · exact applyFinal_finish_goes f w0 w1 stage calm
    · exact applyFinal_finish_goes f w0 w1 stage calm

theorem formatStage_keeps {s : State} (f : Format) (stage : s.cu.slot.work = .format)
    (formats : (view s).Lawful → (view s).Formats) : Keeps s (formatStage f s) := by
  have steps {u : State} (h : (view s).FormatStep (view u)) : (view s).Goes (view u) := h.goes stage formats
  unfold formatStage
  split
  · split
    · exact steps (formatTarget_step f)
    · exact trivial
  · split
    · exact trivial
    · split
      · exact steps (enterMarking_step (s := dropTold s) f)
      · exact trivial
      · exact steps (setFormat_step (s := dropTold s) _)
      · exact steps (setFormat_step (s := dropTold s) _)
      · exact fun ok => View.FormatStep.goes (beginFinal_step (s := dropTold s) f (formats ok).2.calm.2.2)
          stage formats ok
    · exact finish_goes fun ok => (formats ok).2.calm
  · exact trivial

theorem advanceFormat_keeps {s : State} (stage : s.cu.slot.work = .format) : Keeps s (advanceFormat s) := by
  unfold advanceFormat
  split
  · exact trivial
  · rename_i f works
    split
    · split
      · exact trivial
      · rename_i w0 w1 copies
        exact formatCopied_goes f w0 w1 stage (by rw [copies]; rfl)
    · rename_i step
      have formats (ok : (view s).Lawful) : (view s).Formats := ok.formats stage (by simp [view, works, step])
      have ends (o : OutcomeCode) : (view s).Goes (view (finish o s)) :=
        finish_goes fun ok => (formats ok).2.calm
      split
      · split
        · exact .refl _
        · exact ends _
      · split
        · exact formatSectorEnds_goes (s := dropSector s) f _ stage formats
        · split
          · exact ends _
          · split
            · exact ends _
            · exact formatStage_keeps f stage formats

/-- The context changes within its stage. -/
theorem view_setFormat_same {s : State} {f g : Format} (works : s.fmt = some f) (step : g.step = f.step) :
    view (setFormat g s) = view s := by
  rw [view_setFormat, step]
  simp [view, works]

theorem view_startWait {s : State} {f : Format} (n : Nat) (works : s.fmt = some f) :
    view (startWait n f s) = view s := by
  unfold startWait
  split
  · rfl
  · exact view_setFormat_same works rfl

theorem view_formatStart {s : State} {f : Format} (n : Nat) (works : s.fmt = some f) :
    view (formatStart f n s) = view s := by
  unfold formatStart
  split
  · split
    · rfl
    · split
      · rw [view_beginWrite]
        exact view_setFormat_same works rfl
      · exact view_startWait n works
  · dsimp only
    split
    · rfl
    · split
      · exact view_beginRead _ s
      · exact view_startWait n works
  · split
    · rfl
    · split
      · rw [view_beginRead]
        exact view_setFormat_same works rfl
      · exact view_startWait n works
  · rfl

/-! ### Every transition -/

/-- Sector n starts: the laws of the view are kept. -/
theorem sectorStart_goes (n : Nat) (s : State) : (view s).Goes (view (sectorStart n s)) := by
  unfold sectorStart
  split
  · exact .refl _
  · split
    · exact .of_eq (view_copyStart n ‹_›)
    · split
      · exact loadStart_goes n ‹_›
      · split
        · exact dataStart_goes n ‹_›
        · split
          · exact reassignStart_goes n ‹_›
          · split
            · exact .of_eq (view_formatStart n ‹_›)
            · exact .refl _

/-- An item that is no REST entry goes on. -/
theorem advanceItem_keeps {s : State} (awake : s.cu.slot.work.rests = false) : Keeps s (advanceItem s) := by
  unfold advanceItem
  split
  case h_1 => exact trivial
  case h_2 => exact advanceStart_keeps s
  case h_3 => exact advanceStart_keeps s
  case h_4 => exact advanceStart_keeps s
  case h_5 => exact advanceReload_keeps s
  case h_6 => exact advanceReload_keeps s
  case h_7 => exact advanceReload_keeps s
  case h_8 => exact advanceReload_keeps s
  case h_9 => exact advanceReload_keeps s
  case h_10 => exact advanceSeek_keeps s
  case h_11 => exact advanceSeek_keeps s
  case h_12 stage => exact advanceData_keeps stage
  case h_13 stage => exact advanceReassign_keeps stage
  case h_14 stage => exact advanceFormat_keeps stage
  case h_15 stage => simp [stage, Work.rests] at awake
  case h_16 stage => simp [stage, Work.rests] at awake
  case h_17 stage => simp [stage, Work.rests] at awake
  case h_18 => exact advanceSpinDown_keeps s
  case h_19 => exact advanceSpinDown_keeps s
  case h_20 => exact advanceSpinDown_keeps s
  case h_21 => exact advanceSpinDown_keeps s
  case h_22 stage => exact advanceEject_keeps stage
  case h_23 => exact advanceWake_keeps s
  case h_24 => exact advanceWake_keeps s
  case h_25 => exact advanceReset_keeps s
  case h_26 => exact trivial
  case h_27 => exact trivial

/-- At a stage of REST entry the item is that entry. -/
theorem advanceItem_of_rests {s : State} (rests : s.cu.slot.work.rests = true) : advanceItem s = advanceRest s := by
  unfold advanceItem
  cases stage : s.cu.slot.work <;> simp_all [Work.rests]

/-- An item goes on, a REST entry included. -/
theorem advanceItem_lasting (s : State) : Lasting s (advanceItem s) := by
  cases rests : s.cu.slot.work.rests with
  | false => exact (advanceItem_keeps rests).lasting
  | true =>
    rw [advanceItem_of_rests rests]
    exact advanceRest_lasting s

/-- The copy writes and the load go on before the item does. -/
theorem advance_cases {s t : State} (h : advance s = some t) :
    ((view s).Goes (view t) ∧ ((view s).copy = true ∨ (view s).load = true)) ∨ advanceCopies s = none ∧ advanceLoad s = none ∧ advanceItem s = some t := by
  unfold advance at h
  split at h
  · rename_i u copies
    obtain rfl := Option.some.inj h
    have kept := advanceCopies_keeps s
    rw [copies] at kept
    refine .inl ⟨kept, .inl ?_⟩
    by_contra idle
    have none : s.record.copyWrite = none := by simpa [view] using idle
    simp [advanceCopies, none] at copies
  · rename_i copies
    split at h
    · rename_i u load
      obtain rfl := Option.some.inj h
      have kept := advanceLoad_keeps s
      rw [load] at kept
      refine .inl ⟨kept, .inr ?_⟩
      by_contra idle
      have none : s.record.load = none := by simpa [view] using idle
      simp [advanceLoad, none] at load
    · rename_i load
      exact .inr ⟨copies, load, h⟩

theorem advance_lasts {s t : State} (h : advance s = some t) : (view s).Lasts (view t) := by
  obtain ⟨goes, -⟩ | ⟨-, -, item⟩ := advance_cases h
  · exact goes.lasts
  · have lasting := advanceItem_lasting s
    rwa [item] at lasting

theorem advance_goes {s t : State} (awake : s.cu.slot.work.rests = false) (h : advance s = some t) :
    (view s).Goes (view t) := by
  obtain ⟨goes, -⟩ | ⟨-, -, item⟩ := advance_cases h
  · exact goes
  · have kept := advanceItem_keeps awake
    rwa [item] at kept

end Sys2Proof.Machine

/-! ## Proofs: the mechanism at rest

While a rest stands, and in the last two stages of REST entry, the heads are home and no request is held. What an
operation of the mechanism keeps then is `Rests`. -/

namespace Sys2Proof.Machine

/-- The heads are PARKED or on their way there, and no target request is held. -/
def AtHome (s : State) : Prop := s.pos.state.home = true ∧ s.pos.held = none

/-- The platter brakes or stands. -/
def Spindle.slow (p : Spindle) : Prop := p.state = .braking ∨ p.state = .stopped

/-- The platter brakes or stands, and no start is pending. -/
def Slow (s : State) : Prop := s.spin.slow ∧ s.spin.pendingStart = false

/-- The heads are PARKED, no start is pending, and the platter comes to rest. -/
def Slack (s : State) : Prop :=
  s.pos.state = .parked ∧ s.spin.pendingStart = false
  ∧ (s.spin.state = .braking ∨ s.spin.state = .stopped ∨ s.spin.state = .coasting)

/-- The End of a brake failure reaches an item only while the platter brakes or stands. -/
def BrakeNote (s : State) : Prop := s.mail.note = some .stallBrake → s.spin.slow

/-- What an operation keeps of a mechanism at rest. -/
structure Rests (s t : State) : Prop where
  home : AtHome s → AtHome t
  slow : AtHome s → Slow s → Slow t
  slack : AtHome s → Slack s → Slack t
  note : AtHome s → Slack s → BrakeNote s → BrakeNote t

theorem Rests.refl (s : State) : Rests s s := ⟨id, fun _ => id, fun _ => id, fun _ _ => id⟩

theorem Rests.trans {s t u : State} (h : Rests s t) (k : Rests t u) : Rests s u where
  home a := k.home (h.home a)
  slow a b := k.slow (h.home a) (h.slow a b)
  slack a b := k.slack (h.home a) (h.slack a b)
  note a b c := k.note (h.home a) (h.slack a b) (h.note a b c)

/-- An operation that acts on heads at home alone, or on others alone. -/
theorem Rests.of_home {s t : State} (h : AtHome s → Rests s t) : Rests s t :=
  ⟨fun a => (h a).home a, fun a => (h a).slow a, fun a => (h a).slack a, fun a => (h a).note a⟩

theorem Rests.of_flying {s t : State} (h : s.pos.state.home = false) : Rests s t :=
  .of_home fun ⟨home, _⟩ => by simp [h] at home

/-- The heads and the spindle stay as they are, and no brake failure is noted. -/
theorem Rests.of_same {s t : State} (state : t.pos.state = s.pos.state)
    (held : s.pos.held = none → t.pos.held = none) (spin : t.spin = s.spin)
    (note : t.mail.note = some .stallBrake → s.mail.note = some .stallBrake) : Rests s t where
  home h := ⟨by rw [state]; exact h.1, held h.2⟩
  slow _ h := by rwa [Slow, spin]
  slack _ h := by rwa [Slack, state, spin]
  note _ _ h e := by rw [spin]; exact h (note e)

theorem Rests.of_pos {s t : State} (pos : t.pos = s.pos) (spin : t.spin = s.spin)
    (note : t.mail.note = some .stallBrake → s.mail.note = some .stallBrake) : Rests s t :=
  .of_same (by rw [pos]) (by rw [pos]; exact id) spin note

/-! ### Answers and cuts -/

theorem tellRequester_rests (o : TargetOutcome) (s : State) : Rests s (tellRequester o s) := by
  unfold tellRequester
  split
  · exact .of_pos rfl rfl id
  · exact .refl s

theorem tellHeldEnded_rests (s : State) : Rests s (tellHeldEnded s) := by
  unfold tellHeldEnded
  split
  · exact .of_pos rfl rfl id
  · exact .refl s

theorem discardHeld_rests (s : State) : Rests s (discardHeld s) :=
  (tellHeldEnded_rests s).trans (.of_same rfl (fun _ => rfl) rfl id)

/-- The End of a brake failure is noted while the platter brakes. -/
theorem noteEnd_rests {cls : FaultClass} {s : State} (brakes : cls = .stallBrake → s.spin.state = .braking) :
    Rests s (noteEnd cls s) := by
  unfold noteEnd
  split
  · refine ⟨id, fun _ => id, fun _ => id, fun _ _ _ noted => .inl (brakes ?_)⟩
    exact Option.some.inj noted
  · exact .refl s

theorem offer_rests (r : FaultRecord) (s : State) : Rests s (offer r s) := .of_pos rfl rfl id

theorem releaseHolder_rests (s : State) : Rests s (releaseHolder s) := by
  unfold releaseHolder
  split
  · exact .refl s
  · rename_i r held
    have offered : Rests s (offer r { s with fault := { s.fault with holder := none } }) := .of_pos rfl rfl id
    exact offered.trans (noteEnd_rests nofun)

theorem markTorn_rests (p : Place) (s : State) : Rests s (markTorn p s) := by
  unfold markTorn
  split
  · exact .refl s
  · exact .of_pos rfl rfl id

theorem clearTorn_rests (p : Place) (s : State) : Rests s (clearTorn p s) := by
  unfold clearTorn
  split
  · exact .refl s
  · exact .of_pos rfl rfl id

theorem closeOp_rests (s : State) : Rests s (closeOp s) := .of_pos rfl rfl id

theorem sectorResult_rests (r : SectorResult) (s : State) : Rests s (sectorResult r s) := .of_pos rfl rfl id

theorem cutWrite_rests (s : State) : Rests s (cutWrite s) := by
  unfold cutWrite
  split
  · exact (((closeOp_rests s).trans (markTorn_rests _ _)).trans (sectorResult_rests _ _)).trans
      (releaseHolder_rests _)
  · exact .refl s

theorem depart_rests (s : State) : Rests s (depart s) := by
  unfold depart
  split
  · exact (closeOp_rests s).trans (sectorResult_rests _ _)
  · exact cutWrite_rests s
  · exact .refl s

theorem endSector_rests (sig : ReadSignal) (s : State) : Rests s (endSector sig s) := by
  unfold endSector
  split
  · split
    · exact (closeOp_rests s).trans (sectorResult_rests _ _)
    · exact (closeOp_rests s).trans (sectorResult_rests _ _)
  · exact (((closeOp_rests s).trans (clearTorn_rests _ _)).trans (sectorResult_rests _ _)).trans
      (releaseHolder_rests _)
  · exact .refl s

theorem sectorEnds_rests (p : Nat) (sig : ReadSignal) (s : State) : Rests s (sectorEnds p sig s) := by
  unfold sectorEnds
  split
  · split
    · exact endSector_rests sig s
    · exact .refl s
  · exact .refl s

/-! ### The heads and the spindle -/

/-- The spindle changes by itself. -/
theorem Rests.of_spin {s : State} {p : Spindle} (slow : s.spin.slow → s.spin.pendingStart = false → p.slow)
    (slack : s.spin.state = .coasting → p.slow ∨ p.state = .coasting)
    (start : s.spin.pendingStart = false → p.pendingStart = false) : Rests s { s with spin := p } where
  home := id
  slow _ h := ⟨slow h.1 h.2, start h.2⟩
  slack _ := fun ⟨parked, calm, rest⟩ => by
    refine ⟨parked, start calm, ?_⟩
    obtain brakes | stands | coasts := rest
    · exact (slow (.inl brakes) calm).imp_right .inl
    · exact (slow (.inr stands) calm).imp_right .inl
    · obtain slows | coasts := slack coasts
      · exact slows.imp_right .inl
      · exact .inr (.inr coasts)
  note _ h ok noted := slow (ok noted) h.2.1

theorem Spindle.seesParked_slow {p : Spindle} (h : p.slow) (start : p.pendingStart = false) : p.seesParked = p := by
  unfold Spindle.seesParked
  obtain e | e := h <;> simp [e, start]

/-- An entry to PARKED has a COASTING platter brake, and leaves one at rest (R68). -/
theorem enterParked_rests (s : State) : Rests s (enterParked s) := by
  have spins : Rests s { s with spin := s.spin.seesParked } := by
    refine .of_spin (fun h start => ?_) (fun coasts => ?_) fun start => ?_
    · rwa [Spindle.seesParked_slow h start]
    · exact .inl (.inl (by simp [Spindle.seesParked, coasts, Spindle.enterBraking]))
    · unfold Spindle.seesParked
      split
      · exact start
      · split
        · rfl
        · exact start
      · exact start
  have parks (u : State) : Rests u { u with pos := u.pos.park, clk := Clock.reference } :=
    ⟨fun h => ⟨rfl, h.2⟩, fun _ => id, fun _ h => ⟨rfl, h.2⟩, fun _ _ => id⟩
  rw [enterParked_eq]
  exact spins.trans (parks _)

theorem heldActs_rests (s : State) : Rests s (heldActs s) := by
  refine .of_home fun ⟨_, free⟩ => ?_
  rw [heldActs_of_none free]
  exact .refl s

theorem Spindle.seesEmergency_slow {p : Spindle} (h : p.state ≠ .atSpeed) : p.seesEmergency = p := by
  simp [Spindle.seesEmergency, h]

/-- An entry to EMERGENCY lets a platter coast that is AT_SPEED, and no other (R40, R66). -/
theorem enterEmergency_rests {s : State} (away : s.pos.state ≠ .parked) : Rests s (enterEmergency s) := by
  have told := ((depart_rests s).trans (tellRequester_rests .ended _)).trans (tellHeldEnded_rests _)
  have pos : (tellHeldEnded (tellRequester .ended (depart s))).pos = s.pos := by simp
  have spin : (tellHeldEnded (tellRequester .ended (depart s))).spin = s.spin := by simp
  have began : Rests s (beganEmergency s) := by
    refine told.trans ?_
    unfold beganEmergency
    rw [← spin]
    generalize tellHeldEnded (tellRequester .ended (depart s)) = u at pos
    refine ⟨fun _ => ⟨rfl, rfl⟩, fun _ h => ?_, fun _ h => absurd (pos ▸ h.1) away, fun _ h => absurd (pos ▸ h.1) away⟩
    have kept := Spindle.seesEmergency_slow (p := u.spin) (by obtain e | e := h.1 <;> simp [e])
    rw [Slow, kept]
    exact h
  rw [enterEmergency_eq]
  split
  · exact began.trans (enterParked_rests _)
  · exact began

theorem requestEmergency_rests (s : State) : Rests s (requestEmergency s) := by
  unfold requestEmergency
  split
  · exact .refl s
  · exact .refl s
  · rename_i parked _
    exact enterEmergency_rests parked

/-- At home a retract request discards what is held, and nothing else (R64). -/
theorem requestRetract_rests (s : State) : Rests s (requestRetract s) := by
  unfold requestRetract
  split
  · exact discardHeld_rests s
  · exact discardHeld_rests s
  · exact discardHeld_rests s
  · rename_i parked back hurry
    refine .of_flying ?_
    cases here : s.pos.state <;> simp_all [PosState.home]

/-- A stop request withdraws a pending start, and brings a turning platter to rest (R37). -/
theorem stopRequest_rests (s : State) : Rests s (stopRequest s) := by
  have withdraws (u : State) : Rests u { u with spin := u.spin.withdrawn } :=
    .of_spin (fun h _ => h) .inr fun _ => rfl
  have spins (u : State) {p : Spindle} (turns : ¬ u.spin.slow ∧ u.spin.state ≠ .coasting)
      (start : p.pendingStart = u.spin.pendingStart) : Rests u { u with spin := p } :=
    .of_spin (fun h _ => absurd h turns.1) (fun h => absurd h turns.2) fun h => start.trans h
  unfold stopRequest
  dsimp only
  split
  · exact withdraws s
  · exact withdraws s
  · exact withdraws s
  · rename_i stands coasts brakes
    have turns : ¬ s.spin.withdrawn.slow ∧ s.spin.withdrawn.state ≠ .coasting :=
      ⟨fun h => h.elim brakes stands, coasts⟩
    split
    · exact (withdraws s).trans (spins { s with spin := s.spin.withdrawn } turns rfl)
    · exact (withdraws s).trans (spins { s with spin := s.spin.withdrawn } turns rfl)
    · exact (withdraws s).trans (spins { s with spin := s.spin.withdrawn } turns rfl)
    · exact ((withdraws s).trans (spins { s with spin := s.spin.withdrawn } (p := s.spin.withdrawn.enterCoasting)
        turns rfl)).trans (requestRetract_rests _)

theorem cancelQueue_rests (s : State) : Rests s (cancelQueue s) := .of_pos rfl rfl id

/-- A fault that is raised leaves a mechanism at rest so; a brake failure is raised while the platter
brakes. -/
theorem raise_rests {cls : FaultClass} {s : State} (brakes : cls = .stallBrake → s.spin.state = .braking) :
    Rests s (raise cls s) := by
  have offered := offer_rests (formRecord cls s) s
  have noted := offered.trans (noteEnd_rests (cls := cls) (s := offer (formRecord cls s) s) brakes)
  have cut := noted.trans (cutWrite_rests _)
  have home := cut.trans (requestRetract_rests _)
  have rests := (home.trans (stopRequest_rests _)).trans (cancelQueue_rests _)
  unfold raise respond
  split
  · exact ((cut.trans (requestEmergency_rests _)).trans (stopRequest_rests _)).trans (cancelQueue_rests _)
  · exact rests
  · exact rests
  · exact rests
  · exact home.trans (cancelQueue_rests _)
  · exact cut
  · exact cut
  · exact noted.trans (requestRetract_rests _)
  · exact noted.trans (requestRetract_rests _)
  · exact noted.trans (requestRetract_rests _)
  · exact offered
  · exact offered

end Sys2Proof.Machine

/-! ## Proofs: the law of rest control under the work of the items -/

namespace Sys2Proof.Machine

/-- A rest stands, or REST entry has asked for the retract. -/
def Dozes (s : State) : Prop :=
  s.rest.state ≠ .none ∨ s.cu.slot.work = .restPark ∨ s.cu.slot.work = .restStop

/-- The law of rest control, as far as the mechanism goes (R160). -/
structure Snug (s : State) : Prop where
  home : Dozes s → AtHome s
  slow : s.rest.state = .standby → Slow s
  slack : s.cu.slot.work = .restStop → Slack s ∧ BrakeNote s

theorem Snug.of_awake {s : State} (h : ¬ Dozes s) : Snug s where
  home dozes := absurd dozes h
  slow e := absurd (.inl (by rw [e]; nofun)) h
  slack e := absurd (.inr (.inr e)) h

theorem View.Wakes.dozes {s t : State} (h : (view s).Wakes (view t)) (dozes : Dozes t) : Dozes s := by
  obtain ⟨rest, park, stop⟩ := h
  obtain ne | e | e := dozes
  · exact .inl fun none => ne ((rest ne).trans none)
  · exact .inr (.inl (park e))
  · exact .inr (.inr (stop e))

theorem Snug.of_wakes {s t : State} (h : Snug s) (wakes : (view s).Wakes (view t))
    (rests : Dozes t → Rests s t) : Snug t where
  home dozes := (rests dozes).home (h.home (wakes.dozes dozes))
  slow e := by
    have ne : t.rest.state ≠ .none := by rw [e]; nofun
    have same : s.rest.state = .standby := (wakes.1 ne).symm.trans e
    exact (rests (.inl ne)).slow (h.home (wakes.dozes (.inl ne))) (h.slow same)
  slack e := by
    have dozes : Dozes t := .inr (.inr e)
    have home := h.home (wakes.dozes dozes)
    obtain ⟨slack, note⟩ := h.slack (wakes.2.2 e)
    exact ⟨(rests dozes).slack home slack, (rests dozes).note home slack note⟩

/-! ### Transitions -/

/-- While a rest stands nothing works. -/
theorem advance_still {s : State} (ok : (view s).Lawful) (still : s.cu.slot.work.still = true) : advance s = none := by
  obtain ⟨-, load, copy, -⟩ := ok
  have owned : ¬ (view s).owned := by
    cases stage : s.cu.slot.work <;> simp_all [View.owned, view, Work.still]
  have noCopy : s.record.copyWrite = none := by
    by_contra h
    exact owned (copy (.inl (Option.isSome_iff_ne_none.mpr h)))
  have noLoad : s.record.load = none := by
    by_contra h
    obtain e | e := load (.inl (Option.isSome_iff_ne_none.mpr h)) <;>
    · change s.cu.slot.work = _ at e
      simp [e, Work.still] at still
  have item : advanceItem s = none := by
    unfold advanceItem
    cases stage : s.cu.slot.work <;> simp_all [Work.still]
  simp [advance, advanceCopies, advanceLoad, noCopy, noLoad, item]

theorem finishWith_held (o : OutcomeCode) (fields : List Byte) (s : State) (h : s.pos.held = none) :
    (finishWith o fields s).pos.held = none := by
  obtain ⟨r, -, -, ⟨-, eq⟩ | eq⟩ | ⟨-, eq⟩ := finishWith_cases o fields s <;>
  · rw [eq]
    simp [clearWork, dropRequester, withdrawLine, freeSlot, putReply, h]

theorem finish_rests (o : OutcomeCode) (s : State) : Rests s (finish o s) := by
  have ends (fields : List Byte) : Rests s (finishWith o fields s) := by
    obtain ⟨spin, -, -, state, -⟩ := finishWith_same o fields s
    refine .of_same state (finishWith_held o fields s) spin fun noted => ?_
    have quiet : (finishWith o fields s).mail.note = none := by
      obtain ⟨r, -, -, ⟨-, eq⟩ | eq⟩ | ⟨-, eq⟩ := finishWith_cases o fields s <;> (rw [eq]; rfl)
    simp [quiet] at noted
  unfold finish
  split <;> exact ends _

theorem slotFaulted_rests (cls : FaultClass) (s : State) : Rests s (slotFaulted cls s) := by
  unfold slotFaulted
  dsimp only
  split <;> exact .of_pos rfl rfl nofun

end Sys2Proof.Machine

/-! ## Proofs: every transition keeps the law of rest control -/

namespace Sys2Proof.Machine

/-- A rest entered with the heads home, and in STANDBY with the platter at rest, meets the law. -/
theorem enterRest_snug {s : State} (home : AtHome s) (slow : restStandby s = true → Slow s) : Snug (enterRest s) := by
  have ended := view_finish (restOutcome s) { s with rest := {
      state := if restStandby s then .standby else .idle
      wakeActive := restWakeActive s
      timer := if restMinutes s = 0 then none else some (restMinutes s * Config.minute) } }
  have rests := finish_rests (restOutcome s) { s with rest := {
      state := if restStandby s then .standby else .idle
      wakeActive := restWakeActive s
      timer := if restMinutes s = 0 then none else some (restMinutes s * Config.minute) } }
  change (View.Ended _ (view (enterRest s))) at ended
  change Rests _ (enterRest s) at rests
  have rest : (view (enterRest s)).rest = if restStandby s then .standby else .idle := by
    obtain eq | ⟨-, r, eq⟩ := ended <;> (rw [eq]; rfl)
  have work : (view (enterRest s)).work ≠ .restStop := by
    obtain eq | ⟨-, r, eq⟩ := ended <;> (rw [eq]; nofun)
  refine ⟨fun _ => rests.home home, fun e => rests.slow home (slow ?_), fun e => absurd e work⟩
  by_contra idle
  change (view (enterRest s)).rest = .standby at e
  rw [rest, if_neg idle] at e
  cases e

/-- A fault that reaches REST entry is taken; the stage goes on. -/
theorem slotFaulted_snug {s : State} (cls : FaultClass) (h : Snug s) : Snug (slotFaulted cls s) := by
  refine h.of_wakes ?_ fun _ => slotFaulted_rests cls s
  rw [view_slotFaulted]
  exact ⟨fun _ => rfl, id, id⟩

theorem slotFaulted_drive (cls : FaultClass) (s : State) :
    (slotFaulted cls s).pos = s.pos ∧ (slotFaulted cls s).spin = s.spin := by
  unfold slotFaulted
  dsimp only
  split <;> exact ⟨rfl, rfl⟩

/-- The retract request brings the heads home. -/
theorem requestRetract_atHome (s : State) : AtHome (requestRetract s) := by
  refine ⟨?_, requestRetract_held s⟩
  unfold requestRetract
  split
  · rename_i here
    rw [discardHeld_state, here]
    rfl
  · rename_i here
    rw [discardHeld_state, here]
    rfl
  · rename_i here
    rw [discardHeld_state, here]
    rfl
  · rw [enterRetracting_eq]
    split
    · rw [enterParked_eq]
      rfl
    · rfl

theorem restParks_snug {s : State} (awake : s.rest.state = .none) : Snug (restParks s) where
  home _ := requestRetract_atHome s
  slow e := by
    have rest : (requestRetract s).rest = s.rest := by
      obtain ⟨-, -, -, -, rest, -⟩ := requestRetract_apart s
      exact rest
    change (requestRetract s).rest.state = .standby at e
    rw [rest, awake] at e
    cases e
  slack e := by cases e

/-- A stop request to parked heads has the platter brake, if it turns. -/
theorem stopRequest_slack {s : State} (parked : s.pos.state = .parked) : Slack (stopRequest s) := by
  unfold stopRequest
  simp only [parked]
  split
  · exact ⟨parked, rfl, .inr (.inl ‹_›)⟩
  · exact ⟨parked, rfl, .inr (.inr ‹_›)⟩
  · exact ⟨parked, rfl, .inl ‹_›⟩
  · exact ⟨parked, rfl, .inl rfl⟩

theorem stopRequest_mail {s : State} (parked : s.pos.state = .parked) : (stopRequest s).mail = s.mail := by
  unfold stopRequest
  simp only [parked]
  split <;> rfl

theorem restStop_snug {s : State} (home : AtHome s) (parked : s.pos.state = .parked) (awake : s.rest.state = .none)
    (quiet : s.mail.note = none) : Snug (setWork .restStop (stopRequest s)) where
  home _ := (stopRequest_rests s).home home
  slow e := by
    have rest : (stopRequest s).rest = s.rest := by
      obtain ⟨-, -, -, -, rest, -⟩ := stopRequest_apart s
      exact rest
    change (stopRequest s).rest.state = .standby at e
    rw [rest, awake] at e
    cases e
  slack _ := ⟨stopRequest_slack parked, fun noted => by
    change (stopRequest s).mail.note = _ at noted
    rw [stopRequest_mail parked, quiet] at noted
    cases noted⟩

theorem advanceRest_snug {s t : State} (resting : (view s).Resting) (h : Snug s) (goes : advanceRest s = some t) :
    Snug t := by
  have awake (active : s.cu.slot.work.still = false) : s.rest.state = .none := View.awake_of_still active resting
  unfold advanceRest at goes
  split at goes
  · rename_i stage
    split at goes
    · exact Option.some.inj goes ▸ slotFaulted_snug _ h
    · split at goes
      · cases goes
      · exact Option.some.inj goes ▸ restParks_snug (s := slotResult _ s) (awake (by rw [stage]; rfl))
  · rename_i stage
    have home := h.home (.inr (.inl stage))
    split at goes
    · exact Option.some.inj goes ▸ slotFaulted_snug _ h
    · rename_i quiet
      split at goes
      · rename_i parked
        split at goes
        · exact Option.some.inj goes ▸ restStop_snug home parked (awake (by rw [stage]; rfl)) quiet
        · rename_i idle
          exact Option.some.inj goes ▸ enterRest_snug home fun standby => absurd standby idle
      · cases goes
  · rename_i stage
    have home := h.home (.inr (.inr stage))
    obtain ⟨⟨parked, start, -⟩, note⟩ := h.slack stage
    split at goes
    · rename_i failed
      obtain ⟨pos, spin⟩ := slotFaulted_drive .stallBrake s
      refine Option.some.inj goes ▸ enterRest_snug ?_ fun _ => ?_
      · rw [AtHome, pos]
        exact home
      · rw [Slow, spin]
        exact ⟨note failed, start⟩
    · exact Option.some.inj goes ▸ slotFaulted_snug _ h
    · split at goes
      · rename_i stands
        exact Option.some.inj goes ▸ enterRest_snug home fun _ => ⟨.inr stands, start⟩
      · cases goes
  · cases goes

/-- The heads and the platter at rest stay so along every transition, and REST entry brings them to rest. -/
theorem advance_snug {s t : State} (ok : (view s).Lawful) (resting : (view s).Resting) (h : Snug s)
    (goes : advance s = some t) : Snug t := by
  have wakes (awake : ¬ Dozes s) (k : (view s).Goes (view t)) : Snug t :=
    .of_awake fun dozes => awake (View.Wakes.dozes (k ok).2.2 dozes)
  obtain still | active := Bool.eq_false_or_eq_true s.cu.slot.work.still
  · simp [advance_still ok still] at goes
  · have none : s.rest.state = .none := View.awake_of_still (u := view s) active resting
    cases rests : s.cu.slot.work.rests with
    | false =>
      refine wakes (fun dozes => ?_) (advance_goes rests goes)
      obtain ne | e | e := dozes
      · exact ne none
      · simp [e, Work.rests] at rests
      · simp [e, Work.rests] at rests
    | true =>
      obtain ⟨k, works⟩ | ⟨-, -, item⟩ := advance_cases goes
      · refine wakes (fun dozes => ?_) k
        obtain ne | stage := dozes
        · exact ne none
        · obtain ⟨load, copy, -⟩ := (lawful_bare_of_rests stage ok).calm
          simp [load, copy] at works
      · rw [advanceItem_of_rests rests] at item
        exact advanceRest_snug resting h item

end Sys2Proof.Machine

/-! ## Proofs: an event worked out keeps the laws of the contexts and of the rest -/

namespace Sys2Proof.Machine

/-! ### What a row keeps -/

/-- The law of the contexts is kept, and with it the law of rest control but for the clause on held
requests. -/
def Restful (s t : State) : Prop :=
  (view s).Lawful → (view t).Lawful ∧ ((view s).Resting → Snug s → (view t).Resting ∧ Snug t)

theorem Restful.refl (s : State) : Restful s s := fun ok => ⟨ok, fun resting snug => ⟨resting, snug⟩⟩

theorem Restful.trans {s t u : State} (h : Restful s t) (k : Restful t u) : Restful s u := fun ok =>
  have ⟨lawful, rest⟩ := h ok
  have ⟨lawful', rest'⟩ := k lawful
  ⟨lawful', fun resting snug => have ⟨resting', snug'⟩ := rest resting snug; rest' resting' snug'⟩

theorem Restful.of_goes {s t : State} (h : (view s).Goes (view t))
    (rests : (view s).Lawful → (view s).Resting → Dozes t → Rests s t) : Restful s t :=
  fun ok =>
    have ⟨lawful, resting, wakes⟩ := h ok
    ⟨lawful, fun before snug => ⟨resting before, snug.of_wakes wakes (rests ok before)⟩⟩

/-- Besides, a request is held only while the heads are on their way home. -/
structure Orderly (s t : State) : Prop where
  restful : Restful s t
  homed : Homed s → Homed t

theorem Orderly.refl (s : State) : Orderly s s := ⟨.refl s, id⟩

theorem Orderly.trans {s t u : State} (h : Orderly s t) (k : Orderly t u) : Orderly s u :=
  ⟨h.restful.trans k.restful, k.homed ∘ h.homed⟩

/-- An operation of the mechanism. -/
theorem Orderly.of_rests {s t : State} (same : view t = view s) (rests : Rests s t) (homed : Homed s → Homed t) :
    Orderly s t :=
  ⟨.of_goes (.of_eq same) fun _ _ _ => rests, homed⟩

/-- A change of what none of the laws sees. -/
theorem Orderly.of_same {s t : State} (same : view t = view s) (pos : t.pos = s.pos) (spin : t.spin = s.spin)
    (note : t.mail.note = some .stallBrake → s.mail.note = some .stallBrake) : Orderly s t :=
  .of_rests same (.of_pos pos spin note) fun h => h.of_pos pos

/-- What happens while no rest stands. -/
theorem Orderly.of_awake {s t : State} (goes : (view s).Goes (view t)) (awake : (view s).Resting → ¬ Dozes s)
    (homed : Homed s → Homed t) : Orderly s t :=
  ⟨.of_goes goes fun ok resting dozes => absurd (View.Wakes.dozes (goes ok).2.2 dozes) (awake resting), homed⟩

/-! ### Working out an event -/

theorem Homed.finishWith {s : State} (h : Homed s) (o : OutcomeCode) (fields : List Byte) :
    Homed (finishWith o fields s) := by
  obtain ⟨-, -, -, state, -⟩ := finishWith_same o fields s
  exact h.of_same state (finishWith_held o fields s)

theorem Homed.restore {s : State} (h : Homed s) : Homed (restore s) := by
  unfold Machine.restore
  split
  · exact h.of_same rfl fun none => by simp [clearWork, dropRequester, withdrawLine, freeSlot, putReply, clearCauses, none]
  · exact h

theorem Move.homed {s t : State} (h : Move false s t) (ok : Homed s) : Homed t := by
  cases h with
  | aside h =>
    obtain ⟨⟨-, -, -, state, -⟩, -, -, -, -, -, -, -, -, held, -⟩ := h
    exact ok.of_same state held
  | acts _ tame => exact (tame rfl).homed ok
  | start => exact ok.startRequest
  | request => exact ok
  | withdraw => exact ok
  | work => exact ok
  | finish => exact ok.finishWith _ _
  | restore => exact ok.restore
  | cart => exact ok
  | eject => exact ok
  | latch => exact ok
  | unlatch => exact ok
  | shell => exact ok

theorem Moves.homed {s t : State} (h : Moves false s t) (ok : Homed s) : Homed t := by
  induction h with
  | refl => exact ok
  | tail _ move ih => exact move.homed ih

theorem advance_restful {s t : State} (h : advance s = some t) : Restful s t := fun ok =>
  have ⟨lawful, resting⟩ := advance_lasts h ok
  ⟨lawful, fun before snug => ⟨resting before, advance_snug ok before snug h⟩⟩

theorem advanceMany_restful (n : Nat) (s : State) : Restful s (advanceMany n s) := by
  induction n generalizing s with
  | zero => exact .refl s
  | succ n ih =>
    unfold advanceMany
    split
    · exact .refl s
    · exact (advance_restful ‹_›).trans (ih _)

/-- At the end of an event no answer is left under way. -/
theorem dropMail_restful (s : State) : Restful s { s with mail := Mail.none } := by
  refine fun ok => ⟨?_, fun resting snug => ⟨resting, snug.home, snug.slow, fun e => ⟨(snug.slack e).1, nofun⟩⟩⟩
  have eq : view { s with mail := Mail.none } = { view s with loaded := false, saved := false, copies := false } := rfl
  have owned : View.owned { view s with loaded := false, saved := false, copies := false } = (view s).owned := rfl
  obtain ⟨free, load, copy, transfer, reassign, fmt, cart, origin, -⟩ := ok
  rw [eq, View.Lawful, owned]
  exact ⟨free, fun h => load (.inl (by simpa using h)), fun h => copy (.inl (by simpa using h)), transfer, reassign, fmt,
    cart, origin, nofun, by simp, by simp⟩

theorem settle_orderly (s : State) : Orderly s (settle s) :=
  ⟨(advanceMany_restful _ s).trans (dropMail_restful _), Moves.homed (settle_moves s)⟩

theorem Orderly.settled {s t : State} (h : Orderly s t) : Orderly s (settle t) := h.trans (settle_orderly t)

/-- The working out alone goes with any request that is held. -/
theorem Restful.settled {s t : State} (h : Restful s t) : Restful s (settle t) := h.trans (settle_orderly t).restful

/-! ### Sectors -/

theorem Homed.copySectorStart {s : State} (h : Homed s) (c : CopyWrite) : Homed (copySectorStart c s) := by
  unfold Machine.copySectorStart
  split
  · split <;> exact h
  · split <;> exact h

theorem Homed.copyStart {s : State} (h : Homed s) (c : CopyWrite) (n : Nat) : Homed (copyStart c n s) := by
  unfold Machine.copyStart
  split
  · exact h
  · split
    · split
      · exact Homed.copySectorStart (s := { s with record := { s.record with
          copyWrite := some { c with armed := false, timer := some Config.copyAttemptTime } } }) h _
      · exact h
    · split
      · exact h.copySectorStart c
      · exact h

theorem Homed.loadStart {s : State} {l : Load} (h : Homed s) (n : Nat) (works : s.record.load = some l) :
    Homed (loadStart l n s) := by
  unfold Machine.loadStart
  split
  · exact h
  · split
    · exact h
    · split
      · exact h
      · exact Moves.homed (loadAttemptFails_moves (keepsCopy_of_load works)) h

theorem Homed.dataStart {s : State} (h : Homed s) (t : Transfer) (n : Nat) : Homed (dataStart t n s) := by
  unfold Machine.dataStart
  split
  · exact h
  · split
    · split <;> exact h
    · split
      · exact h
      · split
        · split
          · exact h
          · split
            · exact h
            · exact Moves.homed (startGateWait_stays s).moves h
        · split
          · exact h
          · split
            · exact h
            · split
              · exact h
              · split
                · exact h
                · exact Moves.homed (attemptFails_stays t s).moves h

theorem Homed.reassignStart {s : State} (h : Homed s) (r : Reassign) (n : Nat) : Homed (reassignStart r n s) := by
  unfold Machine.reassignStart
  split
  · exact h
  · split
    · split
      · exact h
      · split
        · exact h
        · split
          · exact h
          · exact Moves.homed (reassignAttemptFails_stays r s).moves h
    · split
      · split <;> exact h
      · exact h
    · split <;> exact h
    · exact h

theorem Homed.formatStart {s : State} (h : Homed s) (f : Format) (n : Nat) : Homed (formatStart f n s) := by
  have waits : Homed (startWait n f s) := by
    unfold startWait
    split <;> exact h
  unfold Machine.formatStart
  split
  · split
    · exact h
    · split
      · exact h
      · exact waits
  · dsimp only
    split
    · exact h
    · split
      · exact h
      · exact waits
  · split
    · exact h
    · split
      · exact h
      · exact waits
  · exact h

theorem Homed.sectorStart {s : State} (h : Homed s) (n : Nat) : Homed (sectorStart n s) := by
  unfold Machine.sectorStart
  split
  · exact h
  · split
    · exact h.copyStart _ n
    · split
      · exact h.loadStart n ‹_›
      · split
        · exact h.dataStart _ n
        · split
          · exact h.reassignStart _ n
          · split
            · exact h.formatStart _ n
            · exact h

/-- While a rest stands nothing works for the slot. -/
theorem View.Lawful.idle_of_still {v : View} (ok : v.Lawful) (still : v.work.still = true) :
    v.load = false ∧ v.copy = false ∧ v.transfer = none ∧ v.reassign = none ∧ v.fmt = none := by
  obtain ⟨-, load, copy, transfer, reassign, fmt, -⟩ := ok
  have other {w : Work} (h : w.still = false) : v.work ≠ w := by
    rintro rfl
    simp [h] at still
  have owned : ¬ v.owned := by
    cases stage : v.work <;> simp_all [View.owned, Work.still]
  refine ⟨Bool.eq_false_iff.mpr fun h => ?_, Bool.eq_false_iff.mpr fun h => owned (copy (.inl h)), ?_, ?_, ?_⟩
  · exact (load (.inl h)).elim (other rfl) (other rfl)
  · by_contra h
    exact other rfl (transfer h)
  · by_contra h
    exact other rfl (reassign h)
  · by_contra h
    exact other rfl (fmt h)

/-- While a rest stands, and in the last stages of REST entry, no context is there. -/
theorem idle_of_dozes {s : State} (ok : (view s).Lawful) (resting : (view s).Resting) (dozes : Dozes s) :
    s.record.load = none ∧ s.record.copyWrite = none ∧ s.chan.transfer = none ∧ s.chan.reassign = none
    ∧ s.fmt = none := by
  have idle : (view s).load = false ∧ (view s).copy = false ∧ (view s).transfer = none ∧ (view s).reassign = none
      ∧ (view s).fmt = none := by
    obtain ne | stage := dozes
    · exact ok.idle_of_still (resting.1 ne).2
    · have b := lawful_bare_of_rests stage ok
      exact ⟨b.calm.1, b.calm.2.1, b.transfer, b.reassign, b.fmt⟩
  simpa only [view, Option.isSome_eq_false_iff, Option.isNone_iff_eq_none, Option.map_eq_none_iff] using idle

/-- What does nothing where no context is there. -/
theorem Orderly.of_idle {s t : State} (goes : (view s).Goes (view t))
    (idle : s.record.load = none → s.record.copyWrite = none → s.chan.transfer = none → s.chan.reassign = none →
      s.fmt = none → t = s) (homed : Homed s → Homed t) : Orderly s t := by
  refine ⟨.of_goes goes fun ok resting dozes => ?_, homed⟩
  obtain ⟨load, copy, transfer, reassign, fmt⟩ :=
    idle_of_dozes ok resting (View.Wakes.dozes (goes ok).2.2 dozes)
  rw [idle load copy transfer reassign fmt]
  exact .refl s

theorem sectorStart_orderly (n : Nat) (s : State) : Orderly s (sectorStart n s) := by
  refine .of_idle (sectorStart_goes n s) (fun load copy transfer reassign fmt => ?_) fun h => h.sectorStart n
  unfold sectorStart
  split
  · rfl
  · simp [load, copy, transfer, reassign, fmt]

theorem Homed.endSector {s : State} (h : Homed s) (sig : ReadSignal) : Homed (endSector sig s) :=
  h.of_pos (endSector_pos sig s)

theorem sectorEnds_orderly (p : Nat) (sig : ReadSignal) (s : State) : Orderly s (sectorEnds p sig s) := by
  refine .of_rests ?_ (sectorEnds_rests p sig s) fun h => ?_
  · unfold sectorEnds
    split
    · split
      · exact view_endSector sig s
      · rfl
    · rfl
  · unfold sectorEnds
    split
    · split
      · exact h.endSector sig
      · exact h
    · exact h

theorem rotate_orderly (p : Nat) (sig : ReadSignal) (s : State) : Orderly s (rotate p sig s) := by
  have turned : Orderly s { s with chan := { s.chan with rotation := p } } := .of_same rfl rfl rfl id
  unfold rotate
  dsimp only
  split
  · exact ((turned.trans (sectorEnds_orderly p sig _)).settled.trans (sectorStart_orderly _ _)).settled
  · exact turned.settled

theorem rotateNext_orderly (sig : ReadSignal) (s : State) : Orderly s (rotateNext sig s) := by
  unfold rotateNext
  split
  · exact rotate_orderly _ sig s
  · exact settle_orderly s

end Sys2Proof.Machine

/-! ## Proofs: the rows of the mechanism keep the laws of the contexts and of the rest -/

namespace Sys2Proof.Machine

theorem raise_orderly (cls : FaultClass) (s : State) (other : cls ≠ .stallBrake := by decide) :
    Orderly s (raise cls s) :=
  .of_rests (view_raise cls s) (raise_rests fun e => absurd e other) fun h => h.raise cls

/-- A brake failure is raised while the platter brakes. -/
theorem raise_stallBrake_orderly {s : State} (brakes : s.spin.state = .braking) : Orderly s (raise .stallBrake s) :=
  .of_rests (view_raise _ s) (raise_rests fun _ => brakes) fun h => h.raise _

/-! ### The spindle -/

theorem setSpin_orderly {s : State} {p : Spindle} (rests : Rests s { s with spin := p }) :
    Orderly s { s with spin := p } := .of_rests rfl rests fun h => h

/-- An index leaves a platter as it is that brakes or stands, or coasts (R38). -/
theorem index_rests (s : State) : Rests s { s with spin := (Spindle.index s.set.trims.gs s.spin.measure).1 } := by
  have state : s.spin.measure.state = s.spin.state := rfl
  refine .of_spin (fun h _ => ?_) (fun h => ?_) fun start => ?_
  · obtain e | e := h <;> simp [Spindle.index, Spindle.slow, state, e]
  · simp [Spindle.index, state, h]
  · have start : s.spin.measure.pendingStart = false := start
    unfold Spindle.index Spindle.lockCheck Spindle.recoveryCheck Spindle.deviationCheck
    repeat' split
    all_goals exact start

theorem raiseDeviation_orderly (s : State) : Orderly s (raiseDeviation s) := by
  unfold raiseDeviation
  split
  · exact .of_same rfl rfl rfl id
  · exact raise_orderly _ s

theorem indexSpindle_orderly (s : State) : Orderly s (indexSpindle s) := by
  unfold indexSpindle
  dsimp only
  split
  · exact (setSpin_orderly (index_rests s)).trans (raiseDeviation_orderly _)
  · exact setSpin_orderly (index_rests s)

theorem indexArrives_orderly (sig : ReadSignal) (s : State) : Orderly s (indexArrives sig s) :=
  (indexSpindle_orderly s).trans (rotate_orderly 0 sig _)

theorem kickExpires_orderly (s : State) : Orderly s (kickExpires s) := by
  unfold kickExpires
  split
  · exact (raise_orderly _ _).settled
  · exact .refl s

/-- The gap timer is no concern of a mechanism at rest. -/
theorem setGap_orderly (g : Nat) (s : State) : Orderly s { s with spin := { s.spin with gap := g } } :=
  setSpin_orderly (.of_spin (fun h _ => h) .inr id)

theorem accelSaturates_orderly (s : State) : Orderly s (accelSaturates s) := by
  unfold accelSaturates
  split
  · exact ((setGap_orderly Config.gapMax s).trans (raise_orderly .stallSpinUp _)).settled
  · exact .refl s

theorem spinUpExpires_orderly (s : State) : Orderly s (spinUpExpires s) := by
  unfold spinUpExpires
  split
  · exact (raise_orderly _ _).settled
  · exact (raise_orderly _ _).settled
  · exact (raise_orderly _ _).settled
  · exact .refl s

theorem indexLost_orderly (s : State) : Orderly s (indexLost s) := by
  unfold indexLost
  split
  · exact ((setGap_orderly (max s.spin.gap (Config.gapLimit + 1)) s).trans (raise_orderly .stallIndexLoss _)).settled
  · exact .refl s

/-- A platter that has braked stands, and starts only where a start is pending (R38). -/
theorem stopExpires_orderly (s : State) : Orderly s (stopExpires s) := by
  unfold stopExpires
  split
  · rename_i brakes
    dsimp only
    refine (setSpin_orderly (.of_spin (fun h start => ?_) (fun coasts => ?_) fun start => ?_)).settled
    · rw [if_neg (by rintro ⟨pending, -⟩; exact absurd (start.symm.trans pending) (by decide))]
      exact .inr rfl
    · rw [brakes] at coasts
      cases coasts
    · split
      · rfl
      · exact start
  · exact .refl s

theorem brakeExpires_orderly (s : State) : Orderly s (brakeExpires s) := by
  unfold brakeExpires
  split
  · rename_i now
    have failed : Orderly s { s with spin := { s.spin with brake := none, brakeFailed := true } } :=
      setSpin_orderly (.of_spin (fun h _ => h) .inr id)
    exact (failed.trans (raise_stallBrake_orderly now.1)).settled
  · exact .refl s

/-! ### Samples -/

@[simp] theorem view_seekTimesOut (s : State) : view (seekTimesOut s) = view s := by
  unfold seekTimesOut
  split
  · dsimp only
    rw [view_raise]
    exact view_tellRequester .failed s
  · rfl

@[simp] theorem view_seekSample (r v : Int) (s : State) : view (seekSample r v s) = view s := by
  unfold seekSample
  dsimp only
  split
  · exact view_tellRequester .complete _
  · split
    · rw [view_seekTimesOut]
      rfl
    · rfl

@[simp] theorem view_followSample (r v : Int) (s : State) : view (followSample r v s) = view s := by
  unfold followSample
  dsimp only
  split
  · rfl
  · split
    · exact view_raise .offTrack _
    · split
      · exact view_depart _
      · rfl

theorem sighted_orderly_parts (cyl : Nat) (pe : Int) (s : State) :
    view (sighted cyl pe s) = view s ∧ (sighted cyl pe s).pos.held = s.pos.held := by
  rw [sighted, landTarget_frame]
  exact ⟨rfl, rfl⟩

theorem view_takeSample (cyl : Nat) (pe : Int) (s : State) : view (takeSample cyl pe s) = view s := by
  have seen := (sighted_orderly_parts cyl pe s).1
  rw [takeSample_eq]
  dsimp only
  split
  · exact seen
  · rw [view_seekSample, seen]
  · rw [view_seekSample, seen]
  · rw [view_followSample, seen]
  · split
    · rw [view_followSample]
      exact seen
    · rw [view_seekSample]
      exact seen
  · rfl

theorem Homed.seekTimesOut {s : State} (free : s.pos.held = none) : Homed (seekTimesOut s) := by
  unfold Machine.seekTimesOut
  split
  · exact Homed.raise (.of_none (by simpa using free)) _
  · exact .of_none free

theorem Homed.seekSample {s : State} (free : s.pos.held = none) (r v : Int) : Homed (seekSample r v s) := by
  unfold Machine.seekSample
  dsimp only
  split
  · exact .of_none (by simp [seekCompletes, free])
  · split
    · exact .seekTimesOut free
    · exact .of_none free

theorem Homed.followSample {s : State} (free : s.pos.held = none) (r v : Int) : Homed (followSample r v s) := by
  unfold Machine.followSample
  dsimp only
  split
  · exact .of_none free
  · split
    · refine .of_none ?_
      simp only [resettle]
      rw [raise_offTrack_pos]
      exact free
    · split
      · exact .of_none (by simp [resettle, free])
      · exact .of_none free

theorem Homed.takeSample {s : State} (h : Homed s) (cyl : Nat) (pe : Int) : Homed (takeSample cyl pe s) := by
  have seen := (sighted_orderly_parts cyl pe s).2
  have free {p : PosState} (here : s.pos.state = p) (back : p ≠ .retracting := by decide)
      (hurry : p ≠ .emergency := by decide) : (sighted cyl pe s).pos.held = none :=
    seen.trans (h.none_of here back hurry)
  rw [takeSample_eq]
  dsimp only
  split
  · exact .of_none (free ‹_›)
  · exact .seekSample (free ‹_›) _ _
  · exact .seekSample (free ‹_›) _ _
  · exact .followSample (free ‹_›) _ _
  · have resumes : (resumed (sighted cyl pe s)).pos.held = none := free ‹_›
    split
    · exact .followSample resumes _ _
    · exact .seekSample resumes _ _
  · exact h

theorem takeSample_orderly (cyl : Nat) (pe : Int) (s : State) : Orderly s (takeSample cyl pe s) := by
  refine .of_rests (view_takeSample cyl pe s) (.of_home fun ⟨home, _⟩ => ?_) fun h => h.takeSample cyl pe
  have still : takeSample cyl pe s = s := by
    unfold takeSample
    cases here : s.pos.state <;> simp_all [PosState.home, PosState.flying]
  rw [still]
  exact .refl s

theorem markStrobes_orderly (cyl : Nat) (pe : Int) (withIndex park : Bool) (sig : ReadSignal) (s : State) :
    Orderly s (markStrobes cyl pe withIndex park sig s) := by
  have pins : Orderly s { s with pins := { s.pins with park } } := .of_same rfl rfl rfl id
  unfold markStrobes
  dsimp only
  split
  · have taken := (pins.trans (takeSample_orderly cyl pe _)).settled
    split
    · exact taken
    · exact taken.trans (rotateNext_orderly sig _)
  · exact pins

/-! ### Missing samples -/

theorem home_of_tracks {p : PosState} (h : p.tracks = true) : p.home = false ∧ p ≠ .retracting ∧ p ≠ .emergency := by
  cases p <;> simp_all [PosState.tracks, PosState.flying, PosState.home]

theorem losesServo_orderly (s : State) : Orderly s (losesServo (clockMisses s)) :=
  Orderly.trans (t := clockMisses s) (.of_same rfl rfl rfl id) (raise_orderly _ _)

theorem positionMiss_orderly {s : State} (tracks : s.pos.state.tracks = true) :
    Orderly s (positionMiss (clockMisses s)) := by
  obtain ⟨flies, back, hurry⟩ := home_of_tracks tracks
  have coasts : view (coastOn (clockMisses s)) = view s
      ∧ (coastOn (clockMisses s)).pos.held = (clockMisses s).pos.held := by
    unfold coastOn
    split
    · exact ⟨rfl, rfl⟩
    · exact ⟨view_depart (clockMisses s), by simp⟩
  have counts (u : State) : view (missCounts u) = view u ∧ (u.pos.held = none → Homed (missCounts u)) := by
    unfold missCounts
    split
    · exact ⟨rfl, .of_none⟩
    · dsimp only
      split
      · exact ⟨view_seekTimesOut _, fun free => .seekTimesOut free⟩
      · exact ⟨rfl, fun free => .of_none free⟩
  refine .of_rests ?_ (.of_flying flies) fun h => ?_
  · unfold positionMiss
    split
    · exact view_raise .servoLoss (clockMisses s)
    · exact (counts _).1.trans coasts.1
  · unfold positionMiss
    split
    · exact Homed.raise (s := clockMisses s) h .servoLoss
    · exact (counts _).2 (coasts.2.trans (h back hurry))

theorem missDeclared_orderly (s : State) : Orderly s (missDeclared s) := by
  unfold missDeclared
  split
  · exact (positionMiss_orderly ‹_›).settled.trans (rotateNext_orderly _ _)
  · exact .refl s

theorem servoLost_orderly (s : State) : Orderly s (servoLost s) := by
  unfold servoLost
  split
  · exact (losesServo_orderly s).settled.trans (rotateNext_orderly _ _)
  · exact .refl s

theorem seekExpires_orderly (s : State) : Orderly s (seekExpires s) := by
  have timesOut {p : PosState} (here : s.pos.state = p) (flies : p.home = false) :
      Orderly s (settle (seekTimesOut s)) := by
    refine (Orderly.of_rests (view_seekTimesOut s) (.of_flying (here ▸ flies)) fun h => ?_).settled
    refine .seekTimesOut (h.none_of here ?_ ?_) <;> rintro rfl <;> cases flies
  unfold seekExpires
  split
  · exact timesOut ‹_› rfl
  · exact timesOut ‹_› rfl
  · split
    · exact .refl s
    · exact timesOut ‹_› rfl
  · exact .refl s

/-! ### The timers of the heads, and PARK -/

theorem loadExpires_orderly (park : Bool) (s : State) : Orderly s (loadExpires park s) := by
  unfold loadExpires
  split
  · rename_i loading
    refine (Orderly.of_rests ?_ (.of_flying (by rw [loading]; rfl)) fun h => ?_).settled
    · dsimp only
      rw [view_raise]
      exact view_tellRequester .failed { s with pins := { s.pins with park } }
    · refine Homed.raise (.of_none ?_) _
      simpa using h.none_of loading
  · exact .refl s

theorem retractExpires_orderly (s : State) : Orderly s (retractExpires s) := by
  unfold retractExpires
  split
  · rename_i back
    exact (Orderly.of_rests (view_enterEmergency s) (enterEmergency_rests (by rw [back]; nofun))
      fun _ => .of_none (enterEmergency_held s)).settled
  · exact .refl s

/-- The retract of SEEK FAILED (park) discards a held request (R64). -/
theorem emergencyExpires_orderly (s : State) : Orderly s (emergencyExpires s) := by
  unfold emergencyExpires
  split
  · refine (Orderly.of_rests ?_ ((enterParked_rests s).trans (raise_rests (cls := .seekPark) nofun)) fun _ => ?_).settled
    · rw [view_raise, view_enterParked]
    · exact .of_none (requestRetract_held _)
  · exact .refl s

theorem heldActs_homed (s : State) : Homed (heldActs s) := by
  unfold heldActs
  split
  · dsimp only
    split
    · exact .of_none (requestParked_held _ _ _)
    · exact .of_none rfl
  · exact .of_none ‹_›

/-- What the entry to PARKED brings about may meet a request that is held still; it acts thereafter (R68). -/
theorem parkSeen_orderly (s : State) : Orderly s (parkSeen s) := by
  have pins : Orderly s { s with pins := { s.pins with park := true } } := .of_same rfl rfl rfl id
  unfold parkSeen parkReported
  dsimp only
  split
  · refine ⟨?_, fun _ => (settle_orderly _).homed (heldActs_homed _)⟩
    have parked := pins.restful.trans (.of_goes (.of_eq (view_enterParked _)) fun _ _ _ => enterParked_rests _)
    exact (parked.settled.trans (.of_goes (.of_eq (view_heldActs _)) fun _ _ _ => heldActs_rests _)).settled
  · exact pins

/-! ### Faults and the supply -/

theorem writeFaults_orderly (s : State) : Orderly s (writeFaults s) := by
  unfold writeFaults
  split
  · exact (raise_orderly _ _).settled
  · exact .refl s

theorem supplyWarns_orderly (s : State) : Orderly s (supplyWarns s) := by
  have pins : Orderly s { s with pins := { s.pins with supwarn := false } } := .of_same rfl rfl rfl id
  have warned (u : State) : Orderly u { u with fault := { u.fault with warning := true } } := .of_same rfl rfl rfl id
  unfold supplyWarns
  dsimp only
  split
  · exact pins
  · exact ((pins.trans (warned _)).trans (raise_orderly _ _)).settled

theorem supplyRecovers_orderly (s : State) : Orderly s (supplyRecovers s) := .of_same rfl rfl rfl id

theorem restExpires_orderly (s : State) : Orderly s (restExpires s) := by
  unfold restExpires
  split
  · exact .of_same rfl rfl rfl id
  · exact .refl s

end Sys2Proof.Machine

/-! ## Proofs: the rows of the link and of the waits keep the laws of the contexts and of the rest -/

namespace Sys2Proof.Machine

/-! ### The link -/

theorem putReply_orderly (r : Reply) (s : State) : Orderly s (putReply r s) := .of_same rfl rfl rfl id

theorem setCause_orderly (c : Cause) (s : State) : Orderly s (setCause c s) := .of_same rfl rfl rfl id

theorem dropFrame_orderly (s : State) : Orderly s (dropFrame s) := .of_same rfl rfl rfl id

theorem setLink_orderly (l : Link) (s : State) : Orderly s { s with link := l } := .of_same rfl rfl rfl id

theorem setPins_orderly (p : Pins) (s : State) : Orderly s { s with pins := p } := .of_same rfl rfl rfl id

theorem receiveErrs_orderly (s : State) : Orderly s (receiveErrs s) := by
  unfold receiveErrs
  dsimp only
  split <;> exact .of_same rfl rfl rfl id

theorem receiveCommand_orderly {f : State → State} (h : ∀ s, Orderly s (f s)) (s : State) :
    Orderly s (receiveCommand f s) := by
  unfold receiveCommand
  split
  · exact .refl s
  · split
    · exact receiveErrs_orderly s
    · split
      · exact ((setPins_orderly _ s).trans (dropFrame_orderly _)).trans (h _)
      · exact setLink_orderly _ s

theorem cancelQueue_orderly (s : State) : Orderly s (cancelQueue s) := .of_same rfl rfl rfl id

/-- The mark of an abort changes no phase. -/
theorem tellAbort_orderly (s : State) : Orderly s (tellAbort s) := by
  unfold tellAbort
  split
  · refine .of_same ?_ rfl rfl id
    simp [view, Function.comp_def]
  · exact .refl s

theorem doClearAttention_orderly (tag : Byte) (causes : BitVec 16) (s : State) :
    Orderly s (doClearAttention tag causes s) := by
  have cleared : Orderly s (clearCauses causes s) := .of_same rfl rfl rfl id
  have emptied (u : State) : Orderly u (clearFault u) := by
    have slot : Orderly u { u with fault := { u.fault with slot := none } } := .of_same rfl rfl rfl id
    unfold clearFault
    dsimp only
    split
    · exact slot.trans (raise_orderly _ _)
    · exact slot
  unfold doClearAttention
  split
  · exact putReply_orderly _ s
  · dsimp only
    split
    · exact ((cleared.trans (emptied _)).trans (putReply_orderly _ _)).settled
    · exact (cleared.trans (putReply_orderly _ _)).settled

theorem doAbort_orderly (tag : Byte) (s : State) : Orderly s (doAbort tag s) :=
  (((putReply_orderly _ s).trans (cancelQueue_orderly _)).trans (tellAbort_orderly _)).settled

theorem doHold_orderly (tag : Byte) (s : State) : Orderly s (doHold tag s) := by
  unfold doHold
  split
  · exact putReply_orderly _ s
  · exact .of_same rfl rfl rfl id

theorem doRelease_orderly (tag : Byte) (s : State) : Orderly s (doRelease tag s) := .of_same rfl rfl rfl id

theorem doReset_orderly (tag : Byte) (s : State) : Orderly s (doReset tag s) := by
  have joined : Orderly s { s with cu := { s.cu with
      resets := s.cu.resets ++ [tag]
      pendAuto := if s.cu.resets.isEmpty then false else s.cu.pendAuto } } := .of_same rfl rfl rfl id
  exact ((joined.trans (cancelQueue_orderly _)).trans (tellAbort_orderly _)).settled

theorem takeCommand_orderly (body : List Byte) (s : State) : Orderly s (takeCommand body s) := by
  unfold takeCommand
  dsimp only
  split
  · exact putReply_orderly _ s
  · split
    · exact putReply_orderly _ s
    · split
      · unfold doImmediate
        split
        · exact putReply_orderly _ s
        · split
          · exact doClearAttention_orderly _ _ s
          · split
            · exact doAbort_orderly _ s
            · split
              · exact doHold_orderly _ s
              · split
                · exact doRelease_orderly _ s
                · exact doReset_orderly _ s
      · split
        · exact putReply_orderly _ s
        · exact .of_same rfl rfl rfl id

theorem receiveBody_orderly (body : List Byte) (s : State) : Orderly s (receiveBody body s) := by
  refine receiveCommand_orderly (fun u => ?_) s
  split
  · exact takeCommand_orderly body u
  · exact receiveErrs_orderly u

/-- A data frame, and the end of one, concern the buffer and the line alone. -/
theorem setSlotOf_drive (i : Nat) (b : BufSlot) (s : State) :
    (setSlotOf i b s).pos = s.pos ∧ (setSlotOf i b s).spin = s.spin ∧ (setSlotOf i b s).mail = s.mail := by
  unfold setSlotOf
  split
  · exact ⟨rfl, rfl, rfl⟩
  · split <;> exact ⟨rfl, rfl, rfl⟩

theorem fillFree_drive (b : BufSlot) (s : State) :
    (fillFree b s).pos = s.pos ∧ (fillFree b s).spin = s.spin ∧ (fillFree b s).mail = s.mail := by
  unfold fillFree
  split
  · exact ⟨rfl, rfl, rfl⟩
  · split <;> exact ⟨rfl, rfl, rfl⟩

theorem requestNext_drive (s : State) :
    (requestNext s).pos = s.pos ∧ (requestNext s).spin = s.spin ∧ (requestNext s).mail = s.mail := by
  unfold requestNext
  split
  · split
    · exact fillFree_drive _ _
    · exact ⟨rfl, rfl, rfl⟩
  · exact ⟨rfl, rfl, rfl⟩

theorem setSlotOf_orderly (i : Nat) (b : BufSlot) (s : State) : Orderly s (setSlotOf i b s) := by
  obtain ⟨pos, spin, mail⟩ := setSlotOf_drive i b s
  exact .of_same (view_setSlotOf i b s) pos spin (by rw [mail]; exact id)

theorem requestNext_orderly (s : State) : Orderly s (requestNext s) := by
  obtain ⟨pos, spin, mail⟩ := requestNext_drive s
  exact .of_same (view_requestNext s) pos spin (by rw [mail]; exact id)

theorem takeData_orderly (d : List Byte) (s : State) : Orderly s (takeData d s) := by
  unfold takeData
  split
  · exact setCause_orderly _ s
  · rename_i o rest waiting
    have taken : Orderly s { s with chan := { s.chan with outstanding := rest } } := .of_same rfl rfl rfl id
    dsimp only
    split
    · split
      · exact taken.trans (setSlotOf_orderly _ _ _)
      · exact ((taken.trans (setSlotOf_orderly _ _ _)).trans (requestNext_orderly _)).trans (requestNext_orderly _)
    · exact taken.trans (setSlotOf_orderly _ _ _)

theorem receiveData_orderly (d : List Byte) (s : State) : Orderly s (receiveData d s) := by
  unfold receiveData
  split
  · exact .refl s
  · split
    · exact receiveErrs_orderly s
    · split
      · exact receiveErrs_orderly s
      · exact (((setPins_orderly _ s).trans (dropFrame_orderly _)).trans (takeData_orderly d _)).settled

theorem receiveError_orderly (s : State) : Orderly s (receiveError s) := by
  unfold receiveError
  split
  · exact .refl s
  · exact receiveErrs_orderly s

theorem takeByte_orderly (data : Byte) (s : State) : Orderly s (takeByte data s) := by
  have assembled (a : Assembly) (u : State) : Orderly u (assemble a u) := setLink_orderly _ u
  unfold takeByte
  split
  · have waits := setLink_orderly { s.link with kindWaiting := false } s
    unfold takeKind
    split
    · exact waits.trans (receiveErrs_orderly _)
    · exact waits.trans (assembled _ _)
    · split
      · exact (waits.trans (setLink_orderly _ _)).trans (assembled _ _)
      · exact waits.trans (setLink_orderly _ _)
  · exact assembled _ s
  · unfold takeLength
    split
    · exact assembled _ s
    · exact receiveErrs_orderly s
  · unfold takeBody
    split
    · exact assembled _ s
    · split
      · exact receiveCommand_orderly (takeCommand_orderly _) s
      · exact receiveData_orderly _ s
  · exact receiveErrs_orderly s

theorem byteReceived_orderly (data : Byte) (dp : Bool) (s : State) : Orderly s (byteReceived data dp s) := by
  unfold byteReceived
  split
  · exact .refl s
  · split
    · exact receiveErrs_orderly s
    · exact (setPins_orderly _ s).trans (takeByte_orderly data _)

theorem byteGapExpires_orderly (s : State) : Orderly s (byteGapExpires s) := by
  unfold byteGapExpires
  split
  · exact (dropFrame_orderly s).trans (setCause_orderly _ _)
  · exact .refl s

theorem quietExpires_orderly (s : State) : Orderly s (quietExpires s) := by
  unfold quietExpires
  split
  · exact dropFrame_orderly s
  · exact .refl s

theorem busGrant_orderly (s : State) : Orderly s (busGrant s) := by
  have granted (u : State) : Orderly u (grantFrame u) := by
    unfold grantFrame
    split <;> exact .of_same rfl rfl rfl id
  unfold busGrant
  split
  · exact .refl s
  · dsimp only
    split
    · exact (((dropFrame_orderly s).trans (setCause_orderly _ _)).trans (setPins_orderly _ _)).trans (granted _)
    · exact ((dropFrame_orderly s).trans (setPins_orderly _ _)).trans (granted _)

theorem dirFalls_orderly (s : State) : Orderly s (dirFalls s) := .of_same rfl rfl rfl id

theorem dataSent_orderly (i : Nat) (s : State) : Orderly s (dataSent i s) := by
  have drive : (dataSent i s).pos = s.pos ∧ (dataSent i s).spin = s.spin ∧ (dataSent i s).mail = s.mail := by
    have freed := setSlotOf_drive i .free s
    unfold dataSent
    dsimp only
    split
    · exact freed
    · split <;> exact freed
  obtain ⟨pos, spin, mail⟩ := drive
  exact .of_same (view_dataSent i s) pos spin (by rw [mail]; exact id)

theorem frameSent_orderly (s : State) : Orderly s (frameSent s) := by
  unfold frameSent
  split
  · exact .refl s
  · have silent := setLink_orderly { s.link with send := none, acked := 0 } s
    dsimp only
    refine Orderly.settled ?_
    split
    · exact silent.trans (.of_same rfl rfl rfl id)
    · refine silent.trans ?_
      unfold requestSent
      split
      · exact .of_same rfl rfl rfl id
      · exact .refl _
    · exact silent
    · exact silent.trans (dataSent_orderly _ _)

theorem kindTakesPlace_orderly (s : State) : Orderly s (kindTakesPlace s) := by
  unfold kindTakesPlace
  split
  · exact .of_same rfl rfl rfl id
  · exact .refl s

/-- A reply that waits in the slot leaves it (R177). -/
theorem replyTakesPlace_orderly (s : State) : Orderly s (replyTakesPlace s) := by
  unfold replyTakesPlace
  split
  · rename_i r stage
    split
    · have still : (view s).work.still = true := by rw [view, stage]; rfl
      refine ⟨.of_goes (fun ok => ?_) fun _ _ _ => .of_pos rfl rfl id, fun h => h⟩
      have eq : view (freeSlot (putReply r s)) = { view s with free := true, work := .idle } := rfl
      obtain ⟨load, copy, transfer, reassign, fmt⟩ := ok.idle_of_still still
      have work : (view s).work = .replying r := stage
      obtain ⟨-, loads, copies, -, -, -, cart, origin, -⟩ := ok
      have owned : ¬ (view s).owned := by simp [View.owned, work]
      have released : (view s).cart ≠ .released := fun h => by simp [work] at cart; exact cart h
      have loaded : (view s).loaded = false := by
        by_contra h
        simp [work] at loads
        exact h loads.2
      rw [eq]
      refine ⟨?_, fun ⟨rest, _⟩ => ⟨fun ne => ⟨(rest ne).1, rfl⟩, nofun⟩, fun _ => rfl, nofun, nofun⟩
      have quiet : (view s).saved = false ∧ (view s).copies = false := by
        constructor <;>
        · by_contra h
          exact owned (copies (by simp_all))
      simp_all [View.Lawful]
    · exact .refl s
  · exact .refl s

/-! ### The waits -/

theorem dataTimes_orderly (s : State) : Orderly s (dataTimes s) := by
  refine (Orderly.of_idle (dataTimerExpires_goes s) (fun _ _ transfer _ _ => ?_)
    (Moves.homed (dataTimerExpires_stays s).moves)).settled
  simp [dataTimerExpires, transfer]

theorem gateWaitExpires_orderly (s : State) : Orderly s (gateWaitExpires s) := by
  have stopped := stopGateWait_stays (live := false) s
  refine (Orderly.of_idle (gateWaitEnds_goes s) (fun _ _ transfer reassign fmt => ?_) (Moves.homed ?_)).settled
  · unfold gateWaitEnds
    simp only [transfer, reassign, fmt]
    split <;> simp_all
  · unfold gateWaitEnds
    split
    · exact (stopped.trans (endTransfer_stays _ _ _ _)).moves
    · split
      · exact (stopped.trans (setReassign_stays _ _)).moves
      · exact (writeStageEnds_stays _ _ s).moves
    · exact .refl
    · split
      · split
        · exact (expireWait_stays s).moves
        · exact .refl
      · exact .refl

theorem readWaitExpires_orderly (s : State) : Orderly s (readWaitExpires s) := by
  unfold readWaitExpires
  split
  · rename_i f works
    split
    · exact (Orderly.of_idle (.of_eq (view_expireWait s)) (fun _ _ _ _ fmt => by simp [fmt] at works)
        (Moves.homed (expireWait_stays s).moves)).settled
    · exact .refl s
  · exact .refl s

theorem copyAttemptExpires_orderly (s : State) : Orderly s (copyAttemptExpires s) := by
  refine (Orderly.of_idle (copyTimerExpires_goes s) (fun _ copy _ _ _ => ?_) (Moves.homed ?_)).settled
  · simp [copyTimerExpires, copy]
  · unfold copyTimerExpires
    split
    · exact .refl
    · split
      · exact .refl
      · split
        · exact (setCopyWrite_aside _ s).moves
        · exact copyAttemptFails_moves _ s

end Sys2Proof.Machine

/-! ## Proofs: the items that begin keep the laws of the contexts and of the rest -/

namespace Sys2Proof.Machine

/-- An item has taken the slot, and has not begun. -/
structure Taken (s : State) : Prop where
  work : s.cu.slot.work = .idle
  item : s.cu.slot.item ≠ .free

theorem Taken.bare {s : State} (h : Taken s) (ok : (view s).Lawful) : (view s).Bare := by
  refine ok.bare ?_ ?_
  · simpa [view] using h.item
  · rw [view, h.work]
    rfl

theorem Taken.busy {s : State} (h : Taken s) : Busy s := .of_item h.work h.item

/-- What works on the mechanism, but on no view, leaves the slot taken. -/
theorem Taken.of_slot {s t : State} (h : Taken s) (slot : t.cu.slot = s.cu.slot) : Taken t :=
  ⟨by rw [slot]; exact h.work, by rw [slot]; exact h.item⟩

/-! ### Ends -/

theorem finishWith_rests (o : OutcomeCode) (fields : List Byte) (s : State) : Rests s (finishWith o fields s) := by
  obtain ⟨spin, -, -, state, -⟩ := finishWith_same o fields s
  refine .of_same state (finishWith_held o fields s) spin fun noted => ?_
  have quiet : (finishWith o fields s).mail.note = none := by
    obtain ⟨r, -, -, ⟨-, eq⟩ | eq⟩ | ⟨-, eq⟩ := finishWith_cases o fields s <;> (rw [eq]; rfl)
  simp [quiet] at noted

theorem finishWith_orderly {s : State} (o : OutcomeCode) (fields : List Byte)
    (calm : (view s).Lawful → (view s).Calm) : Orderly s (finishWith o fields s) := by
  refine ⟨.of_goes ((view_finishWith o fields s).goes fun ok => ?_) fun _ _ _ => finishWith_rests o fields s,
    fun h => h.finishWith o fields⟩
  obtain ⟨load, copy, cart⟩ := calm ok
  exact ⟨load, copy, cart, fun _ => rfl, fun resting ne => (resting.1 ne).1⟩

theorem finish_orderly {s : State} (o : OutcomeCode) (calm : (view s).Lawful → (view s).Calm) :
    Orderly s (finish o s) := by
  unfold finish
  split <;> exact finishWith_orderly _ _ calm

theorem Taken.finish {s : State} (h : Taken s) (o : OutcomeCode) : Orderly s (finish o s) :=
  finish_orderly o fun ok => (h.bare ok).calm

/-! ### Beginnings -/

/-- The rest ends (R164). -/
theorem endRest_goes (s : State) : (view s).Goes (view (endRest s)) := fun ok => by
  refine ⟨ok, fun ⟨_, rests⟩ => ⟨?_, rests⟩, ?_, id, id⟩
  · exact fun ne => absurd (Eq.refl _) ne
  · exact fun ne => absurd (Eq.refl _) ne

/-- An item that begins in a stage without a rest, whatever it starts. -/
theorem Taken.begins {s t : State} (goes : (view s).Goes (view t)) (rest : t.rest.state = .none)
    (stage : t.cu.slot.work ≠ .restPark ∧ t.cu.slot.work ≠ .restStop) (moves : Moves false s t) : Orderly s t := by
  refine ⟨.of_goes goes fun _ _ dozes => ?_, Moves.homed moves⟩
  obtain ne | park | stop := dozes
  · exact absurd rest ne
  · exact absurd park stage.1
  · exact absurd stop stage.2

/-- An item wakes the mechanism, or ends the rest, and passes to its first stage. -/
theorem Taken.stage {s t : State} {w : Work} (h : Taken s) (rests : w.rests = false)
    (eq : view t = { view s with work := w, rest := .none }) (moves : Moves false s t) : Orderly s t := by
  have goes : (view s).Goes (view t) := by
    rw [eq]
    exact .of_lawful (.inl rfl) rests fun ok => View.Bare.lawful { h.bare ok with }
  refine Taken.begins goes (congrArg View.rest eq) ?_ moves
  have work : t.cu.slot.work = w := congrArg View.work eq
  rw [work]
  constructor <;> rintro rfl <;> cases rests

theorem gated_orderly {gate : Option OutcomeCode} {work : State → State} {s : State} (h : Taken s)
    (begins : gate = none → Orderly s (work s)) : Orderly s (gated gate work s) := by
  unfold gated
  split
  · exact h.finish _
  · split
    · exact h.finish _
    · exact begins rfl

/-- A start begins on a PRESENT cartridge, on which no rest stands (R5). -/
theorem beginStart_orderly {s : State} (h : Taken s) (present : s.cart.state = .present) : Orderly s (beginStart s) := by
  have awake (resting : (view s).Resting) : s.rest.state = .none := by
    by_contra ne
    obtain ⟨e | e, -⟩ := resting.1 ne <;>
    · change s.cart.state = _ at e
      rw [present] at e
      cases e
  have eq : view (beginStart s) = { view s with cart := .starting, work := .startSpin } := by
    unfold beginStart
    simp
  have goes : (view s).Goes (view (beginStart s)) := by
    rw [eq]
    refine .of_lawful (.inr ⟨rfl, awake⟩) rfl fun ok => View.Bare.lawful ?_
    have b := h.bare ok
    exact { b with calm := ⟨b.calm.1, b.calm.2.1, nofun⟩ }
  refine .of_awake goes (fun resting dozes => ?_) (Moves.homed (beginStart_moves h.busy))
  obtain ne | stage := dozes
  · exact ne (awake resting)
  · simp [h.work] at stage

/-- An item that begins asks for a write-back first. -/
theorem Taken.saves {s : State} {w : Work} (h : Taken s) (saves : w.saves) (rests : w.rests = false)
    (moves : Moves false s (setWork w (beginWriteBack (endRest s)))) :
    Orderly s (setWork w (beginWriteBack (endRest s))) := by
  have t : Taken (endRest s) := h.of_slot rfl
  have goes := (endRest_goes s).trans (saves_goes (s := endRest s) t.bare saves (.inl rfl) rests)
  refine ⟨.of_goes goes fun ok _ dozes => ?_, Moves.homed moves⟩
  have begun := saves_goes (s := endRest s) t.bare saves (.inl rfl) rests
  obtain ne | stage := View.Wakes.dozes (begun (endRest_goes s ok).1).2.2 dozes
  · exact absurd rfl ne
  · have work : s.cu.slot.work = .idle := h.work
    simp [work] at stage

theorem beginReload_orderly {s : State} (h : Taken s) : Orderly s (beginReload s) := by
  have moves := beginReload_moves (live := false) h.busy
  unfold beginReload at *
  dsimp only at *
  split
  · rename_i unsaved
    rw [if_pos unsaved] at moves
    exact h.saves (.inl rfl) rfl moves
  · rename_i saved
    rw [if_neg saved] at moves
    refine h.stage (w := .reloadSpin) rfl ?_ moves
    unfold reloadSpindle
    rw [view_setWork, view_startUnless]
    rfl

theorem beginSpinUp_orderly (e : Entry) {s : State} (h : Taken s) : Orderly s (beginSpinUp e s) := by
  unfold beginSpinUp
  refine gated_orderly h fun _ => ?_
  split
  · exact beginStart_orderly h ‹_›
  · split
    · exact beginReload_orderly h
    · refine h.stage (w := .spinOnly) rfl ?_ (beginSpinOnly_moves h.busy)
      unfold beginSpinOnly
      simp

theorem beginSpinDown_orderly {s : State} (h : Taken s) : Orderly s (beginSpinDown s) := by
  have moves := beginSpinDown_moves (live := false) h.busy
  unfold beginSpinDown at *
  dsimp only at *
  split
  · rename_i saved
    rw [if_pos saved] at moves
    refine h.stage (w := .downPark) rfl ?_ moves
    rw [view_downParks]
    rfl
  · rename_i unsaved
    rw [if_neg unsaved] at moves
    split
    · rename_i faulty
      rw [if_pos faulty] at moves
      have eq : view (downParks (slotResult .neither (endRest s)))
          = { view s with work := .downPark, rest := .none, saved := false } := by
        rw [view_downParks]
        simp
      refine Taken.begins ?_ (congrArg View.rest eq) ?_ moves
      · rw [eq]
        exact .of_lawful (.inl rfl) rfl fun ok => View.Bare.lawful { h.bare ok with saved := rfl }
      · have work : (downParks (slotResult .neither (endRest s))).cu.slot.work = .downPark := congrArg View.work eq
        rw [work]
        exact ⟨nofun, nofun⟩
    · rename_i sound
      rw [if_neg sound] at moves
      split
      · rename_i turning
        rw [if_pos turning] at moves
        exact h.saves (.inr (.inr rfl)) rfl moves
      · rename_i slow
        rw [if_neg slow] at moves
        refine h.stage (w := .downSpin) rfl ?_ moves
        simp

theorem takeSpinDown_orderly (e : Entry) {s : State} (h : Taken s) : Orderly s (takeSpinDown e s) := by
  unfold takeSpinDown
  split
  · exact h.finish _
  · exact beginSpinDown_orderly h

theorem takeSeek_orderly (e : Entry) {s : State} (h : Taken s) : Orderly s (takeSeek e s) := by
  refine gated_orderly h fun _ => ?_
  split
  · exact h.finish _
  · refine h.stage (w := .seekSpin) rfl ?_ (beginSeek_moves h.busy)
    unfold beginSeek
    simp

/-- A data command that is refused at a check ends with its context. -/
theorem finish_setTransfer_orderly {s : State} (h : Taken s) (o : OutcomeCode) (t : Transfer)
    (moves : Moves false s (finish o (setTransfer t s))) : Orderly s (finish o (setTransfer t s)) := by
  have goes : (view s).Goes (view (finish o (setTransfer t s))) :=
    (view_finish o (setTransfer t s)).goes fun ok =>
      have calm := (h.bare ok).calm
      ⟨calm.1, calm.2.1, calm.2.2, fun _ => rfl, fun resting ne => (resting.1 ne).1⟩
  have rests : Rests s (finish o (setTransfer t s)) :=
    Rests.trans (t := setTransfer t s) (.of_pos rfl rfl id) (finish_rests o _)
  exact ⟨.of_goes goes fun _ _ _ => rests, Moves.homed moves⟩

theorem beginData_orderly (cmd : DataCommand) {s : State} (h : Taken s) : Orderly s (beginData cmd s) := by
  have moves := beginData_moves (live := false) cmd h.busy
  unfold beginData at *
  dsimp only at *
  split
  · exact h.finish _
  · rename_i some_
    rw [if_neg some_] at moves
    split
    · rename_i out
      rw [if_pos out] at moves
      exact finish_setTransfer_orderly h _ _ moves
    · rename_i fits
      rw [if_neg fits] at moves
      split
      · rename_i protected_
        rw [if_pos protected_] at moves
        exact finish_setTransfer_orderly h _ _ moves
      · rename_i open_
        rw [if_neg open_] at moves
        generalize newTransfer cmd (slotTag s) (word32At (slotParams s) 0) (min (byteAt (slotParams s) 4) 16) s = t
          at moves
        have eq : view (setWork .data (requestData (wakeMechanism (setTransfer t s))))
            = { view s with work := .data, rest := .none, transfer := some t.phase } := by simp
        refine Taken.begins ?_ (congrArg View.rest eq) ?_ moves
        · rw [eq]
          refine .of_lawful (.inl rfl) rfl fun ok => ?_
          obtain ⟨free, ⟨load, copy, cart⟩, transfer, reassign, fmt, origin, loaded, saved, copies⟩ := h.bare ok
          simp_all [View.Lawful]
        · have work : (setWork .data (requestData (wakeMechanism (setTransfer t s)))).cu.slot.work = .data :=
            congrArg View.work eq
          rw [work]
          exact ⟨nofun, nofun⟩

theorem beginReassign_orderly {s : State} (h : Taken s) : Orderly s (beginReassign s) := by
  have moves := beginReassign_moves (live := false) h.busy
  unfold beginReassign at *
  dsimp only at *
  split
  · exact h.finish _
  · rename_i fits
    rw [if_neg fits] at moves
    split
    · exact h.finish _
    · rename_i open_
      rw [if_neg open_] at moves
      split
      · exact h.finish _
      · rename_i spare
        rw [if_neg spare] at moves
        have eq (r : Reassign) : view (setWork .reassign (wakeMechanism (setReassign r s)))
            = { view s with work := .reassign, rest := .none, reassign := some r.phase } := by simp
        refine Taken.begins ?_ (congrArg View.rest (eq _)) ?_ moves
        · rw [eq]
          refine .of_lawful (.inl rfl) rfl fun ok => ?_
          obtain ⟨free, ⟨load, copy, cart⟩, transfer, reassign, fmt, origin, loaded, saved, copies⟩ := h.bare ok
          simp_all [View.Lawful]
        · exact ⟨nofun, nofun⟩

theorem takeFormat_orderly (e : Entry) {s : State} (h : Taken s) : Orderly s (takeFormat e s) := by
  have moves := beginFormat_moves (live := false) h.busy
  unfold takeFormat beginFormat at *
  split
  · exact h.finish _
  · rename_i passes
    rw [passes] at moves
    have eq (f : Format) : view (setWork .format (wakeMechanism (setFormat f s)))
        = { view s with work := .format, rest := .none, fmt := some f.step } := by simp
    refine Taken.begins ?_ (congrArg View.rest (eq _)) ?_ moves
    · rw [eq]
      refine .of_lawful (.inl rfl) rfl fun ok => ?_
      obtain ⟨free, ⟨load, copy, cart⟩, transfer, reassign, fmt, origin, loaded, saved, copies⟩ := h.bare ok
      simp_all [View.Lawful]
    · exact ⟨nofun, nofun⟩

/-- REST entry begins on a READY or BLANK cartridge (R161, R162). -/
theorem beginRest_orderly {s : State} (h : Taken s) (cart : s.cart.state = .ready ∨ s.cart.state = .blank) :
    Orderly s (beginRest s) := by
  have moves := beginRest_moves (live := false) h.busy
  refine ⟨fun ok => ?_, Moves.homed moves⟩
  have t : Taken (endRest s) := h.of_slot rfl
  have b : (view (endRest s)).Bare := t.bare (endRest_goes s ok).1
  have awake {v : View} (rest : v.rest = .none) (same : v.cart = s.cart.state) : v.Resting :=
    ⟨fun ne => absurd rest ne, fun _ => by rwa [same]⟩
  unfold beginRest
  dsimp only
  split
  · obtain ⟨x, eq⟩ := view_beginWriteBack (s := endRest s) b.calm.2.1 b.saved
    have begun : view (setWork .restSave (beginWriteBack (endRest s)))
        = { view (endRest s) with copy := x, saved := !x, work := .restSave } := by
      rw [view_setWork, eq]
    rw [begun]
    refine ⟨b.saves x (.inr (.inl rfl)), fun _ _ => ⟨awake rfl rfl, .of_awake fun dozes => ?_⟩⟩
    obtain ne | stage := dozes
    · exact ne (congrArg View.rest begun)
    · simp at stage
  · have begun : view (restParks (endRest s)) = { view (endRest s) with work := .restPark } := by
      unfold restParks
      simp
    rw [begun]
    exact ⟨View.Bare.lawful { b with }, fun _ _ => ⟨awake rfl rfl, restParks_snug rfl⟩⟩

theorem takeRest_orderly (e : Entry) {s : State} (h : Taken s) : Orderly s (takeRest e s) := by
  unfold takeRest
  split
  · exact h.finish _
  · rename_i ready
    split
    · exact h.finish _
    · refine beginRest_orderly h ?_
      by_contra other
      exact ready (not_or.mp other)

end Sys2Proof.Machine

/-! ## Proofs: the items that take the slot, and the cartridge handler, keep the laws of the contexts and of the
rest -/

namespace Sys2Proof.Machine

/-! ### An eject -/

theorem view_ejectBegun (button force : Bool) (s : State) :
    view (ejectBegun button force s) = { view s with
      cart := .unloading, work := .eject, rest := .none, origin := some s.cart.state, eject := some .writeBackSpin } :=
  rfl

theorem ejectBegun_bare {s : State} (button force : Bool) (b : (view s).Bare) :
    (view (ejectBegun button force s)).Bare := by
  rw [view_ejectBegun]
  refine { b with calm := ⟨b.calm.1, b.calm.2.1, nofun⟩, origin := fun e => b.calm.2.2 ?_ }
  exact Option.some.inj e

theorem beginEject_orderly (button force : Bool) {s : State} (h : Taken s) : Orderly s (beginEject button force s) := by
  have bare (ok : (view s).Lawful) : (view (ejectBegun button force s)).Bare := ejectBegun_bare button force (h.bare ok)
  have begun : (view s).Goes (view (ejectBegun button force s)) :=
    .of_lawful (.inl rfl) rfl fun ok => (bare ok).lawful
  have stage : (ejectBegun button force s).cu.slot.work = .eject := rfl
  have progress : (ejectBegun button force s).cart.eject.isSome = true := rfl
  have goes {t : State} (k : ((view (ejectBegun button force s)).Lawful → (view (ejectBegun button force s)).Bare) →
      (view (ejectBegun button force s)).Goes (view t)) (moves : Moves false s t) : Orderly s t := by
    refine ⟨fun ok => ?_, Moves.homed moves⟩
    have onward := k fun _ => bare ok
    have all := begun.trans onward
    refine (Restful.of_goes all fun _ _ dozes => ?_) ok
    obtain ne | park | stop := View.Wakes.dozes (onward (begun ok).1).2.2 dozes
    · exact absurd rfl ne
    · cases park
    · cases stop
  have moves := beginEject_moves (live := false) button force h.busy
  have eq : beginEject button force s =
      if !(ejectBegun button force s).record.unsaved || (ejectBegun button force s).cart.wp then
        ejectParks (ejectBegun button force s)
      else if button then
        if (ejectBegun button force s).spin.state = .atSpeed then ejectSaves (ejectBegun button force s)
        else ejectSaveFails .recordWriteFailed (ejectBegun button force s)
      else if class13Held (ejectBegun button force s) then
        ejectSaveFails .recordWriteFailed (ejectBegun button force s)
      else if (ejectBegun button force s).spin.state = .atSpeed then ejectSaves (ejectBegun button force s)
      else startRequest (ejectBegun button force s) := rfl
  rw [eq] at moves ⊢
  generalize ejectBegun button force s = u at *
  have fails (o : OutcomeCode) (b : (view u).Lawful → (view u).Bare) : (view u).Goes (view (ejectSaveFails o u)) :=
    ejectSaveFails_goes (u := view u) (b := (view u).saved) o rfl stage b
  have parks (b : (view u).Lawful → (view u).Bare) : (view u).Goes (view (ejectParks u)) := by
    rw [view_ejectParks]
    exact eject_goes (e := (view u).eject.map fun _ => .park) rfl stage fun ok => { b ok with }
  split at moves <;> rename_i one
  · rw [if_pos one]
    exact goes parks moves
  · rw [if_neg one]
    split at moves <;> rename_i two
    · rw [if_pos two]
      split at moves <;> rename_i three
      · rw [if_pos three]
        exact goes (ejectSaves_goes stage progress) moves
      · rw [if_neg three]
        exact goes (fails _) moves
    · rw [if_neg two]
      split at moves <;> rename_i three
      · rw [if_pos three]
        exact goes (fails _) moves
      · rw [if_neg three]
        split at moves <;> rename_i four
        · rw [if_pos four]
          exact goes (ejectSaves_goes stage progress) moves
        · rw [if_neg four]
          exact goes (fun _ => .of_eq (view_startRequest u)) moves

theorem takeEject_orderly (e : Entry) {s : State} (h : Taken s) : Orderly s (takeEject e s) := by
  unfold takeEject
  split
  · exact h.finish _
  · exact beginEject_orderly _ _ h

/-! ### The commands of the settings -/

theorem setSettings_orderly (g : Settings) (s : State) : Orderly s { s with set := g } := .of_same rfl rfl rfl id

theorem takeReadTable_orderly (e : Entry) {s : State} (h : Taken s) : Orderly s (takeReadTable e s) :=
  finishWith_orderly _ _ fun ok => (h.bare ok).calm

theorem takeSetParameter_orderly (e : Entry) {s : State} (h : Taken s) : Orderly s (takeSetParameter e s) := by
  unfold takeSetParameter
  split
  · rename_i v g value
    exact (setSettings_orderly g s).trans (finishWith_orderly _ _ fun ok => (h.of_slot (t := { s with set := g }) rfl).bare ok |>.calm)
  · exact finishWith_orderly _ _ fun ok => (h.bare ok).calm

/-- A rest goes on while the settings are saved. -/
theorem takeSaveSettings_orderly (e : Entry) {s : State} (h : Taken s) : Orderly s (takeSaveSettings e s) := by
  have eq : view (takeSaveSettings e s) = { view s with work := .saving } := rfl
  have goes : (view s).Goes (view (takeSaveSettings e s)) := by
    rw [eq]
    exact fun ok => ⟨View.Bare.lawful { h.bare ok with }, fun ⟨rest, _⟩ => ⟨fun ne => ⟨(rest ne).1, rfl⟩, nofun⟩,
      fun _ => rfl, nofun, nofun⟩
  exact ⟨.of_goes goes fun _ _ _ => .of_pos rfl rfl id, fun k => k⟩

theorem takeLoadDefaults_orderly (e : Entry) {s : State} (h : Taken s) : Orderly s (takeLoadDefaults e s) :=
  (setSettings_orderly { s.set with active := UserSettings.builtIn, trims := factoryTrimsFor s.cart.type } s).trans
    ((h.of_slot (t := { s with set :=
      { s.set with active := UserSettings.builtIn, trims := factoryTrimsFor s.cart.type } }) rfl).finish _)

theorem View.Lawful.calm_of_still {v : View} (ok : v.Lawful) (still : v.work.still = true) : v.Calm := by
  obtain ⟨load, copy, -⟩ := ok.idle_of_still still
  refine ⟨load, copy, fun released => ?_⟩
  obtain ⟨-, -, -, -, -, -, cart, -⟩ := ok
  simp [(cart released).1, Work.still] at still

theorem savedBack_orderly (area : List Byte) (s : State) : Orderly s (savedBack area s) := by
  refine Orderly.settled ?_
  unfold readBackSaved
  split
  · rename_i stage _
    have calm (ok : (view s).Lawful) : (view s).Calm := ok.calm_of_still (by rw [view, stage]; rfl)
    split
    · exact (setSettings_orderly _ s).trans (finish_orderly (s := { s with set := _ }) _ calm)
    · refine Orderly.trans ?_ (finish_orderly .settingsWriteFailed ?_)
      · exact .of_same rfl rfl rfl id
      · exact calm
  · exact .refl s

/-! ### Taking the slot -/

/-- An item takes the free slot. -/
theorem takes_orderly {s t : State} (free : s.cu.slot.item = .free) (eq : view t = { view s with free := false, work := .idle })
    (pos : t.pos = s.pos) (spin : t.spin = s.spin) (mail : t.mail = s.mail) : Orderly s t := by
  have goes : (view s).Goes (view t) := by
    intro ok
    have work : (view s).work = .idle := ok.1 (by simp [view, free])
    obtain ⟨load, copy, transfer, reassign, fmt⟩ := ok.idle_of_still (by rw [work]; rfl)
    obtain ⟨-, rest⟩ := ok
    rw [eq]
    refine ⟨⟨nofun, ?_⟩, fun ⟨rest, _⟩ => ⟨fun ne => ⟨(rest ne).1, rfl⟩, nofun⟩, fun _ => rfl, nofun, nofun⟩
    have same : ({ view s with free := false, work := .idle } : View) = { view s with free := false } := by
      rw [← work]
    rw [same]
    exact rest
  exact ⟨.of_goes goes fun _ _ _ => .of_pos pos spin (by rw [mail]; exact id), fun h => h.of_pos pos⟩

theorem takeHead_taken (e : Entry) (s : State) : Taken (takeHead e s) := ⟨rfl, by simp [takeHead]⟩

theorem takeItem_taken {i : Item} (s : State) (h : i ≠ .free) : Taken (takeItem i s) := ⟨rfl, h⟩

theorem takeHead_orderly (e : Entry) {s : State} (free : s.cu.slot.item = .free) : Orderly s (takeHead e s) :=
  takes_orderly free rfl rfl rfl rfl

theorem takeItem_orderly {i : Item} {s : State} (free : s.cu.slot.item = .free) (internal : i ≠ .free) :
    Orderly s (takeItem i s) := by
  refine takes_orderly free ?_ rfl rfl rfl
  have taken : (i == Item.free) = false := by simpa using internal
  rw [view, takeItem]
  simp only [taken]
  rfl

theorem runHead_orderly {begin' : Entry → State → State} (code : Byte)
    (begins : ∀ e u, Taken u → Orderly u (begin' e u)) (s : State) : Orderly s (runHead code begin' s) := by
  unfold runHead
  split
  · rename_i e head
    unfold headFor at head
    split at head
    · rename_i may
      simp only [headMayRun, slotFree, Bool.and_eq_true, beq_iff_eq] at may
      obtain ⟨⟨free, -⟩, -⟩ := may
      exact ((takeHead_orderly e free).trans (begins e _ (takeHead_taken e s))).settled
    · cases head
  · exact .refl s

theorem takeCancelled_orderly (s : State) : Orderly s (takeCancelled s) := by
  unfold takeCancelled
  split
  · rename_i e rest queue
    split
    · rename_i may
      simp only [slotFree, Bool.and_eq_true, beq_iff_eq] at may
      obtain ⟨⟨-, free⟩, -⟩ := may
      exact (takeHead_orderly e free).trans
        (finishWith_orderly _ _ fun ok => ((takeHead_taken e s).bare ok).calm)
    · exact .refl s
  · exact .refl s

/-- The pending operations of the command unit are no law's concern. -/
theorem setPending_orderly (auto eject wake : Bool) (s : State) : Orderly s
    { s with cu := { s.cu with pendAuto := auto, pendEject := eject, pendWake := wake } } := .of_same rfl rfl rfl id

theorem endRest_orderly (s : State) : Orderly s (endRest s) :=
  ⟨.of_goes (endRest_goes s) fun _ _ _ => .of_pos rfl rfl id, fun h => h⟩

theorem takeAutoStart_orderly (s : State) : Orderly s (takeAutoStart s) := by
  unfold takeAutoStart
  split
  · rename_i may
    simp only [headMayRun, slotFree, Bool.and_eq_true, beq_iff_eq] at may
    obtain ⟨⟨⟨free, -⟩, -⟩, -⟩ := may
    have taken := (setPending_orderly false s.cu.pendEject s.cu.pendWake s).trans
      (takeItem_orderly (i := .autoStart) free nofun)
    have slot := takeItem_taken (i := .autoStart) { s with cu := { s.cu with pendAuto := false } } nofun
    dsimp only
    split
    · exact (taken.trans (slot.finish _)).settled
    · rename_i starts
      refine (taken.trans (beginStart_orderly slot ?_)).settled
      by_contra absent
      exact starts (.inl absent)
  · exact .refl s

theorem takeButtonEject_orderly (s : State) : Orderly s (takeButtonEject s) := by
  unfold takeButtonEject
  split
  · rename_i may
    simp only [slotFree, Bool.and_eq_true, beq_iff_eq] at may
    obtain ⟨⟨free, -⟩, -⟩ := may
    have taken := (setPending_orderly s.cu.pendAuto false s.cu.pendWake s).trans
      (takeItem_orderly (i := .buttonEject) free nofun)
    exact (taken.trans (beginEject_orderly _ _ (takeItem_taken _ nofun))).settled
  · exact .refl s

theorem beginWake_orderly {s : State} (h : Taken s) : Orderly s (beginWake s) := by
  have moves := beginWake_moves (live := false) h.busy
  unfold beginWake at *
  split
  · exact h.finish _
  · rename_i rests
    rw [if_neg rests] at moves
    dsimp only at *
    split
    · have ended : Taken (setCause .wake (endRest s)) := h.of_slot rfl
      exact ((endRest_orderly s).trans (setCause_orderly .wake _)).trans (ended.finish _)
    · rename_i sound
      rw [if_neg sound] at moves
      refine h.stage (w := .wakeSpin) rfl ?_ moves
      rw [view_setWork, view_startUnless]
      rfl

theorem takeTimedWake_orderly (s : State) : Orderly s (takeTimedWake s) := by
  unfold takeTimedWake
  split
  · rename_i may
    simp only [headMayRun, slotFree, Bool.and_eq_true, beq_iff_eq] at may
    obtain ⟨⟨⟨free, -⟩, -⟩, -⟩ := may
    have taken := (setPending_orderly s.cu.pendAuto s.cu.pendEject false s).trans
      (takeItem_orderly (i := .timedWake) free nofun)
    exact (taken.trans (beginWake_orderly (takeItem_taken _ nofun))).settled
  · exact .refl s

theorem takeSoftReset_orderly (s : State) : Orderly s (takeSoftReset s) := by
  unfold takeSoftReset
  split
  · exact .refl s
  · rename_i tag rest list
    split
    · rename_i drain
      simp only [drained, slotFree, Bool.and_eq_true, beq_iff_eq] at drain
      obtain ⟨free, -⟩ := drain
      have woken := (setPending_orderly false s.cu.pendEject s.cu.pendWake s).trans (endRest_orderly _)
      have taken := woken.trans (takeItem_orderly (i := .softReset tag) free nofun)
      have slot := takeItem_taken (i := .softReset tag) (endRest { s with cu := { s.cu with pendAuto := false } }) nofun
      refine (taken.trans (slot.stage (w := .resetPark) rfl ?_ ?_)).settled
      · rw [view_setWork, view_requestRetract]
        rfl
      · exact ((requestRetract_acts _).stays fun _ => requestRetract_tame _).setWork slot.busy _
    · exact .refl s

/-! ### The cartridge handler -/

/-- On a cartridge that is neither READY nor BLANK no rest stands (R160). -/
theorem awake_of_cart {s : State} (ready : s.cart.state ≠ .ready) (blank : s.cart.state ≠ .blank)
    (resting : (view s).Resting) : ¬ Dozes s := by
  have other : ¬ ((view s).cart = .ready ∨ (view s).cart = .blank) := not_or.mpr ⟨ready, blank⟩
  rintro (ne | stage)
  · exact other (resting.1 ne).1
  · refine other (resting.2 ?_)
    obtain e | e := stage <;> (rw [view, e]; rfl)

/-- A shell comes or goes while no rest stands, and the cartridge was not RELEASED. -/
theorem recart_orderly {s t : State} {c : CartState} (eq : view t = { view s with cart := c }) (next : c ≠ .released)
    (ready : s.cart.state ≠ .ready) (blank : s.cart.state ≠ .blank)
    (pos : t.pos = s.pos) : Orderly s t := by
  have goes : (view s).Goes (view t) := by
    have other : ¬ ((view s).cart = .ready ∨ (view s).cart = .blank) := not_or.mpr ⟨ready, blank⟩
    intro ok
    rw [eq]
    refine ⟨?_, fun ⟨rest, rests⟩ => ⟨fun ne => absurd (rest ne).1 other, fun h => absurd (rests h) other⟩,
      fun _ => rfl, id, id⟩
    obtain ⟨free, load, copy, transfer, reassign, fmt, -, origin, loaded, saved, copies⟩ := ok
    exact ⟨free, load, copy, transfer, reassign, fmt, fun e => absurd e next, origin, loaded, saved, copies⟩
  exact .of_awake goes (awake_of_cart ready blank) fun h => h.of_pos pos

theorem insertShell_orderly (a b w : Bool) (s : State) : Orderly s (insertShell a b w s) := by
  have pins : Orderly s { s with pins := { s.pins with seated := true, notchA := a, notchB := b, wprot := w } } :=
    setPins_orderly _ s
  unfold insertShell
  dsimp only
  split
  · exact pins
  · rename_i empty
    have empty : s.cart.state = .empty := not_not.mp empty
    have recart {t : State} {c : CartState} (eq : view t = { view s with cart := c }) (next : c ≠ .released)
        (pos : t.pos = s.pos) : Orderly s t :=
      recart_orderly eq next (by rw [empty]; nofun) (by rw [empty]; nofun) pos
    split
    · exact recart (c := .refused .typeUnknown) rfl nofun rfl
    · split
      · exact recart (c := .present) rfl nofun rfl
      · exact recart (c := .present) rfl nofun rfl

theorem discardSession_pos (s : State) : (discardSession s).pos = s.pos := by
  unfold discardSession
  dsimp only
  split <;> rfl

theorem shellLeaves_pos (s : State) : (shellLeaves s).pos = s.pos := discardSession_pos (setCart .empty s)

/-- With the cartridge RELEASED an eject waits for its shell. -/
theorem View.Lawful.of_released {v : View} (ok : v.Lawful) (released : v.cart = .released) :
    v.work = .eject ∧ v.load = false ∧ v.copy = false := by
  obtain ⟨-, load, copy, -, -, -, cart, -⟩ := ok
  obtain ⟨stage, progress⟩ := cart released
  refine ⟨stage, Bool.eq_false_iff.mpr fun h => ?_, Bool.eq_false_iff.mpr fun h => ?_⟩
  · obtain e | e := load (.inl h) <;> simp [e] at stage
  · have owned := copy (.inl h)
    simp [View.owned, stage, progress] at owned

theorem seatedFalls_orderly (s : State) : Orderly s (seatedFalls s) := by
  have low : Orderly s { s with pins := { s.pins with seated := false } } := setPins_orderly _ s
  unfold seatedFalls
  dsimp only
  split
  · rename_i released
    refine (Orderly.of_awake (s := s) (fun ok => ?_)
      (awake_of_cart (by rw [released]; nofun) (by rw [released]; nofun))
      (fun h => Moves.homed (ejectLeaves_moves _) (low.homed h))).settled
    obtain ⟨stage, load, copy⟩ := ok.of_released (v := view s) released
    exact ejectLeaves_goes (u := view s) rfl (fun _ => ⟨load, copy⟩) (by rw [stage]; rfl) ok
  · split
    · rename_i may
      have other : s.cart.state ≠ .ready ∧ s.cart.state ≠ .blank := by
        constructor <;> intro e <;> simp [removable, e] at may
      refine recart_orderly (c := .empty) ?_ nofun other.1 other.2 ?_
      · exact view_shellLeaves { s with pins := { s.pins with seated := false } }
      · exact shellLeaves_pos { s with pins := { s.pins with seated := false } }
    · exact low

theorem pressButton_orderly (s : State) : Orderly s (pressButton s) := by
  unfold pressButton
  split
  · exact .refl s
  · split
    · exact setCause_orderly _ s
    · have asked := (setPending_orderly false true s.cu.pendWake s).trans (endRest_orderly _)
      exact ((asked.trans (cancelQueue_orderly _)).trans (tellAbort_orderly _)).settled

theorem windowExpires_orderly (s : State) : Orderly s (windowExpires s) := by
  unfold windowExpires
  split
  · rename_i released
    refine (Orderly.of_awake (fun ok => ?_) (awake_of_cart (by rw [released]; nofun) (by rw [released]; nofun))
      (Moves.homed (ejectJams_moves s))).settled
    obtain ⟨stage, load, copy⟩ := ok.of_released (v := view s) released
    exact ejectJams_goes (by change (view s).work.still = false; rw [stage]; rfl) (fun _ => ⟨load, copy⟩) ok
  · exact .refl s

end Sys2Proof.Machine

/-! ## Proofs: every step keeps the laws of the contexts and of the rest -/

namespace Sys2Proof.Machine

/-! ### Items at the queue head -/

theorem takeDataCommand_orderly (cmd : DataCommand) (e : Entry) {s : State} (h : Taken s) :
    Orderly s (takeDataCommand cmd e s) := gated_orderly h fun _ => beginData_orderly cmd h

theorem takeReassign_orderly (e : Entry) {s : State} (h : Taken s) : Orderly s (takeReassign e s) :=
  gated_orderly h fun _ => beginReassign_orderly h

theorem runAnyHead_orderly (e : Entry) (s : State) : Orderly s (runAnyHead e s) := by
  have choose {p : Prop} [Decidable p] {a b : State} (h : Orderly s a) (k : Orderly s b) :
      Orderly s (if p then a else b) := by
    split
    · exact h
    · exact k
  unfold runAnyHead
  refine choose (runHead_orderly _ (fun e _ h => beginSpinUp_orderly e h) s) ?_
  refine choose (runHead_orderly _ (fun e _ h => takeSpinDown_orderly e h) s) ?_
  refine choose (runHead_orderly _ (fun e _ h => takeSeek_orderly e h) s) ?_
  refine choose (runHead_orderly _ (fun e _ h => takeDataCommand_orderly _ e h) s) ?_
  refine choose (runHead_orderly _ (fun e _ h => takeDataCommand_orderly _ e h) s) ?_
  refine choose (runHead_orderly _ (fun e _ h => takeDataCommand_orderly _ e h) s) ?_
  refine choose (runHead_orderly _ (fun e _ h => takeReassign_orderly e h) s) ?_
  refine choose (runHead_orderly _ (fun e _ h => takeFormat_orderly e h) s) ?_
  refine choose (runHead_orderly _ (fun e _ h => takeRest_orderly e h) s) ?_
  refine choose (runHead_orderly _ (fun e _ h => takeEject_orderly e h) s) ?_
  refine choose (runHead_orderly _ (fun e _ h => takeReadTable_orderly e h) s) ?_
  refine choose (runHead_orderly _ (fun e _ h => takeSetParameter_orderly e h) s) ?_
  refine choose (runHead_orderly _ (fun e _ h => takeSaveSettings_orderly e h) s) ?_
  exact runHead_orderly _ (fun e _ h => takeLoadDefaults_orderly e h) s

theorem internalStep_orderly {s t : State} (h : internalStep s = some t) : Orderly s t := by
  unfold internalStep at h
  split at h
  · exact Option.some.inj h ▸ replyTakesPlace_orderly s
  · split at h
    · exact Option.some.inj h ▸ kindTakesPlace_orderly s
    · split at h
      · split at h
        · exact Option.some.inj h ▸ takeSoftReset_orderly s
        · split at h
          · exact Option.some.inj h ▸ takeButtonEject_orderly s
          · split at h
            · split at h
              · exact Option.some.inj h ▸ takeCancelled_orderly s
              · split at h
                · exact Option.some.inj h ▸ runAnyHead_orderly _ s
                · cases h
            · split at h
              · exact Option.some.inj h ▸ takeAutoStart_orderly s
              · split at h
                · exact Option.some.inj h ▸ takeTimedWake_orderly s
                · cases h
      · cases h

/-! ### A tick -/

/-- The laws do not see how much time is left. -/
theorem view_countDown (s : State) : view (countDown s) = view s := by
  rw [countDown, ackByte_frame]
  simp [view, Function.comp_def]

theorem countDown_rests (s : State) : Rests s (countDown s) := by
  have spins : Rests s { s with spin := (countDown s).spin } := by
    rw [countDown, ackByte_frame]
    exact .of_spin (fun h _ => h) .inr id
  refine spins.trans (.of_same ?_ ?_ rfl ?_) <;> rw [countDown, ackByte_frame] <;> exact id

theorem countDown_orderly (s : State) : Orderly s (countDown s) := by
  refine .of_rests (view_countDown s) (countDown_rests s) fun h => h.of_same ?_ ?_ <;>
    rw [countDown, ackByte_frame]
  exact id

theorem expire_orderly (t : State → Timer) {f : State → State} (h : ∀ u, Orderly u (f u)) (s : State) :
    Orderly s (expire t f s) := by
  unfold expire
  split
  · exact h s
  · exact .refl s

theorem expireDrive_orderly (s : State) : Orderly s (expireDrive s) := by
  have spindle (u : State) :
      Orderly u (if u.spin.state = .accel ∧ u.spin.gap = Config.gapMax then accelSaturates u else u) := by
    split
    · exact accelSaturates_orderly u
    · exact .refl u
  have index (u : State) : Orderly u (if Config.gapLimit < u.spin.gap then indexLost u else u) := by
    split
    · exact indexLost_orderly u
    · exact .refl u
  exact ((((((((expire_orderly _ byteGapExpires_orderly s).trans (expire_orderly _ quietExpires_orderly _)).trans
    (expire_orderly _ windowExpires_orderly _)).trans (expire_orderly _ kickExpires_orderly _)).trans
    (expire_orderly _ spinUpExpires_orderly _)).trans (expire_orderly _ stopExpires_orderly _)).trans
    (expire_orderly _ brakeExpires_orderly _)).trans (spindle _)).trans (index _)

theorem expireHeads_orderly (s : State) : Orderly s (expireHeads s) := by
  refine Orderly.trans ?_ (expire_orderly (fun s => s.rest.timer) restExpires_orderly _)
  refine Orderly.settled ?_
  exact (((((((expire_orderly _ missDeclared_orderly s).trans
    (expire_orderly _ (fun u => loadExpires_orderly u.pins.park u) _)).trans
    (expire_orderly _ retractExpires_orderly _)).trans (expire_orderly _ emergencyExpires_orderly _)).trans
    (expire_orderly _ copyAttemptExpires_orderly _)).trans (expire_orderly _ dataTimes_orderly _)).trans
    (expire_orderly _ dataTimes_orderly _)).trans (expire_orderly _ gateWaitExpires_orderly _)

theorem tick_orderly (s : State) : Orderly s (tick s) :=
  ((countDown_orderly s).trans (expireDrive_orderly _)).trans (expireHeads_orderly _)

/-! ### The rows -/

theorem unlessReset_orderly {f : State → State} (h : ∀ s, Orderly s (f s)) (s : State) :
    Orderly s (unlessReset f s) := by
  unfold unlessReset
  split
  · exact .refl s
  · exact h s

theorem idle_orderly (s : State) : Orderly s (idle s) := by
  refine unlessReset_orderly (fun u => ?_) s
  unfold proceed
  split
  · exact internalStep_orderly ‹_›
  · exact tick_orderly u

/-- A hard reset leaves an idle slot, no rest and no held request (R23, R73, R160). -/
theorem resetState_laws (l : Levels) (s : State) :
    (view (resetState l s)).Lawful ∧ (view (resetState l s)).Resting ∧ Snug (resetState l s)
      ∧ Homed (resetState l s) := by
  have cart : cartAtReset l ≠ .released := by
    unfold cartAtReset stateForType
    repeat' split
    all_goals nofun
  have held : (posAtReset l).held = none := by
    unfold posAtReset
    split <;> rfl
  refine ⟨⟨fun _ => rfl, ?_, ?_, ?_, ?_, ?_, fun e => absurd e cart, nofun, nofun, ?_, nofun⟩,
    ⟨fun ne => absurd rfl ne, nofun⟩, .of_awake ?_, .of_none held⟩
  · rintro (e | e) <;> cases e
  · rintro (e | e | e) <;> cases e
  · exact fun ne => absurd rfl ne
  · exact fun ne => absurd rfl ne
  · exact fun ne => absurd rfl ne
  · rintro (e | e) <;> cases e
  · rintro (ne | e | e)
    · exact ne rfl
    · cases e
    · cases e

theorem hardResets_laws (l : Levels) (s : State) :
    (view (hardResets l s)).Lawful ∧ (view (hardResets l s)).Resting ∧ Snug (hardResets l s)
      ∧ Homed (hardResets l s) := by
  have reset := resetState_laws l s
  unfold hardResets
  split
  · exact reset
  · obtain ⟨lawful, resting, snug, homed⟩ := reset
    obtain ⟨restful, keeps⟩ := (raise_orderly .supplyLoss (resetState l s)).settled
    obtain ⟨lawful', rest⟩ := restful lawful
    obtain ⟨resting', snug'⟩ := rest resting snug
    exact ⟨lawful', resting', snug', keeps homed⟩

/-- Any row is a hard reset or keeps the laws. -/
theorem exec_orderly (c : Instr) {s t : State} (h : exec c s = .next t) :
    (∃ l, t = hardResets l s) ∨ Orderly s t := by
  cases c with
  | hardReset levels =>
    cases h
    exact .inl ⟨levels, rfl⟩
  | commandFrame body =>
    cases h
    exact .inr (unlessReset_orderly (receiveBody_orderly body) s)
  | dataFrame body =>
    cases h
    exact .inr (unlessReset_orderly (receiveData_orderly body) s)
  | receiveError e =>
    cases h
    exact .inr (unlessReset_orderly receiveError_orderly s)
  | byteGapExpiry =>
    cases h
    exact .inr (unlessReset_orderly byteGapExpires_orderly s)
  | discardQuietExpiry =>
    cases h
    exact .inr (unlessReset_orderly quietExpires_orderly s)
  | busGrant =>
    cases h
    exact .inr (unlessReset_orderly busGrant_orderly s)
  | dirLowDuringSend =>
    cases h
    exact .inr (unlessReset_orderly dirFalls_orderly s)
  | frameSent =>
    cases h
    exact .inr (unlessReset_orderly frameSent_orderly s)
  | kindByteTakesPlace =>
    cases h
    exact .inr (unlessReset_orderly kindTakesPlace_orderly s)
  | replyTakesPlace =>
    cases h
    exact .inr (unlessReset_orderly replyTakesPlace_orderly s)
  | spinUp =>
    cases h
    exact .inr (unlessReset_orderly (runHead_orderly _ fun e _ h => beginSpinUp_orderly e h) s)
  | spinDown =>
    cases h
    exact .inr (unlessReset_orderly (runHead_orderly _ fun e _ h => takeSpinDown_orderly e h) s)
  | seek =>
    cases h
    exact .inr (unlessReset_orderly (runHead_orderly _ fun e _ h => takeSeek_orderly e h) s)
  | read =>
    cases h
    exact .inr (unlessReset_orderly (runHead_orderly _ fun e _ h => takeDataCommand_orderly _ e h) s)
  | write =>
    cases h
    exact .inr (unlessReset_orderly (runHead_orderly _ fun e _ h => takeDataCommand_orderly _ e h) s)
  | verify =>
    cases h
    exact .inr (unlessReset_orderly (runHead_orderly _ fun e _ h => takeDataCommand_orderly _ e h) s)
  | reassign =>
    cases h
    exact .inr (unlessReset_orderly (runHead_orderly _ fun e _ h => takeReassign_orderly e h) s)
  | format =>
    cases h
    exact .inr (unlessReset_orderly (runHead_orderly _ fun e _ h => takeFormat_orderly e h) s)
  | rest =>
    cases h
    exact .inr (unlessReset_orderly (runHead_orderly _ fun e _ h => takeRest_orderly e h) s)
  | eject =>
    cases h
    exact .inr (unlessReset_orderly (runHead_orderly _ fun e _ h => takeEject_orderly e h) s)
  | readTable =>
    cases h
    exact .inr (unlessReset_orderly (runHead_orderly _ fun e _ h => takeReadTable_orderly e h) s)
  | setParameter =>
    cases h
    exact .inr (unlessReset_orderly (runHead_orderly _ fun e _ h => takeSetParameter_orderly e h) s)
  | saveSettings =>
    cases h
    exact .inr (unlessReset_orderly (runHead_orderly _ fun e _ h => takeSaveSettings_orderly e h) s)
  | saveSettingsReadBack area =>
    cases h
    exact .inr (unlessReset_orderly (savedBack_orderly area) s)
  | loadDefaults =>
    cases h
    exact .inr (unlessReset_orderly (runHead_orderly _ fun e _ h => takeLoadDefaults_orderly e h) s)
  | sense tag =>
    cases h
    exact .inr (unlessReset_orderly (receiveCommand_orderly (putReply_orderly _)) s)
  | clearAttention tag causes =>
    cases h
    exact .inr (unlessReset_orderly (receiveCommand_orderly (doClearAttention_orderly tag causes)) s)
  | abort tag =>
    cases h
    exact .inr (unlessReset_orderly (receiveCommand_orderly (doAbort_orderly tag)) s)
  | hold tag =>
    cases h
    exact .inr (unlessReset_orderly (receiveCommand_orderly (doHold_orderly tag)) s)
  | release tag =>
    cases h
    exact .inr (unlessReset_orderly (receiveCommand_orderly (doRelease_orderly tag)) s)
  | reset tag =>
    cases h
    exact .inr (unlessReset_orderly (receiveCommand_orderly (doReset_orderly tag)) s)
  | cancelledCommandTakesSlot =>
    cases h
    exact .inr (unlessReset_orderly takeCancelled_orderly s)
  | autoStart =>
    cases h
    exact .inr (unlessReset_orderly takeAutoStart_orderly s)
  | buttonEject =>
    cases h
    exact .inr (unlessReset_orderly takeButtonEject_orderly s)
  | timedWake =>
    cases h
    exact .inr (unlessReset_orderly takeTimedWake_orderly s)
  | softResetPark =>
    cases h
    exact .inr (unlessReset_orderly takeSoftReset_orderly s)
  | insertion notchA notchB wprot =>
    cases h
    exact .inr (unlessReset_orderly (insertShell_orderly notchA notchB wprot) s)
  | seatedFalling =>
    cases h
    exact .inr (unlessReset_orderly seatedFalls_orderly s)
  | ejectButtonPress =>
    cases h
    exact .inr (unlessReset_orderly pressButton_orderly s)
  | releaseWindowExpiry =>
    cases h
    exact .inr (unlessReset_orderly windowExpires_orderly s)
  | indexArrival sig =>
    cases h
    exact .inr (unlessReset_orderly (indexArrives_orderly sig) s)
  | kickTimerExpiry =>
    cases h
    exact .inr (unlessReset_orderly kickExpires_orderly s)
  | accelGapSaturation =>
    cases h
    exact .inr (unlessReset_orderly accelSaturates_orderly s)
  | spinUpTimerExpiry =>
    cases h
    exact .inr (unlessReset_orderly spinUpExpires_orderly s)
  | indexLoss =>
    cases h
    exact .inr (unlessReset_orderly indexLost_orderly s)
  | stopTimerExpiry =>
    cases h
    exact .inr (unlessReset_orderly stopExpires_orderly s)
  | brakeTimerExpiry =>
    cases h
    exact .inr (unlessReset_orderly brakeExpires_orderly s)
  | markStrobe cylinder pe withIndex park sig =>
    cases h
    exact .inr (unlessReset_orderly (markStrobes_orderly cylinder pe withIndex park sig) s)
  | missingSampleDeclaration =>
    cases h
    exact .inr (unlessReset_orderly missDeclared_orderly s)
  | servoLoss =>
    cases h
    exact .inr (unlessReset_orderly servoLost_orderly s)
  | seekTimeout =>
    cases h
    exact .inr (unlessReset_orderly seekExpires_orderly s)
  | loadTimerExpiry park =>
    cases h
    exact .inr (unlessReset_orderly (loadExpires_orderly park) s)
  | retractTimerExpiry =>
    cases h
    exact .inr (unlessReset_orderly retractExpires_orderly s)
  | emergencyTimerExpiry =>
    cases h
    exact .inr (unlessReset_orderly emergencyExpires_orderly s)
  | parkRises =>
    cases h
    exact .inr (unlessReset_orderly parkSeen_orderly s)
  | writeFault =>
    cases h
    exact .inr (unlessReset_orderly writeFaults_orderly s)
  | dataTimerExpiry =>
    cases h
    exact .inr (unlessReset_orderly dataTimes_orderly s)
  | gateWaitTimerExpiry =>
    cases h
    exact .inr (unlessReset_orderly gateWaitExpires_orderly s)
  | formatReadWaitExpiry =>
    cases h
    exact .inr (unlessReset_orderly readWaitExpires_orderly s)
  | copyAttemptTimerExpiry =>
    cases h
    exact .inr (unlessReset_orderly copyAttemptExpires_orderly s)
  | supwarnFalls =>
    cases h
    exact .inr (unlessReset_orderly supplyWarns_orderly s)
  | supwarnRises =>
    cases h
    exact .inr (unlessReset_orderly supplyRecovers_orderly s)
  | restTimerExpiry =>
    cases h
    exact .inr (unlessReset_orderly restExpires_orderly s)
  | byteReceived data dp =>
    cases h
    exact .inr (unlessReset_orderly (byteReceived_orderly data dp) s)

/-- A step is a hard reset or keeps the laws. -/
theorem step_orderly {s t : State} (h : step s = .next t) :
    (∃ l u, t = hardResets l u) ∨ Orderly s t := by
  unfold step at h
  split at h
  · obtain rfl := Host.Outcome.next.inj h
    exact .inr (idle_orderly s)
  · rename_i c rest _
    obtain ⟨l, eq⟩ | orderly := exec_orderly c h
    · exact .inl ⟨l, _, eq⟩
    · have taken : Orderly s { s with pending := rest } := .of_same rfl rfl rfl id
      exact .inr (taken.trans orderly)

/-! ### The laws of the model -/

theorem copyOwned_iff (s : State) : copyOwned s ↔ (view s).owned := by
  unfold copyOwned View.owned
  cases stage : s.cu.slot.work <;> simp [view, stage]

/-- With no answer under way the law of contexts is a law of the view. -/
theorem contextLaw_iff {s : State} (quiet : NoMail s) : ContextLaw s ↔ (view s).Lawful := by
  have loaded : s.mail.load = none := by rw [quiet]; rfl
  have saved : s.mail.saved = none := by rw [quiet]; rfl
  have copies : s.mail.copies = none := by rw [quiet]; rfl
  rw [ContextLaw, copyOwned_iff]
  simp [View.Lawful, view, loaded, saved, copies, Option.isSome_iff_ne_none]

/-- With no answer under way the law of rest control is a law of the view and of the mechanism. -/
theorem restLaw_iff {s : State} (quiet : NoMail s) :
    RestLaw s ↔ (view s).Resting ∧ Snug s ∧ Homed s := by
  have note : BrakeNote s := by
    rw [BrakeNote, quiet]
    nofun
  constructor
  · rintro ⟨rest, enters, park, stop, homed⟩
    refine ⟨⟨fun ne => ?_, enters⟩, ⟨?_, fun e => ?_, fun e => ⟨stop e, note⟩⟩, homed⟩
    · obtain ⟨cart, -, -, still, -⟩ := rest ne
      exact ⟨cart, still⟩
    · rintro (ne | stage)
      · obtain ⟨-, home, held, -, -⟩ := rest ne
        exact ⟨home, held⟩
      · exact park stage
    · obtain ⟨-, -, -, -, slow⟩ := rest (by rw [e]; nofun)
      exact slow e
  · rintro ⟨⟨rest, enters⟩, ⟨home, slow, slack⟩, homed⟩
    refine ⟨fun ne => ?_, enters, fun stage => home (.inr stage), fun e => (slack e).1, homed⟩
    obtain ⟨cart, still⟩ := rest ne
    obtain ⟨state, held⟩ := home (.inl ne)
    exact ⟨cart, state, held, still, slow⟩

theorem context_kept {s t : State} (quiet : NoMail s) (ok : ContextLaw s) (h : step s = .next t) : ContextLaw t := by
  refine (contextLaw_iff (step_noMail quiet h)).mpr ?_
  obtain ⟨l, u, rfl⟩ | orderly := step_orderly h
  · exact (hardResets_laws l u).1
  · exact (orderly.restful ((contextLaw_iff quiet).mp ok)).1

theorem rest_kept {s t : State} (quiet : NoMail s) (contexts : ContextLaw s) (ok : RestLaw s)
    (h : step s = .next t) : RestLaw t := by
  refine (restLaw_iff (step_noMail quiet h)).mpr ?_
  obtain ⟨l, u, rfl⟩ | orderly := step_orderly h
  · exact (hardResets_laws l u).2
  · obtain ⟨resting, snug, homed⟩ := (restLaw_iff quiet).mp ok
    obtain ⟨-, rest⟩ := orderly.restful ((contextLaw_iff quiet).mp contexts)
    obtain ⟨resting', snug'⟩ := rest resting snug
    exact ⟨resting', snug', orderly.homed homed⟩

end Sys2Proof.Machine

namespace Sys2Proof

open Machine

/-- Settles O9: every operation is described by what it does to the slot, its contexts and the answers under
way, and by what it leaves of a mechanism at rest. -/
theorem restLawKept : Obligations.RestLawKept :=
  ⟨fun _ _ => context_kept, fun _ _ => rest_kept⟩

end Sys2Proof
